-- ==== Sys2Proof/Word.lean ====
section
/-! DEFINITION. The machine word (R6). -/

namespace Sys2Proof

/-- Every register, table entry and memory word is 36 bits wide (R6). -/
abbrev Word := BitVec 36

end Sys2Proof
end

