-- ==== Sys2Proof/Syntax.lean ====
section
/-! DEFINITION. The commands and events of the operation table, with their operands. -/

namespace Sys2Proof

/-- A register page of the host map (R29). -/
inductive Pg where
  | sys | rst | clk | sec | ovl | evt | arb | time
  | ax (n : Fin 48) | fb (n : Fin 48) | dp (n : Fin 48)
  | ae (k : Fin 12) | pe | adc (u : Fin 6) | ec | si (j : Fin 8) | fiob (b : Fin 4)
  | recorder (j : Fin 4) | can (c : Fin 4) | eth (p : Fin 2) | ptp | dbg
deriving DecidableEq, Repr

/-- Who makes an access (R42, R43): the host through BAR0 or BAR2, the service SPI port, PE, an axis engine, the safety
island, a host DMA engine, the JTAG port (R433), or another block acting as master. -/
inductive Req where
  | bar0 | bar2 | spi | pe | ae (k : Fin 12) | si | dma | jtag | block
deriving DecidableEq, Repr

/-- A credit queue (R77, R125, R150): PQ, FQ, MQ, OQ and DQ of an axis, and the CQ that feeds an axis engine. -/
inductive QId where
  | pq (n : Fin 48) | fq (n : Fin 48) | mq (n : Fin 48) | oq (n : Fin 48) | dq (n : Fin 48) | cq (k : Fin 12)
deriving DecidableEq, Repr

/-- The three watchdogs of RST (R62). -/
inductive Wdt where
  | ctrl | data | mgmt
deriving DecidableEq, Repr

/-- The reset sources of R58, in the order of their RST_CAUSE bits. -/
inductive RstSrc where
  | por | bor | pin | wdtCtrl | wdtData | wdtMgmt | si | swCold | swWarm | dbg
deriving DecidableEq, Repr

/-- A decider of the safety island: the safety processor or one of the two fallback lanes (R19). -/
inductive Decider where
  | sp | laneA | laneB
deriving DecidableEq, Repr

/-- A CAN frame as it stands on the bus (R382); `ago` ticks have passed since its SOF. -/
structure CanFrame where
  ide : Bool
  fdf : Bool
  brs : Bool
  esi : Bool
  rtr : Bool
  id : Nat
  dlc : Nat
  data : List (BitVec 8)
  ago : Nat
deriving DecidableEq, Repr

/-- An Ethernet frame from destination address to payload end; `ok` where its FCS and form are right (R410). `ago` and `fwdAgo`
ticks have passed since the instant of R415 of its receipt and of a forwarded copy's transmission. -/
structure EthFrame where
  ok : Bool
  bytes : List (BitVec 8)
  ago : Nat
  fwdAgo : Nat
deriving DecidableEq, Repr

/-- How a transmit attempt of a CAN link ends (R393): an error with its code, and whether TX_ERR counts it (R382). -/
inductive TxResult where
  | sent
  | arbLost
  | error (lec : Nat) (counts : Bool)
deriving DecidableEq, Repr

/-- What the code of a store word shows at a read (R348). -/
inductive EccFind where
  | none | single | double
deriving DecidableEq, Repr

/-- A host write to the configuration space of the endpoint (R426, R427, R422). -/
inductive CfgWrite where
  | d3hot (on : Bool)
  | busMaster (on : Bool)
  | msiEnable (on : Bool)
  | msiMask (v : Fin 16) (on : Bool)
  | bar (second : Bool) (base : BitVec 64)
  | msiMessage (addr : BitVec 64) (data : BitVec 16)
  | deviceControl (payload request : Fin 8)
deriving DecidableEq, Repr

/-- What VIO33 does under overload (R440). -/
inductive Vio33 where
  | limit | foldback | thermalOff | normal
deriving DecidableEq, Repr

/-- The commands and events of the block: one constructor per row of the operation table, in its order. -/
inductive Instr where
  /-- REGISTER_WRITE (R11). -/
  | registerWrite (r : Req) (addr : Nat) (data : BitVec 64)
  /-- PCIE_MEMORY_REQUEST (R31). -/
  | pcieMemoryRequest (r : Req) (addr : Nat) (wr : Bool) (narrow : Bool) (data : List (BitVec 32))
  /-- WRITE_32_LOW (R33). -/
  | write32Low (r : Req) (addr : Nat) (data : BitVec 32)
  /-- WRITE_32_HIGH (R33). -/
  | write32High (r : Req) (addr : Nat) (data : BitVec 32)
  /-- READ_32_LOW (R34). -/
  | read32Low (r : Req) (addr : Nat)
  /-- READ_32_HIGH (R34). -/
  | read32High (r : Req) (addr : Nat)
  /-- SOFT_RESET (R37). -/
  | softReset (r : Req) (p : Pg) (freeze : Bool) (en : Bool)
  /-- SOFT_RESET_DONE (R37). -/
  | softResetDone (p : Pg)
  /-- PAGE_EN_WRITE (R41). -/
  | pageEnWrite (r : Req) (p : Pg) (en : Bool)
  /-- EVENT_ACK (R42). -/
  | eventAck (r : Req) (p : Pg) (bits : BitVec 32)
  /-- UNLOCK_KEY1 (R49). -/
  | unlockKey1 (r : Req)
  /-- UNLOCK_KEY2 (R49). -/
  | unlockKey2 (r : Req)
  /-- UNLOCK_OTHER_VALUE (R50). -/
  | unlockOtherValue (r : Req) (w : Word)
  /-- UNLOCK_WINDOW_EXPIRY (R49). -/
  | unlockWindowExpiry
  /-- PLL_LOCK (R51). -/
  | pllLock
  /-- CLOCK_UNGATE (R51). -/
  | clockUngate
  /-- PLL_LOCK_LOSS (R52). -/
  | pllLockLoss
  /-- ROOT_WATCH_WINDOW (R53). -/
  | rootWatchWindow (count : Nat)
  /-- SI_WATCH_WINDOW (R54). -/
  | siWatchWindow (count : Nat)
  /-- SCLK_SI_STOP (R55). -/
  | sclkSiStop
  /-- POWER_ON_ASSERT (R457). -/
  | powerOnAssert
  /-- POWER_ON_RELEASE (R457). -/
  | powerOnRelease
  /-- BROWN_OUT_ASSERT (R58). -/
  | brownOutAssert
  /-- BROWN_OUT_RELEASE (R58). -/
  | brownOutRelease
  /-- RESET_IN_PULSE (R458). -/
  | resetInPulse (ns : Nat)
  /-- WATCHDOG_WARNING (R62). -/
  | watchdogWarning (w : Wdt)
  /-- WATCHDOG_EXPIRY (R62). -/
  | watchdogExpiry (w : Wdt)
  /-- WDT_KICK_MGMT (R62). -/
  | wdtKickMgmt (r : Req)
  /-- WDT_KICK_DATA (R62). -/
  | wdtKickData (r : Req)
  /-- WDT_KICK_CTRL (R62). -/
  | wdtKickCtrl (r : Req)
  /-- SOFTWARE_WARM_RESET (R58). -/
  | softwareWarmReset (r : Req)
  /-- SOFTWARE_COLD_RESET (R58). -/
  | softwareColdReset (r : Req)
  /-- WARM_RESET_ASSERT (R68). -/
  | warmResetAssert (src : RstSrc)
  /-- RESET_STRETCH_END (R61). -/
  | resetStretchEnd
  /-- MANAGEMENT_RELEASE (R63). -/
  | managementRelease
  /-- STORE_READY (R63). -/
  | storeReady
  /-- PERIPHERAL_RELEASE (R63). -/
  | peripheralRelease
  /-- DRIVE_PORT_RELEASE (R63). -/
  | drivePortRelease
  /-- SERVO_BOUNDARY (R94). -/
  | servoBoundary (k : Fin 12)
  /-- PROFILE_CUTOFF (R108). -/
  | profileCutoff (k : Fin 12)
  /-- AX_CFG_WRITE (R87). -/
  | axCfgWrite (r : Req) (n : Fin 48) (w : Word)
  /-- AXIS_ACK (R88). -/
  | axisAck (r : Req) (n : Fin 48)
  /-- QUEUE_STAT_CLR (R85). -/
  | queueStatClr (r : Req) (q : QId)
  /-- STARVE (R92). -/
  | starve (n : Fin 48)
  /-- CUR_MISS (R92). -/
  | curMiss (n : Fin 48)
  /-- FB_LOSS (R92). -/
  | fbLoss (n : Fin 48)
  /-- CURRENT_PASS (R162). -/
  | currentPass (n : Fin 48)
  /-- CUR_WAIT_EXPIRY (R90). -/
  | curWaitExpiry (n : Fin 48)
  /-- SERVO_TASK (R167). -/
  | servoTask (n : Fin 48)
  /-- STEPPER_LOOP_TASK (R169). -/
  | stepperLoopTask (n : Fin 48)
  /-- MOVE_START (R109). -/
  | moveStart (r : Req) (n : Fin 48) (table : Nat)
  /-- MOVE_APPEND (R109). -/
  | moveAppend (r : Req) (n : Fin 48) (table : Nat)
  /-- MOVE_REPLACE (R111). -/
  | moveReplace (r : Req) (n : Fin 48) (table : Nat)
  /-- RAMP_STOP (R112). -/
  | rampStop (r : Req) (n : Fin 48)
  /-- HARD_STOP (R114). -/
  | hardStop (r : Req) (n : Fin 48)
  /-- MOVE_CLEAR (R109). -/
  | moveClear (r : Req) (n : Fin 48)
  /-- DIRECTORY_ENTRY_ARRIVAL (R103). -/
  | directoryEntryArrival (n : Fin 48)
  /-- REFILL_TABLET (R104). -/
  | refillTablet
  /-- SEGMENT_PUSH (R107). -/
  | segmentPush (r : Req) (n : Fin 48) (w3 : Word)
  /-- PROF_CFG_WRITE (R123). -/
  | profCfgWrite (r : Req) (n : Fin 48) (w : Word)
  /-- LIMIT_DEBOUNCE_ACCEPT (R116). -/
  | limitDebounceAccept (n : Fin 48) (pos : Bool) (active : Bool)
  /-- GEAR_ENGAGE (R130). -/
  | gearEngage (r : Req) (n : Fin 48)
  /-- GEAR_DISENGAGE (R131). -/
  | gearDisengage (r : Req) (n : Fin 48)
  /-- GEAR_CONFIG_WRITE (R127). -/
  | gearConfigWrite (r : Req) (n : Fin 48) (off : Nat) (w : Word)
  /-- MASTER_LOST (R137). -/
  | masterLost (n : Fin 48)
  /-- VM_ENABLE (R135). -/
  | vmEnable (r : Req) (v : Fin 8) (w : Word)
  /-- VM_FRAME_RECEIVED (R135). -/
  | vmFrameReceived (v : Fin 8)
  /-- VM_OUTLIER_LOSS (R135). -/
  | vmOutlierLoss (v : Fin 8)
  /-- VM_MASTER_PUSH (R136). -/
  | vmMasterPush (n : Fin 48) (dt : Nat)
  /-- GOV_CONFIG_WRITE (R143). -/
  | govConfigWrite (r : Req) (n : Fin 48) (off : Nat) (w : Word)
  /-- MODEL_PUBLISH (R142). -/
  | modelPublish (r : Req) (n : Fin 48)
  /-- MODEL_RECORD_TAKEUP (R141). -/
  | modelRecordTakeup (n : Fin 48)
  /-- GOV_OVERSPEED (R155). -/
  | govOverspeed (n : Fin 48)
  /-- OQ_ENTRY_PROCESS (R153). -/
  | oqEntryProcess (n : Fin 48)
  /-- OBSTACLE (R153). -/
  | obstacle (n : Fin 48)
  /-- GOV_FORCE (R156). -/
  | govForce (n : Fin 48)
  /-- LOOP_RATE_WRITE (R160). -/
  | loopRateWrite (r : Req) (k : Fin 12) (w : Word)
  /-- LOOP_PARAM_WRITE (R168). -/
  | loopParamWrite (r : Req) (n : Fin 48) (off : Nat) (w : Word)
  /-- VSAT (R163). -/
  | vsat (n : Fin 48)
  /-- SOLENOID_ON (R166). -/
  | solenoidOn (r : Req) (n : Fin 48)
  /-- SOLENOID_OFF (R166). -/
  | solenoidOff (r : Req) (n : Fin 48)
  /-- SOLENOID_PULL_END (R166). -/
  | solenoidPullEnd (n : Fin 48)
  /-- FE_FAULT (R171). -/
  | feFault (n : Fin 48)
  /-- DICE_START (R174). -/
  | diceStart (r : Req) (n : Fin 48)
  /-- DICE_CAPTURE (R174). -/
  | diceCapture (r : Req) (n : Fin 48)
  /-- DICE_STOP (R174). -/
  | diceStop (r : Req) (n : Fin 48)
  /-- DICE_END (R173). -/
  | diceEnd (n : Fin 48)
  /-- CAPTURE_COMPLETE (R176). -/
  | captureComplete (n : Fin 48)
  /-- CAPTURE_WRITER_TABLET (R177). -/
  | captureWriterTablet (k : Fin 12)
  /-- DOOR_OPEN (R182). -/
  | doorOpen (r : Req) (d : Fin 32) (sync : Bool)
  /-- DOOR_CLOSE (R182). -/
  | doorClose (r : Req) (d : Fin 32)
  /-- DOOR_STOP (R182). -/
  | doorStop (r : Req) (d : Fin 32)
  /-- DOOR_IN_SERVICE (R182). -/
  | doorInService (r : Req) (d : Fin 32)
  /-- DOOR_OUT_OF_SERVICE (R182). -/
  | doorOutOfService (r : Req) (d : Fin 32)
  /-- DOOR_ACK_ALARM (R182). -/
  | doorAckAlarm (r : Req) (d : Fin 32)
  /-- DOOR_RELOAD (R180). -/
  | doorReload (r : Req) (d : Fin 32)
  /-- DOOR_RESET_BASE (R192). -/
  | doorResetBase (r : Req) (d : Fin 32)
  /-- PLATFORM_COMMAND (R181). -/
  | platformCommand (r : Req) (op : Nat) (dmask : BitVec 32)
  /-- SEQUENCER_TAKEUP (R181). -/
  | sequencerTakeup
  /-- LOCK_CONFIRM_TIMEOUT (R182). -/
  | lockConfirmTimeout (d : Fin 32)
  /-- OBSTACLE_REVERSAL (R185). -/
  | obstacleReversal (d : Fin 32)
  /-- REOPEN_DWELL_END (R185). -/
  | reopenDwellEnd (d : Fin 32)
  /-- DOORWAY_AXIS_FAULT (R183). -/
  | doorwayAxisFault (d : Fin 32)
  /-- DOORWAY_STATE_CHANGE (R182). -/
  | doorwayStateChange (d : Fin 32)
  /-- OVERLAY_LOAD (R187). -/
  | overlayLoad (r : Req) (slot : Fin 16) (src : Nat)
  /-- OVERLAY_ERASE (R187). -/
  | overlayErase (r : Req) (slot : Fin 16)
  /-- BASE_LOAD (R188). -/
  | baseLoad (r : Req)
  /-- BASE_LOAD_COMPLETE (R188). -/
  | baseLoadComplete
  /-- OVERLAY_SWITCH_REQUEST (R190). -/
  | overlaySwitchRequest (r : Req) (w : Word)
  /-- OVERLAY_COMMIT (R190). -/
  | overlayCommit
  /-- TASK_TRIGGER (R209). -/
  | taskTrigger (e : Fin 13) (i : Fin 32)
  /-- TASK_DISPATCH (R209). -/
  | taskDispatch (e : Fin 13)
  /-- URGENT_TASK_PREEMPT (R207). -/
  | urgentTaskPreempt (i : Fin 32)
  /-- TASK_LIMIT_EXCEEDED (R210). -/
  | taskLimitExceeded (e : Fin 13)
  /-- ENGINE_TRAP (R215). -/
  | engineTrap (k : Fin 12) (cause : Fin 8)
  /-- ENGINE_FAILURE_HANDLING (R216). -/
  | engineFailureHandling (k : Fin 12)
  /-- TRAP_AXIS_TIMEOUT (R216). -/
  | trapAxisTimeout (n : Fin 48)
  /-- ENGINE_RELOAD (R220). -/
  | engineReload (k : Fin 12)
  /-- ENGINE_READMIT (R73). -/
  | engineReadmit (k : Fin 12)
  /-- PE_TRAP (R217). -/
  | peTrap (cause : Fin 8)
  /-- HEARTBEAT_CHECK (R218). -/
  | heartbeatCheck (k : Fin 12)
  /-- HB_FAIL (R218). -/
  | hbFail (k : Fin 12)
  /-- ENGINE_START (R219). -/
  | engineStart (r : Req) (k : Fin 12)
  /-- ENGINE_HALT (R219). -/
  | engineHalt (r : Req) (k : Fin 12)
  /-- ENGINE_HALT_COMPLETE (R219). -/
  | engineHaltComplete (k : Fin 12)
  /-- ENGINE_RESET (R219). -/
  | engineReset (r : Req) (k : Fin 12)
  /-- ENGINE_WINDOW_ACCESS (R196). -/
  | engineWindowAccess (r : Req) (addr : Nat) (wr : Bool) (w : Word)
  /-- TASK_TABLE_WRITE (R209). -/
  | taskTableWrite (r : Req) (e : Fin 13) (off : Nat) (w : Word)
  /-- UNDEFINED_OPCODE (R223). -/
  | undefinedOpcode (e : Fin 13) (w : Word)
  /-- RESERVED_ENCODING_TRAP (R224). -/
  | reservedEncodingTrap (e : Fin 13) (w : Word)
  /-- MOVE (R229). -/
  | insMove (e : Fin 13) (xm : Nat) (ym : Nat)
  /-- MPY (R227). -/
  | insMpy (e : Fin 13) (acc : Nat) (s1 : Nat) (s2 : Nat) (co : Nat) (xm : Nat) (ym : Nat)
  /-- MAC (R227). -/
  | insMac (e : Fin 13) (acc : Nat) (s1 : Nat) (s2 : Nat) (co : Nat) (xm : Nat) (ym : Nat)
  /-- MSU (R227). -/
  | insMsu (e : Fin 13) (acc : Nat) (s1 : Nat) (s2 : Nat) (co : Nat) (xm : Nat) (ym : Nat)
  /-- MACSU (R227). -/
  | insMacsu (e : Fin 13) (acc : Nat) (s1 : Nat) (s2 : Nat) (co : Nat) (xm : Nat) (ym : Nat)
  /-- MACUU (R227). -/
  | insMacuu (e : Fin 13) (acc : Nat) (s1 : Nat) (s2 : Nat) (co : Nat) (xm : Nat) (ym : Nat)
  /-- MACA (R227). -/
  | insMaca (e : Fin 13) (acc : Nat) (s1 : Nat) (s2 : Nat) (co : Nat) (xm : Nat) (ym : Nat)
  /-- LMOVE (R230). -/
  | insLmove (e : Fin 13) (xm : Nat) (ym : Nat)
  /-- LMPY (R230). -/
  | insLmpy (e : Fin 13) (acc : Nat) (s1 : Nat) (s2 : Nat) (co : Nat) (xm : Nat) (ym : Nat)
  /-- LMAC (R230). -/
  | insLmac (e : Fin 13) (acc : Nat) (s1 : Nat) (s2 : Nat) (co : Nat) (xm : Nat) (ym : Nat)
  /-- LMSU (R230). -/
  | insLmsu (e : Fin 13) (acc : Nat) (s1 : Nat) (s2 : Nat) (co : Nat) (xm : Nat) (ym : Nat)
  /-- ADD (R231). -/
  | insAdd (e : Fin 13) (d : Nat) (s1 : Nat) (s2 : Nat)
  /-- SUB (R231). -/
  | insSub (e : Fin 13) (d : Nat) (s1 : Nat) (s2 : Nat)
  /-- AND (R231). -/
  | insAnd (e : Fin 13) (d : Nat) (s1 : Nat) (s2 : Nat)
  /-- OR (R231). -/
  | insOr (e : Fin 13) (d : Nat) (s1 : Nat) (s2 : Nat)
  /-- XOR (R231). -/
  | insXor (e : Fin 13) (d : Nat) (s1 : Nat) (s2 : Nat)
  /-- ANDN (R231). -/
  | insAndn (e : Fin 13) (d : Nat) (s1 : Nat) (s2 : Nat)
  /-- MIN (R231). -/
  | insMin (e : Fin 13) (d : Nat) (s1 : Nat) (s2 : Nat)
  /-- MAX (R231). -/
  | insMax (e : Fin 13) (d : Nat) (s1 : Nat) (s2 : Nat)
  /-- ABS (R231). -/
  | insAbs (e : Fin 13) (d : Nat) (s1 : Nat)
  /-- NEG (R231). -/
  | insNeg (e : Fin 13) (d : Nat) (s1 : Nat)
  /-- MOV (R231). -/
  | insMov (e : Fin 13) (d : Nat) (s1 : Nat)
  /-- NOT (R231). -/
  | insNot (e : Fin 13) (d : Nat) (s1 : Nat)
  /-- CMP (R231). -/
  | insCmp (e : Fin 13) (s1 : Nat) (s2 : Nat)
  /-- TST (R231). -/
  | insTst (e : Fin 13) (s1 : Nat) (s2 : Nat)
  /-- ASL (R232). -/
  | insAsl (e : Fin 13) (d : Nat) (s1 : Nat) (byReg : Bool) (amt : Nat)
  /-- ASR (R232). -/
  | insAsr (e : Fin 13) (d : Nat) (s1 : Nat) (byReg : Bool) (amt : Nat)
  /-- LSR (R232). -/
  | insLsr (e : Fin 13) (d : Nat) (s1 : Nat) (byReg : Bool) (amt : Nat)
  /-- ROL (R232). -/
  | insRol (e : Fin 13) (d : Nat) (s1 : Nat) (byReg : Bool) (amt : Nat)
  /-- CLR (R233). -/
  | insClr (e : Fin 13) (d : Nat)
  /-- LDA (R233). -/
  | insLda (e : Fin 13) (d : Nat) (s1 : Nat)
  /-- LDAI (R233). -/
  | insLdai (e : Fin 13) (d : Nat) (s1 : Nat)
  /-- ADDA (R233). -/
  | insAdda (e : Fin 13) (d : Nat) (s1 : Nat)
  /-- SUBA (R233). -/
  | insSuba (e : Fin 13) (d : Nat) (s1 : Nat)
  /-- NEGA (R233). -/
  | insNega (e : Fin 13) (d : Nat)
  /-- ABSA (R233). -/
  | insAbsa (e : Fin 13) (d : Nat)
  /-- SHLA (R233). -/
  | insShla (e : Fin 13) (d : Nat) (amt : Nat)
  /-- SHRA (R233). -/
  | insShra (e : Fin 13) (d : Nat) (amt : Nat)
  /-- MVA (R234). -/
  | insMva (e : Fin 13) (d : Nat) (s1 : Nat) (fld : Nat) (rnd : Bool)
  /-- LDI (R235). -/
  | insLdi (e : Fin 13) (d : Nat) (imm : BitVec 24)
  /-- LDIH (R235). -/
  | insLdih (e : Fin 13) (d : Nat) (imm : BitVec 24)
  /-- ADDI (R235). -/
  | insAddi (e : Fin 13) (d : Nat) (imm : BitVec 24)
  /-- CMPI (R235). -/
  | insCmpi (e : Fin 13) (d : Nat) (imm : BitVec 24)
  /-- MOVS (R236). -/
  | insMovs (e : Fin 13) (d : Nat) (s1 : Nat) (toSpecial : Bool)
  /-- LD (R237). -/
  | insLd (e : Fin 13) (g : Nat) (ybus : Bool) (ptr : Nat) (am : Nat) (off : BitVec 18)
  /-- ST (R237). -/
  | insSt (e : Fin 13) (g : Nat) (ybus : Bool) (ptr : Nat) (am : Nat) (off : BitVec 18)
  /-- PSET (R238). -/
  | insPset (e : Fin 13) (ptr : Nat) (addr : BitVec 24)
  /-- PMODE (R238). -/
  | insPmode (e : Fin 13) (ptr : Nat) (mode : Nat) (inc : BitVec 11) (len : BitVec 12)
  /-- PRD (R239). -/
  | insPrd (e : Fin 13) (d : Nat) (k1 : Bool)
  /-- PWR (R239). -/
  | insPwr (e : Fin 13) (d : Nat) (k1 : Bool)
  /-- POP (R240). -/
  | insPop (e : Fin 13) (g : Nat) (qc : Nat)
  /-- PUSH (R240). -/
  | insPush (e : Fin 13) (g : Nat) (qc : Nat)
  /-- WAITP (R240). -/
  | insWaitp (e : Fin 13) (g : Nat) (qc : Nat)
  /-- WAITC (R240). -/
  | insWaitc (e : Fin 13) (g : Nat) (qc : Nat)
  /-- QUEUE_WAIT_END (R240). -/
  | insQueueWaitEnd (e : Fin 13)
  /-- OCC (R240). -/
  | insOcc (e : Fin 13) (g : Nat) (qc : Nat)
  /-- CRED (R240). -/
  | insCred (e : Fin 13) (g : Nat) (qc : Nat)
  /-- SINCOS (R241). -/
  | insSincos (e : Fin 13) (d : Nat) (s1 : Nat)
  /-- NORM (R241). -/
  | insNorm (e : Fin 13) (d : Nat) (s1 : Nat)
  /-- DIV (R241). -/
  | insDiv (e : Fin 13) (d : Nat) (s1 : Nat) (s2 : Nat)
  /-- SQRT (R241). -/
  | insSqrt (e : Fin 13) (d : Nat) (s1 : Nat)
  /-- BR (R242). -/
  | insBr (e : Fin 13) (cond : Nat) (target : BitVec 20)
  /-- CALL (R242). -/
  | insCall (e : Fin 13) (cond : Nat) (target : BitVec 20)
  /-- RET (R242). -/
  | insRet (e : Fin 13)
  /-- JR (R242). -/
  | insJr (e : Fin 13) (s1 : Nat)
  /-- CALLR (R242). -/
  | insCallr (e : Fin 13) (s1 : Nat)
  /-- LOOP (R244). -/
  | insLoop (e : Fin 13) (rotf : Bool) (csrc : Bool) (cnt : Nat) (len : Nat)
  /-- BREAK (R245). -/
  | insBreak (e : Fin 13) (cond : Nat)
  /-- REPEAT (R246). -/
  | insRepeat (e : Fin 13) (csrc : Bool) (cnt : Nat)
  /-- HBEAT (R247). -/
  | insHbeat (e : Fin 13)
  /-- TEND (R243). -/
  | insTend (e : Fin 13)
  /-- NOP (R247). -/
  | insNop (e : Fin 13)
  /-- CARRIER_START (R257), the next of an axis group. -/
  | carrierStart (k : Fin 12)
  /-- DRIVE_PORT_DQ_POP (R257). -/
  | drivePortDqPop (n : Fin 48)
  /-- PEN_LOW (R251). -/
  | penLow (n : Fin 48)
  /-- DELAY_LINE_CALIBRATION (R255). -/
  | delayLineCalibration (n : Fin 48) (ntap : Nat)
  /-- CALIBRATION_MAP_TAKEUP (R255). -/
  | calibrationMapTakeup (n : Fin 48)
  /-- TRIP (R260, R261); `level`: the level of the synchronised TRIPnn at this FCLK edge. -/
  | trip (n : Fin 48) (level : Bool)
  /-- CBC_LIMIT_LATCH (R261). -/
  | cbcLimitLatch (n : Fin 48)
  /-- REARM (R262). -/
  | rearm (r : Req) (n : Fin 48)
  /-- CHOPPER_COMPARATOR_TRIP (R265, R298); `volt`: the voltage on ISnn_0 or ISnn_1, as the code it would convert to. -/
  | chopperComparatorTrip (n : Fin 48) (coilB : Bool) (volt : Nat)
  /-- CHOPPER_TON_MAX_EXPIRY (R265). -/
  | chopperTonMaxExpiry (n : Fin 48) (coilB : Bool)
  /-- CHOPPER_OFF_TIME_END (R265). -/
  | chopperOffTimeEnd (n : Fin 48) (coilB : Bool)
  /-- OPEN_LOAD (R266). -/
  | openLoad (n : Fin 48) (coilB : Bool)
  /-- FB_LINE_EDGE (R272). -/
  | fbLineEdge (n : Fin 48) (lines : BitVec 3)
  /-- MIN_EDGE_ACCEPT (R272). -/
  | minEdgeAccept (n : Fin 48) (line : Fin 3)
  /-- FB_SAMPLE (R276). -/
  | fbSample (n : Fin 48)
  /-- FB_STANDSTILL_TIMEOUT (R275). -/
  | fbStandstillTimeout (n : Fin 48)
  /-- SETPOS (R274). -/
  | setpos (r : Req) (n : Fin 48)
  /-- LATCH (R279). -/
  | latch (r : Req) (n : Fin 48) (byChannel : Bool)
  /-- SEQ_RUN (R284). -/
  | seqRun (r : Req) (n : Fin 48)
  /-- SEQ_HALT (R284). -/
  | seqHalt (r : Req) (n : Fin 48)
  /-- SEQ_ABORT (R284). -/
  | seqAbort (r : Req) (n : Fin 48)
  /-- FB_COUNTER_CLR (R288). -/
  | fbCounterClr (r : Req) (n : Fin 48)
  /-- SERIAL_FRAME_TRIGGER (R282). -/
  | serialFrameTrigger (n : Fin 48)
  /-- SERIAL_FRAME_END (R281). -/
  | serialFrameEnd (n : Fin 48)
  /-- SERIAL_FRAME_TIMEOUT (R281). -/
  | serialFrameTimeout (n : Fin 48)
  /-- SEQ_END (R280). -/
  | seqEnd (n : Fin 48)
  /-- SEQ_SET (R280). -/
  | seqSet (n : Fin 48)
  /-- SEQ_SHIFT (R280). -/
  | seqShift (n : Fin 48) (bits : List Bool)
  /-- SEQ_WAITB (R280). -/
  | seqWaitb (n : Fin 48) (b : Bool)
  /-- SEQ_WAITB_TIMEOUT (R280). -/
  | seqWaitbTimeout (n : Fin 48)
  /-- SEQ_EXPECT (R280). -/
  | seqExpect (n : Fin 48)
  /-- SEQ_CRCI (R280). -/
  | seqCrci (n : Fin 48)
  /-- SEQ_CRCCHK (R280). -/
  | seqCrcchk (n : Fin 48)
  /-- SEQ_PAR (R280). -/
  | seqPar (n : Fin 48)
  /-- SEQ_LOADP (R280). -/
  | seqLoadp (n : Fin 48)
  /-- SEQ_TXLD (R280). -/
  | seqTxld (n : Fin 48)
  /-- SEQ_BR (R280). -/
  | seqBr (n : Fin 48) (b : Bool)
  /-- SEQ_MARK (R280). -/
  | seqMark (n : Fin 48)
  /-- SEQ_PROGRAM_WRITE (R285). -/
  | seqProgramWrite (r : Req) (n : Fin 48) (off : Nat) (w : Word)
  /-- FB_CFG_WRITE (R286). -/
  | fbCfgWrite (r : Req) (n : Fin 48) (w : Word)
  /-- ECHO_CFG_WRITE (R287). -/
  | echoCfgWrite (r : Req) (i : Fin 12) (w : Word)
  /-- ADC_CONVERSION (R291). -/
  | adcConversion (u : Fin 6) (code : BitVec 14)
  /-- SEQUENCE_RESTART (R293). -/
  | sequenceRestart (u : Fin 6)
  /-- ADC_ZERO (R297). -/
  | adcZero (r : Req) (u : Fin 6)
  /-- ADC_ZERO_DONE (R297). -/
  | adcZeroDone (u : Fin 6)
  /-- VSAFE_FAULT (R302). -/
  | vsafeFault
  /-- VSAFE_RECOVERY (R302). -/
  | vsafeRecovery
  /-- SAFETY_INPUT_ACCEPT (R307). -/
  | safetyInputAccept (dec : Decider) (i : Fin 24) (level : Bool)
  /-- SAFETY_INPUT_MISMATCH (R308). -/
  | safetyInputMismatch (i : Fin 24)
  /-- SWITCH_CHECK (R310). -/
  | switchCheck (dec : Decider) (live : BitVec 16)
  /-- SAFETY_ARM (R312). -/
  | safetyArm (r : Req)
  /-- SAFETY_CLR_OUT (R325). -/
  | safetyClrOut (r : Req)
  /-- SFB_DEMAND_EXPIRY (R316). -/
  | sfbDemandExpiry (dec : Decider) (i : Fin 16)
  /-- SFB_DISCREPANCY (R316). -/
  | sfbDiscrepancy (dec : Decider) (i : Fin 16)
  /-- TWO_HAND_WINDOW_EXPIRY (R318). -/
  | twoHandWindowExpiry (dec : Decider) (i : Fin 16)
  /-- SP_PERMISSION_UPDATE (R320). -/
  | spPermissionUpdate
  /-- PE_WATCH_WINDOW_EXPIRY (R321). -/
  | peWatchWindowExpiry
  /-- PE_HEALTHY (R321). -/
  | peHealthy
  /-- LADDER_HEALTH_TIMEOUT (R74). -/
  | ladderHealthTimeout
  /-- LADDER_CLEAR (R75). -/
  | ladderClear
  /-- PEN_READBACK_FAULT (R322). -/
  | penReadbackFault (n : Fin 48)
  /-- SOUT_OFF_PULSE (R324). -/
  | soutOffPulse (n : Fin 8)
  /-- SOUT_OFF_PULSE_END (R324). -/
  | soutOffPulseEnd (n : Fin 8) (readsOn : Bool)
  /-- SOUT_STUCK (R325). -/
  | soutStuck (n : Fin 8)
  /-- SOUT_OPEN (R325). -/
  | soutOpen (n : Fin 8)
  /-- SP_DIAG (R326). -/
  | spDiag (d : Fin 8)
  /-- TAKEOVER (R328). -/
  | takeover (cause : Fin 4)
  /-- LOCKOUT (R329). -/
  | lockout (cause : Fin 8)
  /-- FIELD_SCAN (R333). -/
  | fieldScan (b : Fin 4) (balls : BitVec 32) (inband : BitVec 32) (ma : Nat) (cur : List Nat)
  /-- FIELD_INPUT_ACCEPT (R335). -/
  | fieldInputAccept (b : Fin 4) (i : Fin 32) (level : Bool)
  /-- WIRE_BREAK (R337). -/
  | wireBreak (b : Fin 4) (i : Fin 32)
  /-- WIRE_BREAK_CLEAR (R337). -/
  | wireBreakClear (b : Fin 4) (i : Fin 32)
  /-- OVERLOAD (R338). -/
  | overload (b : Fin 4) (i : Fin 32)
  /-- OVERLOAD_AUTO_RESTART (R338). -/
  | overloadAutoRestart (b : Fin 4) (i : Fin 32)
  /-- BANK_OVER (R340). -/
  | bankOver (b : Fin 4)
  /-- VF_LOW (R340). -/
  | vfLow (b : Fin 4)
  /-- VF_LOW_CLEAR (R340). -/
  | vfLowClear (b : Fin 4)
  /-- WD_EXP (R342). -/
  | wdExp (b : Fin 4)
  /-- KICK (R342). -/
  | kick (r : Req) (b : Fin 4)
  /-- RESUME (R343). -/
  | resume (r : Req) (b : Fin 4)
  /-- BANK_CLR (R338). -/
  | bankClr (r : Req) (b : Fin 4)
  /-- OUT_SET (R344). -/
  | outSet (r : Req) (b : Fin 4) (bits : BitVec 32)
  /-- OUT_CLR (R344). -/
  | outClr (r : Req) (b : Fin 4) (bits : BitVec 32)
  /-- CHANNEL_DIRECTION_CHANGE (R341). -/
  | channelDirectionChange (r : Req) (b : Fin 4) (i : Fin 32) (w : Word)
  /-- STORE_REQUEST (R350). -/
  | storeRequest (q : Fin 29) (own : Fin 48) (wr : Bool) (addr : Nat) (len : Nat) (data : List Word)
  /-- ARB_CYCLE (R354). -/
  | arbCycle
  /-- DWELL_PROMOTION (R356). -/
  | dwellPromotion
  /-- STORE_READ_RETURN (R348). -/
  | storeReadReturn (ecc : EccFind)
  /-- STORE_REFRESH (R355). -/
  | storeRefresh
  /-- STORE_REFRESH_END (R355). -/
  | storeRefreshEnd
  /-- TIMETABLE_COMMIT (R357). -/
  | timetableCommit (r : Req)
  /-- TIMETABLE_TAKEUP (R357). -/
  | timetableTakeup
  /-- ARB_COUNTER_CLR (R359). -/
  | arbCounterClr (r : Req)
  /-- PROBE_CHANGE (R361). -/
  | probeChange (i : Fin 32) (level : Bool) (tap : Nat)
  /-- REC_WINDOW_END (R366). -/
  | recWindowEnd
  /-- REC_TIME_MARK (R364). -/
  | recTimeMark
  /-- REC_DRAIN (R367). -/
  | recDrain
  /-- TRIGGER_FIRE (R368). -/
  | triggerFire (i : Fin 4)
  /-- ARM (R372). -/
  | arm (r : Req)
  /-- FORCE (R372). -/
  | force (r : Req)
  /-- STOP (R372). -/
  | stop (r : Req)
  /-- CAPTURE_POST_EXPIRY (R372). -/
  | capturePostExpiry
  /-- REC_READ_DATA (R375). -/
  | recReadData (r : Req)
  /-- REC_CONFIG_WRITE (R377). -/
  | recConfigWrite (r : Req) (pg2 : Bool) (off : Nat) (w : Word)
  /-- BAON_EMIT (R379). -/
  | baonEmit
  /-- BAON_TRIGGER_RECEIVED (R379). -/
  | baonTriggerReceived (tap : Nat)
  /-- BAON_MEASURE (R380). -/
  | baonMeasure (r : Req)
  /-- BAON_ECHO_RECEIVED (R380). -/
  | baonEchoReceived (rt : Nat)
  /-- BAON_ECHO_TIMEOUT (R380). -/
  | baonEchoTimeout
  /-- BAON_LOST (R378). -/
  | baonLost
  /-- CAN_FRAME_RECEIVED (R388). -/
  | canFrameReceived (c : Fin 4) (f : CanFrame)
  /-- CAN_RING_WRITE (R390). -/
  | canRingWrite (c : Fin 4)
  /-- CAN_READ_DATA (R391). -/
  | canReadData (r : Req) (c : Fin 4)
  /-- CAN_MODE_WRITE (R386). -/
  | canModeWrite (r : Req) (c : Fin 4) (w : Word)
  /-- CAN_BUS_JOIN (R386). -/
  | canBusJoin (c : Fin 4)
  /-- BUS_OFF (R387). -/
  | busOff (c : Fin 4)
  /-- RECOVER (R387). -/
  | recover (r : Req) (c : Fin 4)
  /-- CAN_RECOVERY_COMPLETE (R387). -/
  | canRecoveryComplete (c : Fin 4)
  /-- SEND (R392). -/
  | send (r : Req) (c : Fin 4) (b : Fin 8)
  /-- ABORT (R394). -/
  | abort (r : Req) (c : Fin 4) (b : Fin 8)
  /-- CAN_TX_START (R392). -/
  | canTxStart (c : Fin 4)
  /-- CAN_TX_ATTEMPT_END (R393); `tdcv`: the delay measured at the FDF-to-res edge, if the attempt got as far (R385). -/
  | canTxAttemptEnd (c : Fin 4) (res : TxResult) (tdcv : Option Nat)
  /-- CAN_REF_INSTANT (R396). -/
  | canRefInstant (c : Fin 4)
  /-- TT_LOST (R397). -/
  | ttLost (c : Fin 4)
  /-- CAN_SLEEP_CMD (R398). -/
  | canSleepCmd (r : Req) (c : Fin 4)
  /-- CAN_WAKE_CMD (R400). -/
  | canWakeCmd (r : Req) (c : Fin 4)
  /-- CAN_GUARD_END (R399). -/
  | canGuardEnd (c : Fin 4)
  /-- SLEEP_CANCEL (R399). -/
  | sleepCancel (c : Fin 4)
  /-- CAN_STANDBY_SETTLED (R399). -/
  | canStandbySettled (c : Fin 4)
  /-- CAN_WAKE_INPUT (R400). -/
  | canWakeInput (c : Fin 4) (byRxd : Bool)
  /-- CAN_WAKE_COMPLETE (R400). -/
  | canWakeComplete (c : Fin 4)
  /-- TIME_SET (R405). -/
  | timeSet (r : Req)
  /-- TIME_STEP (R405). -/
  | timeStep (r : Req)
  /-- TIME_RATE (R405). -/
  | timeRate (r : Req)
  /-- TIME_STEP_RATE (R405). -/
  | timeStepRate (r : Req)
  /-- HOLDOVER (R407). -/
  | holdover
  /-- TIME_SNAPSHOT_READ (R408). -/
  | timeSnapshotRead (r : Req)
  /-- ETH_FRAME_RECEIVED (R411). -/
  | ethFrameReceived (p : Fin 2) (f : EthFrame)
  /-- ETH_TX_PRODUCE (R412). -/
  | ethTxProduce (r : Req) (p : Fin 2) (prod : Fin 128)
  /-- ETH_TX_SLOT_DONE (R412). -/
  | ethTxSlotDone (p : Fin 2) (dropped : Bool) (ago : Nat)
  /-- LINK_UP (R417). -/
  | linkUp (p : Fin 2) (full : Bool) (xover : Bool)
  /-- LINK_DOWN (R417). -/
  | linkDown (p : Fin 2)
  /-- EVENT_FIRE (R419). -/
  | eventFire
  /-- EVENT_DELIVERY (R420). -/
  | eventDelivery
  /-- MSI_COALESCE_TIMEOUT (R422). -/
  | msiCoalesceTimeout (v : Fin 16)
  /-- MSI_UNMASK (R422). -/
  | msiUnmask (v : Fin 16)
  /-- EVENT_LOG_WRITE (R424). -/
  | eventLogWrite
  /-- EVENT_LOG_READ (R424). -/
  | eventLogRead (r : Req)
  /-- PERST_ASSERT (R427). -/
  | perstAssert
  /-- DMA_CHANNEL_ENABLE (R428). -/
  | dmaChannelEnable (r : Req) (c : Fin 9)
  /-- DMA_RX_SLOT_COPY (R428). -/
  | dmaRxSlotCopy (c : Fin 9)
  /-- DMA_TX_SLOT (R429). -/
  | dmaTxSlot (c : Fin 9) (slot : List Word)
  /-- GO (R430). -/
  | go (r : Req) (count : Nat)
  /-- DMA_COPY_DONE (R430). -/
  | dmaCopyDone
  /-- DMA_ERR (R430). -/
  | dmaErr (c : Fin 9) (denied : Bool)
  /-- SPI_WRITE (R431). -/
  | spiWrite (addr : BitVec 32) (slots : List (BitVec 64)) (partial_ : Bool)
  /-- SPI_READ (R431). -/
  | spiRead (addr : BitVec 32) (count : Nat)
  /-- SPI_STATUS (R431). -/
  | spiStatus
  /-- HELD_ACCESS_COMPLETE (R64). -/
  | heldAccessComplete
  /-- PE_BOOT_START (R432). -/
  | peBootStart
  /-- BYPASS (R433). -/
  | bypass
  /-- IDCODE (R433). -/
  | idcode
  /-- SAMPLE_PRELOAD (R433). -/
  | samplePreload (pins : List Bool)
  /-- EXTEST (R433). -/
  | extest (drive : List Bool)
  /-- DBGACC (R433). -/
  | dbgacc (wr : Bool) (addr : Nat) (w : Word)
  /-- HALT_ALL (R435). -/
  | haltAll (r : Req)
  /-- HALT_ALL_CLEAR (R435). -/
  | haltAllClear (r : Req)
  /-- HALT_ENG (R435). -/
  | haltEng (r : Req) (e : Fin 13)
  /-- HALT_ENG_CLEAR (R435). -/
  | haltEngClear (r : Req) (e : Fin 13)
  /-- DEBUG_WARM_RESET (R58). -/
  | debugWarmReset (r : Req)
  /-- DEBUG_COLD_RESET (R58). -/
  | debugColdReset (r : Req)
  /-- VIO33_OVERLOAD (R440). -/
  | vio33Overload (mode : Vio33)
  /-- SAFETY_INPUT_INDETERMINATE (R72). -/
  | safetyInputIndeterminate (dec : Decider) (i : Fin 24)
  /-- CAN_RX_ERROR (R382); `eight`: RX_ERR rises by 8, not by 1. -/
  | canRxError (c : Fin 4) (lec : Fin 8) (eight : Bool)
  /-- BAON_CLK_RETURN (R378). -/
  | baonClkReturn
  /-- PCIE_LINK_DOWN (R427). -/
  | pcieLinkDown
  /-- PCIE_LINK_UP (R427). -/
  | pcieLinkUp
  /-- PCIE_CONFIG_WRITE (R427). -/
  | pcieConfigWrite (c : CfgWrite)
deriving DecidableEq, Repr

end Sys2Proof
end

