-- ==== Sys2Proof/WellFormed.lean ====
section
/-! DEFINITION. Well-formed commands: operands that the command's own fields can hold. Whether a value is a reserved encoding is
the machine's to say. -/

namespace Sys2Proof

/-- Whether every operand fits its field: byte addresses of 32 bits, aligned as the access is, page offsets of a slot, and the field
widths of the formats of R221 and of the frames. -/
def Instr.wf : Instr → Bool
  | .registerWrite _ addr _ => decide (addr < 2 ^ 32 ∧ addr % 8 = 0)
  | .pcieMemoryRequest _ addr _ narrow _ => decide (addr < 2 ^ 32 ∧ (narrow = true ∨ addr % 4 = 0))
  | .write32Low _ addr _ => decide (addr < 2 ^ 32 ∧ addr % 8 = 0)
  | .write32High _ addr _ => decide (addr < 2 ^ 32 ∧ addr % 8 = 4)
  | .read32Low _ addr => decide (addr < 2 ^ 32 ∧ addr % 8 = 0)
  | .read32High _ addr => decide (addr < 2 ^ 32 ∧ addr % 8 = 4)
  | .softReset _ _ _ _ => true
  | .softResetDone _ => true
  | .pageEnWrite _ _ _ => true
  | .eventAck _ _ _ => true
  | .unlockKey1 _ => true
  | .unlockKey2 _ => true
  | .unlockOtherValue _ _ => true
  | .unlockWindowExpiry => true
  | .pllLock => true
  | .clockUngate => true
  | .pllLockLoss => true
  | .rootWatchWindow _ => true
  | .siWatchWindow _ => true
  | .sclkSiStop => true
  | .powerOnAssert => true
  | .powerOnRelease => true
  | .brownOutAssert => true
  | .brownOutRelease => true
  | .resetInPulse _ => true
  | .watchdogWarning _ => true
  | .watchdogExpiry _ => true
  | .wdtKickMgmt _ => true
  | .wdtKickData _ => true
  | .wdtKickCtrl _ => true
  | .softwareWarmReset _ => true
  | .softwareColdReset _ => true
  | .warmResetAssert _ => true
  | .resetStretchEnd => true
  | .managementRelease => true
  | .storeReady => true
  | .peripheralRelease => true
  | .drivePortRelease => true
  | .servoBoundary _ => true
  | .profileCutoff _ => true
  | .axCfgWrite _ _ _ => true
  | .axisAck _ _ => true
  | .queueStatClr _ _ => true
  | .starve _ => true
  | .curMiss _ => true
  | .fbLoss _ => true
  | .currentPass _ => true
  | .curWaitExpiry _ => true
  | .servoTask _ => true
  | .stepperLoopTask _ => true
  | .moveStart _ _ table => decide (table < 1024)
  | .moveAppend _ _ table => decide (table < 1024)
  | .moveReplace _ _ table => decide (table < 1024)
  | .rampStop _ _ => true
  | .hardStop _ _ => true
  | .moveClear _ _ => true
  | .directoryEntryArrival _ => true
  | .refillTablet => true
  | .segmentPush _ _ _ => true
  | .profCfgWrite _ _ _ => true
  | .limitDebounceAccept _ _ _ => true
  | .gearEngage _ _ => true
  | .gearDisengage _ _ => true
  | .gearConfigWrite _ _ off _ => decide (off < 4096 ∧ off % 8 = 0)
  | .masterLost _ => true
  | .vmEnable _ _ _ => true
  | .vmFrameReceived _ => true
  | .vmOutlierLoss _ => true
  | .vmMasterPush _ _ => true
  | .govConfigWrite _ _ off _ => decide (off < 4096 ∧ off % 8 = 0)
  | .modelPublish _ _ => true
  | .modelRecordTakeup _ => true
  | .govOverspeed _ => true
  | .oqEntryProcess _ => true
  | .obstacle _ => true
  | .govForce _ => true
  | .loopRateWrite _ _ _ => true
  | .loopParamWrite _ _ off _ => decide (off < 4096 ∧ off % 8 = 0)
  | .vsat _ => true
  | .solenoidOn _ _ => true
  | .solenoidOff _ _ => true
  | .solenoidPullEnd _ => true
  | .feFault _ => true
  | .diceStart _ _ => true
  | .diceCapture _ _ => true
  | .diceStop _ _ => true
  | .diceEnd _ => true
  | .captureComplete _ => true
  | .captureWriterTablet _ => true
  | .doorOpen _ _ _ => true
  | .doorClose _ _ => true
  | .doorStop _ _ => true
  | .doorInService _ _ => true
  | .doorOutOfService _ _ => true
  | .doorAckAlarm _ _ => true
  | .doorReload _ _ => true
  | .doorResetBase _ _ => true
  | .platformCommand _ op _ => decide (op < 16)
  | .sequencerTakeup => true
  | .lockConfirmTimeout _ => true
  | .obstacleReversal _ => true
  | .reopenDwellEnd _ => true
  | .doorwayAxisFault _ => true
  | .doorwayStateChange _ => true
  | .overlayLoad _ _ src => decide (src < 2 ^ 18)
  | .overlayErase _ _ => true
  | .baseLoad _ => true
  | .baseLoadComplete => true
  | .overlaySwitchRequest _ _ => true
  | .overlayCommit => true
  | .taskTrigger _ _ => true
  | .taskDispatch _ => true
  | .urgentTaskPreempt _ => true
  | .taskLimitExceeded _ => true
  | .engineTrap _ _ => true
  | .engineFailureHandling _ => true
  | .trapAxisTimeout _ => true
  | .engineReload _ => true
  | .engineReadmit _ => true
  | .peTrap _ => true
  | .heartbeatCheck _ => true
  | .hbFail _ => true
  | .engineStart _ _ => true
  | .engineHalt _ _ => true
  | .engineHaltComplete _ => true
  | .engineReset _ _ => true
  | .engineWindowAccess _ addr _ _ => decide (addr < 2 ^ 32 ∧ addr % 8 = 0)
  | .taskTableWrite _ _ off _ => decide (off < 4096 ∧ off % 8 = 0)
  | .undefinedOpcode _ _ => true
  | .reservedEncodingTrap _ _ => true
  | .insMove _ xm ym => decide (xm < 256 ∧ ym < 256)
  | .insMpy _ acc s1 s2 co xm ym => decide (acc < 4 ∧ s1 < 32 ∧ s2 < 32 ∧ co < 4 ∧ xm < 256 ∧ ym < 256)
  | .insMac _ acc s1 s2 co xm ym => decide (acc < 4 ∧ s1 < 32 ∧ s2 < 32 ∧ co < 4 ∧ xm < 256 ∧ ym < 256)
  | .insMsu _ acc s1 s2 co xm ym => decide (acc < 4 ∧ s1 < 32 ∧ s2 < 32 ∧ co < 4 ∧ xm < 256 ∧ ym < 256)
  | .insMacsu _ acc s1 s2 co xm ym => decide (acc < 4 ∧ s1 < 32 ∧ s2 < 32 ∧ co < 4 ∧ xm < 256 ∧ ym < 256)
  | .insMacuu _ acc s1 s2 co xm ym => decide (acc < 4 ∧ s1 < 32 ∧ s2 < 32 ∧ co < 4 ∧ xm < 256 ∧ ym < 256)
  | .insMaca _ acc s1 s2 co xm ym => decide (acc < 4 ∧ s1 < 32 ∧ s2 < 32 ∧ co < 4 ∧ xm < 256 ∧ ym < 256)
  | .insLmove _ xm ym => decide (xm < 256 ∧ ym < 256)
  | .insLmpy _ acc s1 s2 co xm ym => decide (acc < 4 ∧ s1 < 32 ∧ s2 < 32 ∧ co < 4 ∧ xm < 256 ∧ ym < 256)
  | .insLmac _ acc s1 s2 co xm ym => decide (acc < 4 ∧ s1 < 32 ∧ s2 < 32 ∧ co < 4 ∧ xm < 256 ∧ ym < 256)
  | .insLmsu _ acc s1 s2 co xm ym => decide (acc < 4 ∧ s1 < 32 ∧ s2 < 32 ∧ co < 4 ∧ xm < 256 ∧ ym < 256)
  | .insAdd _ d s1 s2 => decide (d < 64 ∧ s1 < 64 ∧ s2 < 64)
  | .insSub _ d s1 s2 => decide (d < 64 ∧ s1 < 64 ∧ s2 < 64)
  | .insAnd _ d s1 s2 => decide (d < 64 ∧ s1 < 64 ∧ s2 < 64)
  | .insOr _ d s1 s2 => decide (d < 64 ∧ s1 < 64 ∧ s2 < 64)
  | .insXor _ d s1 s2 => decide (d < 64 ∧ s1 < 64 ∧ s2 < 64)
  | .insAndn _ d s1 s2 => decide (d < 64 ∧ s1 < 64 ∧ s2 < 64)
  | .insMin _ d s1 s2 => decide (d < 64 ∧ s1 < 64 ∧ s2 < 64)
  | .insMax _ d s1 s2 => decide (d < 64 ∧ s1 < 64 ∧ s2 < 64)
  | .insAbs _ d s1 => decide (d < 64 ∧ s1 < 64)
  | .insNeg _ d s1 => decide (d < 64 ∧ s1 < 64)
  | .insMov _ d s1 => decide (d < 64 ∧ s1 < 64)
  | .insNot _ d s1 => decide (d < 64 ∧ s1 < 64)
  | .insCmp _ s1 s2 => decide (s1 < 64 ∧ s2 < 64)
  | .insTst _ s1 s2 => decide (s1 < 64 ∧ s2 < 64)
  | .insAsl _ d s1 _ amt => decide (d < 64 ∧ s1 < 64 ∧ amt < 64)
  | .insAsr _ d s1 _ amt => decide (d < 64 ∧ s1 < 64 ∧ amt < 64)
  | .insLsr _ d s1 _ amt => decide (d < 64 ∧ s1 < 64 ∧ amt < 64)
  | .insRol _ d s1 _ amt => decide (d < 64 ∧ s1 < 64 ∧ amt < 64)
  | .insClr _ d => decide (d < 64)
  | .insLda _ d s1 => decide (d < 64 ∧ s1 < 64)
  | .insLdai _ d s1 => decide (d < 64 ∧ s1 < 64)
  | .insAdda _ d s1 => decide (d < 64 ∧ s1 < 64)
  | .insSuba _ d s1 => decide (d < 64 ∧ s1 < 64)
  | .insNega _ d => decide (d < 64)
  | .insAbsa _ d => decide (d < 64)
  | .insShla _ d amt => decide (d < 64 ∧ amt < 64)
  | .insShra _ d amt => decide (d < 64 ∧ amt < 64)
  | .insMva _ d s1 fld _ => decide (d < 64 ∧ s1 < 64 ∧ fld < 4)
  | .insLdi _ d _ => decide (d < 64)
  | .insLdih _ d _ => decide (d < 64)
  | .insAddi _ d _ => decide (d < 64)
  | .insCmpi _ d _ => decide (d < 64)
  | .insMovs _ d s1 _ => decide (d < 64 ∧ s1 < 64)
  | .insLd _ g _ ptr am _ => decide (g < 64 ∧ ptr < 8 ∧ am < 4)
  | .insSt _ g _ ptr am _ => decide (g < 64 ∧ ptr < 8 ∧ am < 4)
  | .insPset _ ptr _ => decide (ptr < 32)
  | .insPmode _ ptr mode _ _ => decide (ptr < 32 ∧ mode < 4)
  | .insPrd _ d _ => decide (d < 64)
  | .insPwr _ d _ => decide (d < 64)
  | .insPop _ g qc => decide (g < 64 ∧ qc < 64)
  | .insPush _ g qc => decide (g < 64 ∧ qc < 64)
  | .insWaitp _ g qc => decide (g < 64 ∧ qc < 64)
  | .insWaitc _ g qc => decide (g < 64 ∧ qc < 64)
  | .insQueueWaitEnd _ => true
  | .insOcc _ g qc => decide (g < 64 ∧ qc < 64)
  | .insCred _ g qc => decide (g < 64 ∧ qc < 64)
  | .insSincos _ d s1 => decide (d < 64 ∧ s1 < 64)
  | .insNorm _ d s1 => decide (d < 64 ∧ s1 < 64)
  | .insDiv _ d s1 s2 => decide (d < 64 ∧ s1 < 64 ∧ s2 < 64)
  | .insSqrt _ d s1 => decide (d < 64 ∧ s1 < 64)
  | .insBr _ cond _ => decide (cond < 16)
  | .insCall _ cond _ => decide (cond < 16)
  | .insRet _ => true
  | .insJr _ s1 => decide (s1 < 64)
  | .insCallr _ s1 => decide (s1 < 64)
  | .insLoop _ _ _ cnt len => decide (cnt < 4096 ∧ len < 2 ^ 16)
  | .insBreak _ cond => decide (cond < 16)
  | .insRepeat _ _ cnt => decide (cnt < 4096)
  | .insHbeat _ => true
  | .insTend _ => true
  | .insNop _ => true
  | .carrierStart _ => true
  | .drivePortDqPop _ => true
  | .penLow _ => true
  | .delayLineCalibration _ _ => true
  | .calibrationMapTakeup _ => true
  | .trip _ _ => true
  | .cbcLimitLatch _ => true
  | .rearm _ _ => true
  | .chopperComparatorTrip _ _ v => decide (v < 2 ^ 14)
  | .chopperTonMaxExpiry _ _ => true
  | .chopperOffTimeEnd _ _ => true
  | .openLoad _ _ => true
  | .fbLineEdge _ _ => true
  | .minEdgeAccept _ _ => true
  | .fbSample _ => true
  | .fbStandstillTimeout _ => true
  | .setpos _ _ => true
  | .latch _ _ _ => true
  | .seqRun _ _ => true
  | .seqHalt _ _ => true
  | .seqAbort _ _ => true
  | .fbCounterClr _ _ => true
  | .serialFrameTrigger _ => true
  | .serialFrameEnd _ => true
  | .serialFrameTimeout _ => true
  | .seqEnd _ => true
  | .seqSet _ => true
  | .seqShift _ bits => decide (bits.length ≤ 48)
  | .seqWaitb _ _ => true
  | .seqWaitbTimeout _ => true
  | .seqExpect _ => true
  | .seqCrci _ => true
  | .seqCrcchk _ => true
  | .seqPar _ => true
  | .seqLoadp _ => true
  | .seqTxld _ => true
  | .seqBr _ _ => true
  | .seqMark _ => true
  | .seqProgramWrite _ _ off _ => decide (off < 4096 ∧ off % 8 = 0)
  | .fbCfgWrite _ _ _ => true
  | .echoCfgWrite _ _ _ => true
  | .adcConversion _ _ => true
  | .sequenceRestart _ => true
  | .adcZero _ _ => true
  | .adcZeroDone _ => true
  | .vsafeFault => true
  | .vsafeRecovery => true
  | .safetyInputAccept _ _ _ => true
  | .safetyInputMismatch _ => true
  | .switchCheck _ _ => true
  | .safetyArm _ => true
  | .safetyClrOut _ => true
  | .sfbDemandExpiry _ _ => true
  | .sfbDiscrepancy _ _ => true
  | .twoHandWindowExpiry _ _ => true
  | .spPermissionUpdate => true
  | .peWatchWindowExpiry => true
  | .peHealthy => true
  | .ladderHealthTimeout => true
  | .ladderClear => true
  | .penReadbackFault _ => true
  | .soutOffPulse _ => true
  | .soutOffPulseEnd _ _ => true
  | .soutStuck _ => true
  | .soutOpen _ => true
  | .spDiag _ => true
  | .takeover _ => true
  | .lockout _ => true
  | .fieldScan _ _ _ _ _ => true
  | .fieldInputAccept _ _ _ => true
  | .wireBreak _ _ => true
  | .wireBreakClear _ _ => true
  | .overload _ _ => true
  | .overloadAutoRestart _ _ => true
  | .bankOver _ => true
  | .vfLow _ => true
  | .vfLowClear _ => true
  | .wdExp _ => true
  | .kick _ _ => true
  | .resume _ _ => true
  | .bankClr _ _ => true
  | .outSet _ _ _ => true
  | .outClr _ _ _ => true
  | .channelDirectionChange _ _ _ _ => true
  | .storeRequest _ _ wr addr len data => decide (addr < 2 ^ 22 ∧ 1 ≤ len ∧ len ≤ 16 ∧ data.length = if wr then len else 0)
  | .arbCycle => true
  | .dwellPromotion => true
  | .storeReadReturn _ => true
  | .storeRefresh => true
  | .storeRefreshEnd => true
  | .timetableCommit _ => true
  | .timetableTakeup => true
  | .arbCounterClr _ => true
  | .probeChange _ _ tap => decide (tap < 64)
  | .recWindowEnd => true
  | .recTimeMark => true
  | .recDrain => true
  | .triggerFire _ => true
  | .arm _ => true
  | .force _ => true
  | .stop _ => true
  | .capturePostExpiry => true
  | .recReadData _ => true
  | .recConfigWrite _ _ off _ => decide (off < 4096 ∧ off % 8 = 0)
  | .baonEmit => true
  | .baonTriggerReceived tap => decide (tap < 64)
  | .baonMeasure _ => true
  | .baonEchoReceived rt => decide (rt < 2 ^ 22)
  | .baonEchoTimeout => true
  | .baonLost => true
  | .canFrameReceived _ f => decide (f.id < (if f.ide then 2 ^ 29 else 2 ^ 11) ∧ f.dlc < 16 ∧ f.data.length ≤ 64)
  | .canRingWrite _ => true
  | .canReadData _ _ => true
  | .canModeWrite _ _ _ => true
  | .canBusJoin _ => true
  | .busOff _ => true
  | .recover _ _ => true
  | .canRecoveryComplete _ => true
  | .send _ _ _ => true
  | .abort _ _ _ => true
  | .canTxStart _ => true
  | .canTxAttemptEnd _ _ tdcv => tdcv.all (fun v => decide (v < 128))
  | .canRefInstant _ => true
  | .ttLost _ => true
  | .canSleepCmd _ _ => true
  | .canWakeCmd _ _ => true
  | .canGuardEnd _ => true
  | .sleepCancel _ => true
  | .canStandbySettled _ => true
  | .canWakeInput _ _ => true
  | .canWakeComplete _ => true
  | .timeSet _ => true
  | .timeStep _ => true
  | .timeRate _ => true
  | .timeStepRate _ => true
  | .holdover => true
  | .timeSnapshotRead _ => true
  | .ethFrameReceived _ f => decide (14 ≤ f.bytes.length)
  | .ethTxProduce _ _ _ => true
  | .ethTxSlotDone _ _ _ => true
  | .linkUp _ _ _ => true
  | .linkDown _ => true
  | .eventFire => true
  | .eventDelivery => true
  | .msiCoalesceTimeout _ => true
  | .msiUnmask _ => true
  | .eventLogWrite => true
  | .eventLogRead _ => true
  | .perstAssert => true
  | .dmaChannelEnable _ _ => true
  | .dmaRxSlotCopy _ => true
  | .dmaTxSlot _ _ => true
  | .go _ count => decide (count < 2 ^ 23)
  | .dmaCopyDone => true
  | .dmaErr _ _ => true
  | .spiWrite _ _ _ => true
  | .spiRead _ count => decide (1 ≤ count)
  | .spiStatus => true
  | .heldAccessComplete => true
  | .peBootStart => true
  | .bypass => true
  | .idcode => true
  | .samplePreload _ => true
  | .extest _ => true
  | .dbgacc _ addr _ => decide (addr < 2 ^ 32 ∧ addr % 8 = 0)
  | .haltAll _ => true
  | .haltAllClear _ => true
  | .haltEng _ _ => true
  | .haltEngClear _ _ => true
  | .debugWarmReset _ => true
  | .debugColdReset _ => true
  | .vio33Overload _ => true
  | .safetyInputIndeterminate _ _ => true
  | .canRxError _ lec _ => decide (1 ≤ lec.val ∧ lec.val ≤ 6)
  | .baonClkReturn => true
  | .pcieLinkDown => true
  | .pcieLinkUp => true
  | .pcieConfigWrite _ => true

end Sys2Proof
end

