-- ==== Sys2Proof/Decode.lean ====
section
/-! DEFINITION. Commands from table words. The operation table gives no row any bits, so no word spells a command; the words of the
engines' programs are decoded in Machine/EngineIsa.lean. -/

namespace Sys2Proof

/-- The command that a word of the operation table's bits spells: none. -/
def decodeTableWord (_nbits _w : Nat) : Option Instr := none

end Sys2Proof
end

