-- ==== Sys2Proof/Machine/Bits.lean ====
section
/-! DEFINITION. Bit fields, signed values, saturation (R8) and rounding (R456). -/

namespace Sys2Proof.Machine

/-- Bits `hi:lo` of a word, as a number. -/
def fld (w : Word) (hi lo : Nat) : Nat := (w.toNat >>> lo) % 2 ^ (hi + 1 - lo)

/-- The word with bits `hi:lo` replaced by the low bits of `v`. -/
def setFld (w : Word) (hi lo v : Nat) : Word :=
  let m : Word := BitVec.ofNat 36 ((2 ^ (hi + 1 - lo) - 1) <<< lo)
  (w &&& ~~~m) ||| (BitVec.ofNat 36 (v <<< lo) &&& m)

/-- The signed value of an `n`-bit number. -/
def sx (n v : Nat) : Int := if v < 2 ^ (n - 1) then (v : Int) else (v : Int) - (2 : Int) ^ n

/-- An integer clamped to `lo .. hi`. -/
def clamp (lo hi v : Int) : Int := if v < lo then lo else if hi < v then hi else v

/-- Saturation to an `n`-bit signed format (R8). -/
def satS (n : Nat) (v : Int) : Int := clamp (-(2 : Int) ^ (n - 1)) ((2 : Int) ^ (n - 1) - 1) v

/-- Saturation to an `n`-bit unsigned format (R8). -/
def satU (n : Nat) (v : Int) : Int := clamp 0 ((2 : Int) ^ n - 1) v

/-- Whether a value lies in a range. -/
def inRange (v lo hi : Nat) : Bool := decide (lo ≤ v) && decide (v ≤ hi)

/-- A word from an integer, saturating at the signed 36-bit range (R8). -/
def wordS (v : Int) : Word := BitVec.ofInt 36 (satS 36 v)

/-- A word from an integer, saturating at the unsigned 36-bit range (R8). -/
def wordU (v : Int) : Word := BitVec.ofInt 36 (satU 36 v)

/-- Round to nearest, ties away from zero (R456). -/
def roundQ (q : Rat) : Int := if 0 ≤ q then (q + 1 / 2).floor else -((-q + 1 / 2).floor)

/-- Integer division rounded to nearest, ties away from zero (R456); `d` positive. -/
def divRound (a : Int) (d : Nat) : Int :=
  if 0 ≤ a then (a + (d : Int) / 2) / d else -((-a + (d : Int) / 2) / d)

/-- A counter that stops at its field's largest value. -/
def satInc (n v : Nat) : Nat := if v + 1 < 2 ^ n then v + 1 else 2 ^ n - 1

/-- Bit `i` of a number. -/
def bit (v i : Nat) : Bool := (v >>> i) % 2 = 1

/-- A number with bit `i` set. -/
def setBit (v i : Nat) : Nat := v ||| (1 <<< i)

/-- A number with bit `i` cleared. -/
def clrBit (v i : Nat) : Nat := if bit v i then v - (1 <<< i) else v

/-- A number with bit `i` set or cleared. -/
def putBit (v i : Nat) (b : Bool) : Nat := if b then setBit v i else clrBit v i

/-- 1 for true. -/
def b2n (b : Bool) : Nat := if b then 1 else 0

/-- The number of set bits of a Boolean list. -/
def countTrue (l : List Bool) : Nat := l.foldl (fun n b => if b then n + 1 else n) 0

/-- The largest `r` with `r * r ≤ n`, found bit by bit from bit `k` down. -/
def isqrtGo (n : Nat) : Nat → Nat → Nat
  | 0, r => if (r + 1) * (r + 1) ≤ n then r + 1 else r
  | k + 1, r =>
    let r' := r + 2 ^ (k + 1)
    isqrtGo n k (if r' * r' ≤ n then r' else r)

/-- Integer square root, rounded down, of numbers below 2^160. -/
def isqrt (n : Nat) : Nat := isqrtGo n 80 0

end Sys2Proof.Machine
end

