-- ==== Sys2Proof/Config.lean ====
section
/-! DEFINITION. What a part fixes (fuses, revisions, identification codes) and the free values: values the manual leaves open.
None has a body, so nothing can be proved of a value of it. Every free value is named in an assumption log entry. -/

namespace Sys2Proof.Config

/-- PAGE_ID.FUSED of SYS: true on PLV-SK48-T, false on PLV-SK48-D (R3, R36). -/
opaque fused : Bool

/-- The BAR2 fuse (R3, R48). -/
opaque bar2Fuse : Bool

/-- The ball fuse map as RST.BALL_MAP reports it (R69). -/
opaque ballMap : BitVec 32

/-- The revision a page reports in PAGE_ID.REV (R36). -/
opaque rev : Pg → BitVec 8

/-- The positions of the sealed switches SW16 to SW01 (R309). -/
opaque switches : BitVec 16

/-- The JTAG identification code of the part's BSDL file (R433). -/
opaque idcode : BitVec 32

/-- A word of the shared store that nothing has written since the reset numbered `epoch` left it undefined (R57, R349). -/
opaque storeWord (epoch addr : Nat) : Word

/-- A word of an engine's RAM (space 0 program, 1 X, 2 Y) that nothing has written since the reset numbered `epoch`. -/
opaque ramWord (epoch engine space addr : Nat) : Word

/-- A word of kernel ROM: of the axis engines (`pe` false) or of PE (R194). -/
opaque romWord (pe : Bool) (addr : Nat) : Word

/-- Whether a program address of PE is a ROM gate entry (R208). -/
opaque romGate (addr : Nat) : Bool

/-- The program address of the kernel of a task of the ROM task table (R211). -/
opaque romEntry (task : Nat) : BitVec 16

/-- A task word of the ROM fault table, which stands for TASK0-TASK15 in fault mode (R215). -/
opaque faultTask (task : Nat) : Word

/-- The words of PE's firmware tasks 0-23 (R209): TASKi, and with `lim` TASK_LIMi. -/
opaque peTask (lim : Bool) (i : Nat) : Word

/-- How far a result that the manual bounds but does not fix lies from the nearest value: sine and cosine (R241). -/
opaque sincosErr (cos : Bool) (theta : Word) : Int

/-- Whether an inexact quotient or root rounds up (R241 states no rounding). -/
opaque roundsUp (fn : Nat) (a b : Word) : Bool

/-- The covariance with which PE begins to identify a mass (R151 states none). -/
opaque pmInit : Rat

/-- Whether a RESET_IN pulse of 100 ns to 1 µs is taken (R458); a fresh answer for each pulse. -/
opaque pulseTaken (serial : Nat) : Bool

/-- A word whose value the manual leaves open, fresh for each serial number. -/
opaque freshWord (serial : Nat) : Word

/-- An integer whose value the manual leaves open, for the kind of value `what` and the operands given. -/
opaque freeInt (what : Nat) (args : List Int) : Int

end Sys2Proof.Config
end

