-- ==== Sys2Proof/Machine/Parts.lean ====
section
/-! DEFINITION. The parts of the machine's state that no register slot holds: queues, buffers, working values, latches,
pins and the like, one structure per kind of block. Every register slot is in the register map (State.regs). -/

namespace Sys2Proof.Machine

/-- Words by key, in rising order of the key. -/
abbrev Cells := List (Nat × Word)

/-- The flags of an engine (R226). -/
structure Flags where
  z : Bool
  n : Bool
  c : Bool
  v : Bool
  s : Bool
deriving DecidableEq, Repr

/-- What has happened to a queue in an FCLK cycle (R80, R84): the entries that landed and that were popped, the pushes refused with
QFULL's EV_RAW bit before them, whether it was flushed, and FULL_PUSH, EMPTY_POP and HWM as the cycle began. -/
structure QCyc where
  q : QId
  tick : Nat
  landed : Nat
  popped : Nat
  lost : List (List Word)
  full : Nat
  empty : Nat
  hwm : Nat
  evWas : Bool
  flushed : Bool
  eng : Option (Fin 13 × Flags)
deriving DecidableEq, Repr

/-- The credit queues of the module, oldest entry first; an entry is its list of words (R77, R125, R150). -/
structure Queues where
  pq : Vector (List (List Word)) 48
  fq : Vector (List (List Word)) 48
  mq : Vector (List (List Word)) 48
  oq : Vector (List (List Word)) 48
  dq : Vector (List (List Word)) 48
  cq : Vector (List (List Word)) 12
  /-- The latest cycle of each queue that has been used. -/
  cyc : List QCyc
deriving DecidableEq, Repr

/-- Empty queues. -/
def Queues.reset : Queues :=
  { pq := Vector.replicate 48 [], fq := Vector.replicate 48 [], mq := Vector.replicate 48 [],
    oq := Vector.replicate 48 [], dq := Vector.replicate 48 [], cq := Vector.replicate 12 [], cyc := [] }

/-! ### Engines (R194-R220) -/

/-- How a pointer advances (R202, R238). -/
inductive PtrMode where
  | linear | modulo | bitrev
deriving DecidableEq, Repr

/-- An address pointer with its mode (R202): `len` is M - 1 in modulo mode and n in bit-reversed mode. -/
structure Ptr where
  addr : BitVec 24
  mode : PtrMode
  inc : BitVec 11
  len : BitVec 12
deriving DecidableEq, Repr

/-- An entry of the loop stack (R243): a return address, or a loop with its first and last body address, the iterations
not yet ended and whether it rotates. -/
inductive LoopEnt where
  | ret (addr : Nat)
  | loop (first last : Nat) (left : Nat) (rotf : Bool)
deriving DecidableEq, Repr

/-- A buffered store: bus (false X, true Y), first address, words at consecutive addresses (R204). -/
structure StoreEnt where
  ybus : Bool
  addr : Nat
  words : List Word
deriving DecidableEq, Repr

/-- A ready task: its absolute deadline in ECLK cycles, then its number (R209). -/
structure Ready where
  deadline : Nat
  task : Nat
deriving DecidableEq, Repr

/-- What an urgent task of PE saves of the task it pre-empts (R207). -/
structure Saved where
  pc : Nat
  flags : Flags
  stack : List LoopEnt
  task : Option Ready
deriving DecidableEq, Repr

/-- An axis engine or PE (engine 12): R198-R220. -/
structure Engine where
  g : Vector Word 64
  acc : Vector (BitVec 88) 8
  ptr : Vector Ptr 18
  flags : Flags
  pc : Nat
  stack : List LoopEnt
  sbuf : List StoreEnt
  /-- The repeat cache: the words of the innermost loop's body by address (R199). -/
  cache : Cells
  pmem : Cells
  xmem : Cells
  ymem : Cells
  /-- The running task, with its absolute deadline. -/
  running : Option Ready
  ready : List Ready
  saved : Option Saved
  /-- A WAITP (false) or WAITC (true) in progress on a queue code (R240). -/
  waiting : Option (Bool × Nat)
  /-- ENG_CTRL HALT accepted, to take effect at the end of the running task (R219). -/
  haltReq : Bool
  /-- HB_CNT at the previous servo boundary, and the run of misses (R218). -/
  hbSeen : Nat
  hbMiss : Nat
  /-- The misses have reached HB_CFG.LIM. -/
  hbDue : Bool
  /-- PE has declared the engine failed and has not re-admitted it (R73, R216). -/
  failed : Bool
  /-- Consecutive servo cycles with a heartbeat since the reload (R73). -/
  hbGood : Nat
  /-- The tick of the trap that PE is handling (R216), and whether PE has still to take it up. -/
  trapAt : Nat
  trapDue : Bool
  /-- PE in its ROM fault handler (R217): it executes nothing further. -/
  dead : Bool
  /-- A RESET, reload and restart by PE's firmware is due (R73, R216). -/
  reloadDue : Bool
deriving DecidableEq, Repr

/-- A pointer after reset: linear, INC 1, address 0 (R238). -/
def Ptr.reset : Ptr := { addr := 0, mode := .linear, inc := 1, len := 0 }

/-- All flags clear. -/
def Flags.reset : Flags := { z := false, n := false, c := false, v := false, s := false }

/-- An engine out of reset, RAM contents apart. -/
def Engine.reset : Engine :=
  { g := Vector.replicate 64 0, acc := Vector.replicate 8 0, ptr := Vector.replicate 18 Ptr.reset,
    flags := Flags.reset, pc := 0, stack := [], sbuf := [], cache := [], pmem := [], xmem := [], ymem := [],
    running := none, ready := [], saved := none, waiting := none, haltReq := false, hbSeen := 0, hbMiss := 0,
    hbDue := false, failed := false, hbGood := 0, trapAt := 0, trapDue := false, dead := false, reloadDue := false }

/-! ### Drive ports (R249-R269) -/

/-- The phase of a chopper coil (R265). -/
inductive Phase where
  | on | off | offDone
deriving DecidableEq, Repr

/-- What stands at a ball (R69, R249): nothing drives it, a weak pull, or a driven level. -/
inductive Lvl where
  | z | pullDown | pullUp | low | high
deriving DecidableEq, Repr

/-- What commands a half-bridge output from a tick on: one pulse, its edges in 1/64 tick after that tick (none where `rise` is
not below `fall`), the level commanded just before, and the place of the last transition before, in 1/64 tick. -/
structure Wave where
  start : Nat
  rise : Nat
  fall : Nat
  was : Bool
  edge : Option Nat
deriving DecidableEq, Repr

/-- An output commanded low that has made no transition. -/
def Wave.low : Wave := { start := 0, rise := 0, fall := 0, was := false, edge := none }

/-- One coil of the chopper: its phase, the tick it began, the tick its blanking began, the run of on-phases that TON_MAX ended,
OPEN_LOAD due, and the reference in force as a fraction of AMPS_FS. -/
structure Coil where
  phase : Phase
  since : Nat
  blank : Nat
  openRun : Nat
  openDue : Bool
  ref : Rat
  /-- The table entry taken up. -/
  raw : Int
  /-- The direction driven: the sign of the reference taken at the present on-phase. -/
  neg : Bool
deriving DecidableEq, Repr

/-- The carrier of an axis group (R159, R160, R252): the LOOP_RATE word in force, the tick of the last PWM sync, and whether the
second carrier period of its loop period has begun; and the tick of the group's last cutoff (R94, R190). -/
structure Carrier where
  rate : Word
  sync : Nat
  half : Bool
  cutAt : Option Nat
deriving DecidableEq, Repr

/-- A carrier out of reset: LOOP_RATE's reset word is in force, and the next carrier start is a PWM sync. -/
def Carrier.reset : Carrier := { rate := 0x2249F, sync := 0, half := true, cutAt := none }

/-- A drive port beside its registers. Duties are 36-bit words. -/
structure DrivePort where
  shadow : Vector Word 4
  popped : Bool
  /-- The tick of the last carrier start, and the carrier period in ticks. -/
  carStart : Nat
  carLen : Nat
  /-- What commands the four outputs, the tick at which they were last driven low directly, and the tick of the last release from
  a debug halt with its length. -/
  waves : Vector Wave 4
  cutAt : Option Nat
  resumed : Nat × Nat
  /-- The level of the synchronised TRIPnn, the tick it has had it since, and whether this activation has been validated. -/
  tripPin : Bool
  tripSince : Nat
  tripDone : Bool
  /-- The ticks of the last validated trip, accepted re-arm and PENnn low, and of the last latch with EV_RAW.TRIP before it
  (R263). -/
  tripAt : Option Nat
  rearmAt : Option Nat
  penAt : Option Nat
  latched : Option (Nat × Bool)
  /-- The half-bridges forced low by a cycle-by-cycle trip until the next carrier start; a trip fell in this period, and one
  before the last. -/
  forced : Bool
  cbcHit : Bool
  cbcPrev : Bool
  /-- CBC_RUN has reached CBC_LIM and the latch is due. -/
  cbcDue : Bool
  /-- The configuration words in force, taken up at carrier starts, and the dead time in force before the last one. -/
  cfgW : Word
  deadW : Word
  deadWas : Nat
  tripW : Word
  chopW : Word
  /-- NTAP of the map in force and of a map measured and not yet taken up (R255). -/
  calMap : Option Nat
  calNew : Option Nat
  coilA : Coil
  coilB : Coil
deriving DecidableEq, Repr

/-- A chopper coil at rest. -/
def Coil.reset : Coil := { phase := .offDone, since := 0, blank := 0, openRun := 0, openDue := false, ref := 0, raw := 0, neg := false }

/-- A drive port out of reset; the words in force are the reset words of R260-R267. -/
def DrivePort.reset : DrivePort :=
  { shadow := Vector.replicate 4 0, popped := false, carStart := 0, carLen := 0, waves := Vector.replicate 4 Wave.low,
    cutAt := none, resumed := (0, 0), tripPin := true, tripSince := 0, tripDone := false, tripAt := none, rearmAt := none,
    penAt := none, latched := none, forced := false, cbcHit := false, cbcPrev := false, cbcDue := false,
    cfgW := 0, deadW := 0, deadWas := 0, tripW := 0x259031, chopW := 0xBB820096, calMap := none, calNew := none,
    coilA := Coil.reset, coilB := Coil.reset }

/-! ### Profile units with their buffer stops, and the kernels and firmware that serve an axis (R77-R178) -/

/-- A segment in the hardware queue: its four words, its table (0 with SRC 1) and its index in it, or its number among the
pushed segments (R95, R104, R111). -/
structure QSeg where
  w0 : Word
  w1 : Word
  w2 : Word
  w3 : Word
  tbl : Nat
  idx : Nat
deriving DecidableEq, Repr

/-- A segment that runs: its start in profile time (2^-16 tick), its start state and the segment (R97). -/
structure SegRun where
  start : Nat
  p0 : Int
  v0 : Int
  seg : QSeg
deriving DecidableEq, Repr

/-- The path a one-sided blend leaves (R98, R111): the state it starts from, BLEND_T at its start and the window's width
(ticks), and whether it is the decay path of a REPLACE whose segment had not arrived. -/
structure Pre where
  p : Int
  v : Int
  a : Int
  bt : Nat
  width : Nat
  decay : Bool
deriving DecidableEq, Repr

/-- A ramped stop (R112): its start state, deceleration (ACC36), window (ticks) and the instant of rest (2^-16 tick). -/
structure Ramp where
  p : Int
  v : Int
  a : Int
  dec : Int
  width : Rat
  rest : Nat
deriving DecidableEq, Repr

/-- A table the unit fetches from: number, first word, segments, segments fetched, and whether its LAST has been fetched. -/
structure TblRef where
  table : Nat
  base : Nat
  count : Nat
  next : Nat
  ended : Bool
deriving DecidableEq, Repr

/-- What kind of command waits for a cutoff (R108, R130, R174). -/
inductive CmdKind where
  | move | gear | dice
deriving DecidableEq, Repr

/-- A command waiting for its cutoff: OP, TABLE, SRC at the write, and the directory entry once it has arrived (R103);
`have_` is the number of the last segment pushed before it was written (R111). -/
structure Cmd where
  kind : CmdKind
  op : Nat
  table : Nat
  src1 : Bool
  entry : Option Word
  have_ : Nat
deriving DecidableEq, Repr

/-- The motion a profile unit runs. -/
structure Motion where
  /-- Profile time since the move, ramp or hold began, in 2^-16 tick (R145). -/
  tau : Nat
  cur : Option SegRun
  prev : Option SegRun
  /-- Width (ticks) of the window at the joint before `cur`, and of the joint after it once decided (R101). -/
  prevB : Nat
  nextB : Option Nat
  pre : Option Pre
  ramp : Option Ramp
  /-- A START accepted whose first segment is still to come (R109). -/
  startWait : Bool
  /-- A REPLACE in force whose first segment is still to come (R111), or a move at the end of a table whose successor's
  first segment is still to come (R105). -/
  replWait : Bool
  gap : Bool
  /-- A hard stop is in force until its frozen setpoint is pushed (R114). -/
  hard : Bool
deriving DecidableEq, Repr

/-- The word a register held before a write that the kernels have not taken up yet (R168); `cut`: the write was there at
the last cutoff, so the next boundary takes it up. -/
structure OldWord where
  off : Nat
  old : Word
  cut : Bool
deriving DecidableEq, Repr

/-- A setpoint: POS36, VEL36, ACC36 as raw integers. -/
structure Setp where
  p : Int
  v : Int
  a : Int
deriving DecidableEq, Repr

/-- A gear station or the ratio of an engagement: MPOS (raw), NUM, DEN, ENG (raw). -/
structure Stn where
  mpos : Int
  num : Int
  den : Nat
  eng : Int
deriving DecidableEq, Repr

/-- A gear in force (R128-R131): the relation, the copied configuration, the side of the next station. `m0` in
counts; `s0` in 2^-48 count and `r0` with 48 fraction bits. -/
structure Gear where
  m0 : Rat
  s0 : Int
  r0 : Int
  num : Int
  den : Nat
  len : Int
  stations : List Stn
  nextIdx : Nat
  below : Bool
  dis : Int
  /-- Where the master stood at the ENGAGE (R182). -/
  mEng : Rat
deriving DecidableEq, Repr

/-- Dice and capture of an axis (R172-R177). -/
structure Dice where
  run : Bool
  n : Nat
  t0 : Nat
  lfsr : Nat
  capRun : Bool
  capN : Nat
  cap0 : Nat
  buf : List (Nat × Word)
  endDue : Bool
  capDue : Nat
deriving DecidableEq, Repr

/-- What the profile unit put into one servo cycle, as PE needs it for the cycle's OQ entry (R151-R153, R156): the cycle's
number, the planned state before the buffer stop, the setpoint pushed, F_lim of R149 and whether it lies in the zone. -/
structure CycPlan where
  cyc : Nat
  plan : Setp
  out : Setp
  fLim : Int
  zone : Bool
deriving DecidableEq, Repr

/-- What the engine's kernels hold for an axis (R90, R91, R162-R170), and PE's working values of learning and detection
(R151-R156). Voltages, currents and integrators in 2^-35; `dv` in 2^-48 count/ms. -/
structure Kern where
  setp : Setp
  flagW : Word
  starvedOnce : Bool
  fbP : Int
  fbV : Int
  fbStale : Bool
  fbSeen : Bool
  fbFresh : Bool
  sinceFb : Nat
  integ : Int
  dv : Int
  xd : Int
  xq : Int
  iqRef : Int
  e : Int
  enc0 : Rat
  iqSum : Int
  iqCnt : Nat
  vsatRun : Nat
  vsatArm : Bool
  vsatOk : Nat
  engRamp : Option Ramp
  engTau : Nat
  engHold : Bool
  mode : Nat
  cqWait : Bool
  sampled : List (Nat × Word)
  cycle : Nat
  obsCnt : Nat
  /-- The present run of entries above OBS_THR has been reported (R153). -/
  obsHit : Bool
  forceCnt : Nat
  lastCycle : Nat
  vHist : List Int
  pm : Option Rat
  s2 : Rat
  sN : Nat
  /-- The mass estimate in progress, an identified acceleration phase in progress, an opening stroke in progress, and
  whether the stroke has been counted (R151). -/
  mass : Option Rat
  idPhase : Bool
  stroke : Bool
  counted : Bool
  /-- The signals of R176 as last computed, by code. -/
  recd : Vector Word 16
  /-- Words that a current pass in progress keeps using although a boundary has taken up their successors (R168). -/
  passOld : List OldWord
deriving DecidableEq, Repr

/-- Supervision and fault bookkeeping of an axis: flags that a fault's limit has been reached and its step is due. -/
structure Sup where
  /-- The action of the fault in progress: 0 ramp then hold, 1 ramp then disable, 2 disable at once (R460). -/
  act : Nat
  /-- The profile unit is to start the fault's ramp at the next cutoff. -/
  rampDue : Bool
  starveDue : Bool
  curMissDue : Bool
  fbLossDue : Bool
  overDue : Bool
  forceDue : Bool
  feDue : Bool
  obsDue : Bool
  vsatDue : Bool
  feTimer : Nat
  feFired : Bool
  feWarned : Bool
  overCnt : Nat
  cfgBad : Bool
  /-- The ports from which a sample without STALE has landed in FQ since the page was enabled (R88). -/
  fbOk : List (Fin 48)
  /-- The present run of STARVE_RUN, CUR_MISS_RUN or FB_MISS_RUN has raised its fault (R92). -/
  starveHit : Bool
  curHit : Bool
  fbHit : Bool
  /-- The servo cycle in which FE_FAULT put the axis into its present fault (R171). -/
  feAt : Option Nat
deriving DecidableEq, Repr

/-- The buffer stop's working state (R139-R147). -/
structure Gov where
  staged : List (Nat × Word)
  lower : Option Int
  rec_ : Option (List Word)
  ready : Bool
  /-- σ of the last cutoff, in 2^-48. -/
  sigma : Nat
  clamped : Bool
deriving DecidableEq, Repr

/-- An axis beside its registers: profile unit, buffer stop, kernels and supervision. -/
structure Axis where
  hwq : List QSeg
  tabs : List TblRef
  cmds : List Cmd
  mot : Motion
  /-- The setpoint computed at the last cutoff after the buffer stop, to be pushed at the next boundary (none: nothing is
  pushed), and the state before the buffer stop that a stop, a hold or a new move starts from. -/
  next : Option Setp
  held : Setp
  /-- Segments pushed so far (R111). -/
  pushNo : Nat
  /-- A stop at the limit of each direction has ended the last motion and holds (R109, R117). -/
  holdPos : Bool
  holdNeg : Bool
  /-- The newest sample that landed in FQ: position and speed (R88, R99, R155). -/
  fbNew : Int × Int
  /-- What the latest servo cycles, and those whose OQ entries wait, were given, newest first (R151-R156). -/
  plans : List CycPlan
  doneDue : Bool
  limPos : Bool
  limNeg : Bool
  gear : Option Gear
  mEnt : Option (List Word)
  mNow : Rat
  mVel : Rat
  mAcc : Rat
  gov : Gov
  kern : Kern
  sup : Sup
  dice : Dice
  params : List OldWord
  sol : Nat
  solSince : Nat
  cfgHeld : Bool
deriving DecidableEq, Repr

/-- A virtual master (R135): filtered position and velocity (counts, counts/ms), the instants of the last accepted frame
(1/64 ns), frames accepted in the present acquisition, consecutive outliers, and the sequence number of the next frame of its
link's receive ring that PE examines (R134). -/
structure VMast where
  p : Rat
  v : Rat
  tLast : Int
  rxLast : Int
  nAcq : Nat
  nOut : Nat
  seq : Nat
deriving DecidableEq, Repr

/-- A virtual master never enabled. -/
def VMast.reset : VMast := { p := 0, v := 0, tLast := 0, rxLast := 0, nAcq := 0, nOut := 0, seq := 0 }

/-- A move that the sequencer gives an axis (R182): its table, and `st`: 0 it waits until the axis can take it, 1 sent as START,
2 sent as REPLACE, 3 taken up. `own`: it may go out as REPLACE too, as the sequencer's own tables do. -/
structure Leg where
  axis : Fin 48
  table : Nat
  own : Bool
  st : Nat
deriving DecidableEq, Repr

/-- A doorway as the sequencer on PE holds it (R179-R193): the table entry as last read (16 words, or none), an entry read
again that waits to take effect, the pending command, what OPENING is to run (0 OPEN_TBL, 1 gearing, 2 the sequencer's
table), a DISENGAGE sent, master loss of a geared leaf, the moves in progress, the sequencer's own move, an obstacle to answer, the tick of entry to
CLOSING and that at which CLOSED then came on, the closing time measured, the completed closing moves by role and the obstacles
since the metrics were last updated, and the sums and counts of the baselines' samples (closing time, friction, mass). -/
structure Door where
  entry : List Word
  staged : Option (List Word)
  pend : Option (Nat × Bool)
  how : Nat
  dis : Bool
  lost : Bool
  legs : List Leg
  ownMove : Nat × Int
  obs : Bool
  closeAt : Nat
  closedAt : Option Nat
  moves : Vector Nat 4
  tcl : Option Nat
  obst : Nat
  nT : Nat
  sumT : Int
  nF : Nat
  sumF : Int
  nM : Nat
  sumM : Int
  warned : Bool
deriving DecidableEq, Repr

/-- A doorway nothing has been read of. -/
def Door.reset : Door :=
  { entry := [], staged := none, pend := none, how := 0, dis := false, lost := false, legs := [], ownMove := (0, 0), obs := false, closeAt := 0,
    closedAt := none, moves := Vector.replicate 4 0, tcl := none, obst := 0,
    nT := 0, sumT := 0, nF := 0, sumF := 0, nM := 0, sumM := 0, warned := false }

/-- OVL beside its registers (R187-R191): SRC of the last OVL_LOAD write, the records of each overlay slot and its SECURE bit,
those of the base image, a base load in progress (its first word, its records, the first record its check found invalid), the
requested stack, and the level and index of the first record that its preparation found invalid. -/
structure OvlPart where
  src : Nat
  count : Vector Nat 16
  secure : Vector Bool 16
  baseCount : Nat
  load : Option (Nat × Nat × Option Nat)
  request : Option Nat
  bad : Option (Nat × Nat)
deriving DecidableEq, Repr

/-- OVL out of reset. -/
def OvlPart.reset : OvlPart :=
  { src := 0, count := Vector.replicate 16 0, secure := Vector.replicate 16 false, baseCount := 0, load := none, request := none,
    bad := none }

/-! ### Feedback ports (R270-R288) -/

/-- What a feedback port held before the edges accepted in a tick (R273): accepted levels, position, last valid Hall code, counts
and direction, STILL, the fault note, and whether EDGE_FAULT and POS_SAT were set; and what those edges have done since: a fault
(`fault`), its count in EDGE_FAULTS (`cnt`), POS_SAT (`sat`); and whether an early edge of the tick is a fault of its own (R272). -/
structure FbUndo where
  tick : Nat
  acc : Vector Bool 3
  pos : Int
  hall : Option Nat
  counts : List Nat
  dir : Int
  still : Bool
  sawFault : Bool
  faulted : Bool
  satd : Bool
  fault : Bool
  cnt : Bool
  sat : Bool
  early : Bool
deriving DecidableEq, Repr

/-- A feedback port beside its registers. -/
structure FbPart where
  /-- FB_CFG has been written since the reset, so that MODE assigns the balls (R271). -/
  cfgd : Bool
  undo : Option FbUndo
  /-- The levels of lines A, B and C in the input register, the accepted levels, and the tick of each line's last accepted
  edge (R270, R272). -/
  inp : Vector Bool 3
  acc : Vector Bool 3
  edge : Vector (Option Nat) 3
  /-- The count C at which each line's present level entered the input register (R278). -/
  enterC : Vector Nat 3
  /-- The position (counts), the last valid Hall code, and the ticks of the last accepted counts in the present direction of
  travel, newest first (R273, R275). -/
  pos : Int
  hall : Option Nat
  counts : List Nat
  dir : Int
  /-- A SETPOS to load at a tick, and the tick at which the last was loaded (R274). -/
  preset : Option (Nat × Int)
  loaded : Option Nat
  /-- The tick from which an index edge's zeroing shows, and the ticks at which the index and position latches last stored (R278,
  R279). -/
  zeroDue : Option Nat
  idxAt : Option Nat
  latAt : Option Nat
  /-- Position and tick of the previous sample instant, if there was one, the speed (VEL36), and the next sample's number
  (R275-R277). -/
  prev : Option (Int × Nat)
  vel : Int
  seqNo : Nat
  /-- Edge fault, index and latch since the previous sample (R277). -/
  sawFault : Bool
  sawIdx : Bool
  sawLat : Bool
  /-- IDX_MODE 2 has still to zero the position (R278). -/
  zeroArm : Bool
  /-- The shift sequencer: shift register, transmit register, CRC register, the driven levels of A and C (none: input), the
  raw value of the frame with its width and UNWRAP, the sample instant (tick, count C), and how the frame has ended
  (R280-R284). -/
  sr : BitVec 48
  tx : BitVec 32
  crc : BitVec 16
  outA : Bool
  outC : Option Bool
  /-- What the last SET made of C (R282). -/
  setC : Option Bool
  raw : Option (Nat × Nat × Bool)
  mark : Nat × Nat
  ended : Option Nat
  /-- MODE 4: the offset of R274, the last valid raw value, if any, whether the next valid frame is the first after RUN or SETPOS, and
  the instants and positions of the last two valid frames (R275, R281). -/
  offset : Int
  lastRaw : Option Nat
  first : Bool
  valid : Option (Nat × Int)
deriving DecidableEq, Repr

/-- A feedback port out of reset. -/
def FbPart.reset : FbPart :=
  { cfgd := false, undo := none, inp := Vector.replicate 3 false, acc := Vector.replicate 3 false, edge := Vector.replicate 3 none,
    enterC := Vector.replicate 3 0, zeroDue := none, idxAt := none, latAt := none, pos := 0, hall := none,
    counts := [], dir := 1, preset := none, loaded := none, prev := none, vel := 0, seqNo := 0, sawFault := false,
    sawIdx := false, sawLat := false, zeroArm := false, sr := 0, tx := 0, crc := 0, outA := true, outC := none, setC := none, raw := none,
    mark := (0, 0), ended := none, offset := 0, lastRaw := none, first := true, valid := none }

/-! ### Converters (R289-R299) -/

/-- One sequence entry's averaging: sum and number of conversions of the present and of the last complete carrier period, whether no
CQ entry is to be pushed in the present period, whether AVG waits for a carrier start to begin, and whether the period before the
present one was incomplete (R294, R295). -/
structure AdcEnt where
  sum : Int
  cnt : Nat
  pSum : Int
  pCnt : Nat
  pushed : Bool
  skip : Bool
  part : Bool
deriving DecidableEq, Repr

/-- A converter unit beside its registers: the configuration in force (R296), the entry the next result belongs to, a restart
at a tick with the sequence it takes up (R293), the ACLK cycles of the free-running averaging period, the start of the
averaging period of inputs 16 to 19, and the calibration in progress: its inputs with sum and number of codes (R297). -/
structure AdcPart where
  cfg : Word
  seq : Vector Word 32
  next : Nat
  restart : Option (Nat × Vector Word 32)
  aclk : Nat
  grpStart : Nat
  ents : Vector AdcEnt 32
  cal : List (Nat × Int × Nat)
  /-- Words of ADC_CFG, SEQi and IN_CALj that writes have replaced of late: offset, word and tick, oldest first (R296). -/
  prior : List (Nat × Word × Nat)
deriving DecidableEq, Repr

/-- An entry nothing has been converted for: it waits for a carrier start. -/
def AdcEnt.reset : AdcEnt := { sum := 0, cnt := 0, pSum := 0, pCnt := 0, pushed := true, skip := true, part := true }

/-- A converter out of reset: SEQi selects input i mod 16. -/
def AdcPart.reset : AdcPart :=
  { cfg := 0, seq := Vector.ofFn (fun i => BitVec.ofNat 36 (i.val % 16)), next := 0, restart := none, aclk := 0, grpStart := 0,
    ents := Vector.replicate 32 AdcEnt.reset, cal := [], prior := [] }

/-! ### The safety island (R300-R331) -/

/-- The state of a function block (R316). -/
inductive Blk where
  | unused | withdrawn | waitRst | permit | demand | disc
deriving DecidableEq, Repr

/-- The synchronism of a two-hand block (R318): it waits for both inputs off, is armed, has its window open, or is met. -/
inductive Hand where
  | wait | armed | window | met
deriving DecidableEq, Repr

/-- What one decider holds (R301): the accepted levels of the inputs, the tick at which an input was accepted on, its function
blocks, and the tick of each block's last manual reset (R319). -/
structure Dec where
  level : Vector Bool 24
  onAt : Vector (Option Nat) 24
  st : Vector Blk 16
  hand : Vector Hand 16
  resetAt : Vector (Option Nat) 16
deriving DecidableEq, Repr

/-- The configuration that a lane latches at ARM (R313): blocks, their times, groups, port map, outputs, and the parity of each of
these words in that order. -/
structure LaneCopy where
  cfg : Vector Word 16
  time : Vector Word 16
  grp : Vector Word 8
  map : Vector Word 6
  sout : Vector Word 8
  par : Vector Bool 54
deriving DecidableEq, Repr

/-- The island beside its registers: the deciders, each lane's copy and latched switches, the switches as each decider last read
them (R301, R310), whether the lanes
are out of reset, PE's beat in the present window and the run of windows with one, a wait for PE's health after a reset the
island commanded, the hold after a reset of the control plane (R68), a ROOT fault (R53), SCLK_SI stopped (R55), VSAFE out of
range (R302), the output in an off-pulse (R324), the outputs whose balls read on although they are off (R325), and report
records that wait for the store (R305). -/
structure SiPart where
  sp : Dec
  laneA : Dec
  laneB : Dec
  copyA : Option LaneCopy
  copyB : Option LaneCopy
  laneSwA : BitVec 16
  laneSwB : BitVec 16
  sw : Option (BitVec 16)
  swA : Option (BitVec 16)
  swB : Option (BitVec 16)
  lanesOn : Bool
  beat : Bool
  good : Nat
  wait : Bool
  hold : Bool
  rootFault : Bool
  sclkStop : Bool
  vsafeBad : Bool
  pulse : Option Nat
  readOn : BitVec 8
  repQ : List (List Word)
deriving DecidableEq, Repr

/-- A decider out of reset. -/
def Dec.reset : Dec :=
  { level := Vector.replicate 24 false, onAt := Vector.replicate 24 none, st := Vector.replicate 16 .unused,
    hand := Vector.replicate 16 .wait, resetAt := Vector.replicate 16 none }

/-- The island in reset. -/
def SiPart.reset : SiPart :=
  { sp := Dec.reset, laneA := Dec.reset, laneB := Dec.reset, copyA := none, copyB := none, laneSwA := 0, laneSwB := 0, sw := none,
    swA := none, swB := none, lanesOn := false,
    beat := false, good := 0, wait := false, hold := false, rootFault := false, sclkStop := false, vsafeBad := false,
    pulse := none, readOn := 0, repQ := [] }

/-! ### The store's arbiter (R346-R359) -/

/-- A request at ARB: the axis that a fetch of the refill engine serves, or 1 for a host access that came through BAR2; its direction, first word, length, data of a write, the transfers done, and the cycle it was raised in. -/
structure StoreReq where
  own : Fin 48
  wr : Bool
  addr : Nat
  len : Nat
  data : List Word
  done : Nat
  raised : Nat
deriving DecidableEq, Repr

/-- ARB beside its registers: the cycles since its release (the slot is the cycle modulo 64), the request of each requester,
claims (oldest first), dwell counts, the urgent requester, when each was last urgent, the tablet in progress, refresh due and
in progress, the timetable in force, one that waits for slot 0 and the cycle of its COMMIT, the reads in flight (requester, word address, word) and the
words returned, oldest first. -/
structure ArbPart where
  cycle : Nat
  reqs : Vector (Option StoreReq) 29
  claims : List Nat
  dwell : Vector Nat 29
  urgent : Option Nat
  lastUrg : Vector Nat 29
  urgNo : Nat
  cur : Option (Fin 29)
  refDue : Bool
  refresh : Bool
  tt : Vector Word 11
  ttPend : Option (Vector Word 11)
  ttAt : Nat
  flight : List (Nat × Nat × Word)
  ret : List (Nat × Word)
deriving DecidableEq, Repr

/-- ARB out of reset: every slot open. -/
def ArbPart.reset : ArbPart :=
  { cycle := 0, reqs := Vector.replicate 29 none, claims := [], dwell := Vector.replicate 29 0, urgent := none,
    lastUrg := Vector.replicate 29 0, urgNo := 0, cur := none, refDue := false, refresh := false,
    tt := Vector.replicate 11 0xFFFFFFFFF, ttPend := none, ttAt := 0, flight := [], ret := [] }

/-! ### Field I/O banks (R332-R345) -/

/-- A field bank beside its registers: its field side released, a first scan done, the ball levels of the last scan and the
channels then within the band between the thresholds, how many scans in a row have shown each channel's level (R335), the
outputs that are on, those an overload holds off, the levels held in SAFE, the input currents of the last scan in microamperes
(R333), the tick of the last scan or of the release, that of the KICK that last restarted the watchdog, and a restart due in the next
scan after RESUME (R342, R343). -/
structure FiobPart where
  rel : Bool
  scanned : Bool
  balls : BitVec 32
  band : BitVec 32
  run : Vector Nat 32
  on : BitVec 32
  off : BitVec 32
  hold : BitVec 32
  cur : Vector Nat 32
  scanAt : Nat
  kickAt : Option Nat
  resumed : Bool
deriving DecidableEq, Repr

/-- A field bank out of reset: outputs off. -/
def FiobPart.reset : FiobPart :=
  { rel := false, scanned := false, balls := 0, band := 0, run := Vector.replicate 32 0, on := 0, off := 0, hold := 0,
    cur := Vector.replicate 32 0, scanAt := 0, kickAt := none, resumed := false }

/-! ### The event recorder (R361-R381) -/

/-- A record in the FIFO: the count C of its tag, its place among equal tags (0 TIME, 1 change and loss, 2 analog, 3 TRIG), its
words, whether it is the primary TRIG record, and the tick it was written. -/
structure RecEnt where
  key : Nat
  cls : Nat
  words : List Word
  prim : Bool
  at_ : Nat
deriving DecidableEq, Repr

/-- An analog probe: the last recorded value, the newest value of the present window with its instant (R362), and the last
conversion with its sample instant (R368). -/
structure RecAp where
  last : Option Int
  cur : Option (Int × Nat)
  conv : Option (Int × Nat)
deriving DecidableEq, Repr

/-- A trigger unit: the crossing that a runt or slew began with, whether the runt has reached its far threshold, the instant of
the last runt or slew, and the instant of the condition it last fired for (R368). -/
structure TrgUnit where
  begun : Option Nat
  reach : Bool
  due : Option Nat
  done : Option Nat
deriving DecidableEq, Repr

/-- A unit that has seen nothing. -/
def TrgUnit.reset : TrgUnit := { begun := none, reach := false, due := none, done := none }

/-- The recorder beside its registers. Instants are in 1/64 tick of the count C. -/
structure RecPart where
  lvl : BitVec 32
  /-- The present window: its start, the probes that changed in it, those that changed twice or more, the measurement, and the
  most words the FIFO held in it. -/
  winStart : Nat
  chg : BitVec 32
  multi : BitVec 32
  meas : Option Nat
  winMax : Nat
  aps : Vector RecAp 4
  /-- Of each probe: the instants of its last two changes, the instant of its latest rise and the time between the two latest
  (R365, R368); the changes of the measured probe since ARM; the levels before the tick of the latest change, and that tick's
  count. -/
  lastChg : Vector (Option Nat) 32
  prevChg : Vector (Option Nat) 32
  rise : Vector (Option Nat) 32
  period : Vector (Option Nat) 32
  chgCnt : Nat
  lvlWas : BitVec 32
  lvlTick : Nat
  trg : Vector TrgUnit 4
  fifo : List RecEnt
  lossCnt : Nat
  /-- The FIFO has held 768 words at this level; windows in a row with 128 words or fewer (R366). -/
  high : Bool
  lowRun : Nat
  /-- The ring: its base in force, the next word, WRAP, the primary TRIG record's address, TIME72 of ARM (R374). -/
  base : Nat
  wptr : Nat
  wrap : Bool
  taddr : Option Nat
  armT : Word × Word
  /-- The instant of each unit's last firing (4 FORCE, 5 emission), TRG0's latest, the primary trigger's unit, instant and the
  tick it was detected in (R370, R371). -/
  fired : Vector (Option Nat) 4
  seq0 : Option Nat
  prim : Option (Nat × Nat × Nat)
  /-- TRIGGERED was set before the capture trigger; the count C of ARM; the tick of the last STOP (R373). -/
  trigWas : Bool
  armC : Nat
  stopAt : Option Nat
  /-- An emission is due; a round trip is being measured; BAON_CLK has stopped (R378-R380). -/
  emit : Bool
  measuring : Bool
  clkLost : Bool
  /-- The count C at which a master's last pulse on BAON_TRIG began, and the instant (1/64 tick) at which a slave last saw BAON_TRIG
  rise (R379, R380). -/
  pulseC : Option Nat
  trigSeen : Option Nat
deriving DecidableEq, Repr

/-- The recorder out of reset. -/
def RecPart.reset : RecPart :=
  { lvl := 0, winStart := 0, chg := 0, multi := 0, meas := none, winMax := 0, aps := Vector.replicate 4 ⟨none, none, none⟩,
    lastChg := Vector.replicate 32 none, prevChg := Vector.replicate 32 none, rise := Vector.replicate 32 none,
    period := Vector.replicate 32 none, chgCnt := 0, lvlWas := 0, lvlTick := 0, trg := Vector.replicate 4 TrgUnit.reset, fifo := [], lossCnt := 0, high := false, lowRun := 0,
    base := 0x200000, wptr := 0x200004, wrap := false, taddr := none, armT := (0, 0), fired := Vector.replicate 4 none,
    seq0 := none, prim := none, trigWas := false, armC := 0, stopAt := none, emit := false, measuring := false, clkLost := false, pulseC := none, trigSeen := none }

/-! ### CAN links (R382-R402) -/

/-- A frame that waits for its place in the ring: word 0 without SEQ and RESTART, and words 1 onward (R389, R390). -/
structure CanRec where
  w0 : Nat
  rest : List Word
deriving DecidableEq, Repr

/-- A CAN link beside its registers: joined to the bus; frames held for the ring; whether the next record is the first since
release; the retries spent and the aborts asked for per transmit buffer (8: the commit frame); the active buffer with the count
C and platform time of its SOF; a recovery from bus-off; a change to CONFIG at the end of the frame; the commit frame pending;
Ref_Mark as count C, and that of the first reference message sent as master; the next reference number and one that replaces an active one (R396); CANk_STBY high; STBY_US passed
in ASLEEP. -/
structure CanPart where
  onBus : Bool
  held : List CanRec
  restart : Bool
  spent : Vector Nat 9
  abort : Vector Bool 8
  active : Option (Nat × Nat × Nat)
  recovering : Bool
  toConfig : Bool
  sleepPend : Bool
  refMark : Nat
  ref0 : Option Nat
  refJ : Nat
  refNext : Bool
  stby : Bool
  settled : Bool
  /-- The count C at which CONFIG was selected on a link that was on the bus, and the mode it left: a frame in progress then still
  ends in that mode (R386). -/
  left : Option (Nat × Nat)
deriving DecidableEq, Repr

/-- A link out of reset: AWAKE in CONFIG, CANk_STBY high (R401). -/
def CanPart.reset : CanPart :=
  { onBus := false, held := [], restart := true, spent := Vector.replicate 9 0, abort := Vector.replicate 8 false, active := none,
    recovering := false, toConfig := false, sleepPend := false, refMark := 0, ref0 := none, refJ := 0, refNext := false, stby := true,
    settled := false, left := none }

/-! ### Ethernet ports (R410-R417) -/

/-- An Ethernet port beside its registers: records held for the ring (words, then word 0 without SEQ and RESTART), whether the
next record is the first since release, the frames forwarded from this port to the other, each with the tick at which its first 14
bytes had arrived and the tick at which it leaves the other (R413), and the last frame this port has put on the medium, from its
preamble to its FCS (R412, R413). -/
structure EthPart where
  held : List CanRec
  restart : Bool
  fwd : List (Nat × Nat)
  out : List (BitVec 8)
deriving DecidableEq, Repr

/-- A port out of reset. -/
def EthPart.reset : EthPart := { held := [], restart := true, fwd := [], out := [] }

/-- A motion at rest. -/
def Motion.idle : Motion :=
  { tau := 0, cur := none, prev := none, prevB := 0, nextB := none, pre := none, ramp := none, startWait := false,
    replWait := false, gap := false, hard := false }

/-- A setpoint at rest at position 0. -/
def Setp.zero : Setp := { p := 0, v := 0, a := 0 }

/-- An axis out of reset. -/
def Axis.reset : Axis :=
  { hwq := [], tabs := [], cmds := [], mot := Motion.idle, next := none, held := Setp.zero, pushNo := 0, holdPos := false, holdNeg := false,
    fbNew := (0, 0), plans := [], doneDue := false,
    limPos := false, limNeg := false, gear := none, mEnt := none, mNow := 0, mVel := 0, mAcc := 0,
    gov := { staged := [], lower := none, rec_ := none, ready := false, sigma := 2 ^ 48, clamped := false },
    kern := { setp := Setp.zero, flagW := 0, starvedOnce := false, fbP := 0, fbV := 0, fbStale := false, fbSeen := false,
              fbFresh := false, sinceFb := 0, integ := 0, dv := 0, xd := 0, xq := 0, iqRef := 0, e := 0, enc0 := 0,
              iqSum := 0, iqCnt := 0, vsatRun := 0, vsatArm := true, vsatOk := 0, engRamp := none, engTau := 0,
              engHold := false, mode := 0, cqWait := false, sampled := [], cycle := 0, obsCnt := 0, obsHit := false, forceCnt := 0,
              lastCycle := 0, vHist := [], pm := none, s2 := 0, sN := 0, mass := none,
              idPhase := false, stroke := false, counted := false, recd := Vector.replicate 16 0, passOld := [] },
    sup := { act := 0, rampDue := false, starveDue := false, curMissDue := false, fbLossDue := false, overDue := false, forceDue := false,
             feDue := false, obsDue := false, vsatDue := false, feTimer := 0, feFired := false, feWarned := false,
             overCnt := 0, cfgBad := false, fbOk := [], starveHit := false, curHit := false, fbHit := false,
             feAt := none },
    dice := { run := false, n := 0, t0 := 0, lfsr := 0, capRun := false, capN := 0, cap0 := 0, buf := [],
              endDue := false, capDue := 0 },
    params := [], sol := 0, solSince := 0, cfgHeld := false }

/-! ### Reset controller, clocks, host access, events (R29-R76, R418-R436) -/

/-- The reset controller and what it has released (R57-R68). -/
structure RstPart where
  /-- Sources asserted now; the combined reach of the reset in progress: 0 none, 1 warm, 2 cold, 3 power. -/
  asserted : List RstSrc
  reach : Nat
  /-- RESET_OUT driven low. -/
  resetOut : Bool
  siRel : Bool
  /-- The derived clocks run; a loss of lock has gated them until a cold or power reset (R52). -/
  clkOn : Bool
  lossHold : Bool
  mgmtRel : Bool
  storeRdy : Bool
  engRel : Bool
  periRel : Bool
  dpRel : Bool
  /-- Ticks at which the watchdogs last restarted, and whether they have warned since (R62). -/
  wdCtrl : Nat
  wdData : Nat
  wdMgmt : Nat
  warnCtrl : Bool
  warnData : Bool
  warnMgmt : Bool
deriving DecidableEq, Repr

/-- A host requester's staging latch (R33), read snapshot (R34) and the data its last read returned, oldest slot first. -/
structure HostPort where
  latch : Option (Nat × BitVec 32)
  snap : Option (Nat × Word)
  rdata : List (BitVec 64)
deriving DecidableEq, Repr

/-- A host access held until its target is ready (R64): a write, or a read of a whole word or of a half (R34). -/
structure HeldAcc where
  req : Req
  addr : Nat
  wr : Bool
  data : BitVec 64
  half : Option Bool
deriving DecidableEq, Repr

/-- A firing of a global event (R419): number, tick, TIME72 words of the tick, the page's EV_RAW after it. -/
structure Firing where
  ev : Nat
  tick : Nat
  w0 : Word
  w1 : Word
  raw : BitVec 32
deriving DecidableEq, Repr

/-- The event router (R418-R425). -/
structure EvtPart where
  fired : List Firing
  delivering : List Firing
  /-- Unsent firings per vector, and the tick of the first of them (R422). -/
  count : Vector Nat 16
  since : Vector Nat 16
  /-- MSI messages sent, newest last: the vector of each. -/
  sent : List Nat
  logQ : List Firing
  logRestart : Bool
  /-- The selectors (slot offsets in EVT) whose inputs the latest delivery pulsed, and its count C (R420). -/
  pulsed : List Nat
  pulsedAt : Nat
  /-- Words of routes, selectors and vectors that writes have replaced of late: slot offset, word and tick, oldest first (R423). -/
  prior : List (Nat × Word × Nat)
  irq0 : Bool
  irq1 : Bool
deriving DecidableEq, Repr

/-- The endpoint's configuration space apart from the power state, Bus Master Enable and the mask of MSI (R426): class code,
Interrupt Pin, base addresses, the address and the data of an MSI message (vector `v` replaces the low 4 bits of the data), and
the payload and read request in bytes. -/
structure CfgSpace where
  classCode : BitVec 24
  intPin : BitVec 8
  bar0 : BitVec 64
  bar2 : BitVec 64
  msiAddr : BitVec 64
  msiData : BitVec 16
  maxPayload : Nat
  maxRead : Nat
deriving DecidableEq, Repr

/-- The configuration space after its reset (R426, R427; the values the table does not give: PRESUMED, log 72). -/
def CfgSpace.reset : CfgSpace :=
  { classCode := 0x118000, intPin := 0, bar0 := 0, bar2 := 0, msiAddr := 0, msiData := 0, maxPayload := 128, maxRead := 512 }

/-- The endpoint's link and configuration space, the host DMA engines and the words they have posted to host memory, the
service SPI port, the JTAG port and the module halt (R426-R436), and the mode of VIO33 (R440). -/
structure HostPart where
  linkUp : Bool
  d3hot : Bool
  busMaster : Bool
  msiEnable : Bool
  msiMask : BitVec 16
  cfg : CfgSpace
  /-- Expected SEQ of each receive channel; the words written to host memory, newest last; transmit slots (port, slot) that a
  channel has moved and the port has not done, and those that wait for their write-back (R429). -/
  dmaSeq : Vector Nat 9
  posted : List (Nat × BitVec 64)
  txMoved : List (Fin 2 × Nat)
  txBack : List (Fin 2 × Nat)
  /-- SPI: the last frame faulted; the bytes the last frame sent on MISO. -/
  spiErr : Bool
  spiOut : List (BitVec 8)
  /-- JTAG: the instruction in force (0 BYPASS, 1 IDCODE, 2 SAMPLE/PRELOAD, 3 EXTEST, 4 DBGACC), the bits it last shifted out,
  and the boundary cells; whether EXTEST drives the balls. -/
  jtagIr : Nat
  jtagOut : List Bool
  boundary : List Bool
  extest : Bool
  /-- The tick at which the module halt in force began (R435). -/
  haltAt : Option Nat
  vio33 : Vio33
deriving DecidableEq, Repr

end Sys2Proof.Machine
end

