-- ==== Sys2Proof/Machine/RegMap.lean ====
section
/-! DEFINITION. The register tables of the manual's field tables, one table per kind of page: offset, number and
spacing of the instances, reset word, whether PAGE_CTRL.FREEZE holds the register (R36), and each field's bits, access code
(R11) and reserved encodings (R13). Bits no field names are reserved (R12). Below each table every field's place has a name,
`PAGE.REGISTER.FIELD`, as the manual writes it. The tables' sources, page by page, are in INVENTORY.md. -/

namespace Sys2Proof.Machine

/-- The access codes of R11; `rwsc` is RWS in a command register that reads as zero. -/
inductive Acc where
  | ro | rw | w1c | wo | rws | rwl | rwsc
deriving DecidableEq, Repr

/-- One field of a register: bits `hi:lo`, access code, and the ranges of reserved encodings (R13). -/
structure FieldD where
  hi : Nat
  lo : Nat
  acc : Acc
  bad : List (Nat × Nat) := []
deriving DecidableEq, Repr

/-- One register, or an array of `cnt` of them `stride` bytes apart. `stat`: a status or counter register, held by FREEZE. -/
structure RegD where
  off : Nat
  stride : Nat
  cnt : Nat
  reset : Word
  stat : Bool
  flds : List FieldD
deriving DecidableEq, Repr

/-- Where a field lies in its page: offset of (the first of) its register(s), bits, and the spacing of an array. -/
structure Fld where
  off : Nat
  hi : Nat
  lo : Nat
  stride : Nat := 0
  stride2 : Nat := 0
deriving DecidableEq, Repr

/-- The field in the `i`-th register of an array. -/
def Fld.nth (f : Fld) (i : Nat) : Fld := { f with off := f.off + f.stride * i, stride := 0, stride2 := 0 }

/-- The field in register (`i`, `j`) of a two-dimensional array: word `j` of block `i`. -/
def Fld.nth2 (f : Fld) (i j : Nat) : Fld :=
  { f with off := f.off + f.stride2 * i + f.stride * j, stride := 0, stride2 := 0 }

/-- The registers of a page of kind SYS. No chapter gives R20's boot status a slot, and the model gives it none (DESIGN CHOICE, log 21). -/
def regsSys : List RegD :=
  [⟨0x40, 0x0, 1, 0x0, false, [⟨35, 32, .ro, []⟩, ⟨31, 31, .ro, []⟩, ⟨30, 30, .ro, []⟩, ⟨29, 27, .ro, []⟩, ⟨25, 25, .ro, []⟩, ⟨24, 0, .ro, []⟩]⟩,
   ⟨0x48, 0x0, 1, 0x0, false, [⟨35, 32, .ro, []⟩, ⟨31, 31, .ro, []⟩, ⟨30, 30, .ro, []⟩, ⟨29, 27, .ro, []⟩, ⟨25, 25, .ro, []⟩, ⟨24, 0, .ro, []⟩]⟩,
   ⟨0x100, 0x20, 9, 0x0, false, [⟨31, 0, .rw, []⟩]⟩,
   ⟨0x108, 0x20, 9, 0x0, false, [⟨31, 0, .rw, []⟩]⟩,
   ⟨0x110, 0x20, 9, 0x0, false, [⟨35, 35, .rw, []⟩, ⟨34, 34, .wo, []⟩, ⟨22, 0, .rw, []⟩]⟩,
   ⟨0x118, 0x20, 9, 0x0, true, [⟨35, 34, .ro, []⟩, ⟨33, 31, .ro, []⟩, ⟨22, 0, .ro, []⟩]⟩] ++
  [⟨0x220, 0x0, 1, 0x0, false, [⟨21, 0, .rw, []⟩]⟩]

abbrev SYS.REJ_ADDR.COUNT : Fld := ⟨0x40, 35, 32, 0, 0⟩
abbrev SYS.REJ_ADDR.SPACE : Fld := ⟨0x40, 31, 31, 0, 0⟩
abbrev SYS.REJ_ADDR.WR : Fld := ⟨0x40, 30, 30, 0, 0⟩
abbrev SYS.REJ_ADDR.REQ : Fld := ⟨0x40, 29, 27, 0, 0⟩
abbrev SYS.REJ_ADDR.KIND : Fld := ⟨0x40, 25, 25, 0, 0⟩
abbrev SYS.REJ_ADDR.ADDR : Fld := ⟨0x40, 24, 0, 0, 0⟩
abbrev SYS.ADDR_ERR.COUNT : Fld := ⟨0x48, 35, 32, 0, 0⟩
abbrev SYS.ADDR_ERR.SPACE : Fld := ⟨0x48, 31, 31, 0, 0⟩
abbrev SYS.ADDR_ERR.WR : Fld := ⟨0x48, 30, 30, 0, 0⟩
abbrev SYS.ADDR_ERR.REQ : Fld := ⟨0x48, 29, 27, 0, 0⟩
abbrev SYS.ADDR_ERR.KIND : Fld := ⟨0x48, 25, 25, 0, 0⟩
abbrev SYS.ADDR_ERR.ADDR : Fld := ⟨0x48, 24, 0, 0, 0⟩
abbrev SYS.DMA_HLO.ADDR : Fld := ⟨0x100, 31, 0, 0x20, 0⟩
abbrev SYS.DMA_HHI.ADDR : Fld := ⟨0x108, 31, 0, 0x20, 0⟩
abbrev SYS.DMA_CTL.EN : Fld := ⟨0x110, 35, 35, 0x20, 0⟩
abbrev SYS.DMA_CTL.GO : Fld := ⟨0x110, 34, 34, 0x20, 0⟩
abbrev SYS.DMA_CTL.COUNT : Fld := ⟨0x110, 22, 0, 0x20, 0⟩
abbrev SYS.DMA_STAT.STATE : Fld := ⟨0x118, 35, 34, 0x20, 0⟩
abbrev SYS.DMA_STAT.ERR : Fld := ⟨0x118, 33, 31, 0x20, 0⟩
abbrev SYS.DMA_STAT.POS : Fld := ⟨0x118, 22, 0, 0x20, 0⟩
abbrev SYS.DMA_SRC8.SRC : Fld := ⟨0x220, 21, 0, 0, 0⟩

/-- The registers of a page of kind RST. -/
def regsRst : List RegD :=
  [⟨0x40, 0x0, 1, 0xc01, false, [⟨11, 10, .ro, []⟩, ⟨9, 9, .w1c, []⟩, ⟨8, 8, .w1c, []⟩, ⟨7, 7, .w1c, []⟩, ⟨6, 6, .w1c, []⟩, ⟨5, 5, .w1c, []⟩, ⟨4, 4, .w1c, []⟩, ⟨3, 3, .w1c, []⟩, ⟨2, 2, .w1c, []⟩, ⟨1, 1, .w1c, []⟩, ⟨0, 0, .w1c, []⟩]⟩,
   ⟨0x48, 0x0, 1, 0x0, false, [⟨15, 4, .rwsc, [(0, 2651), (2653, 4095)]⟩, ⟨1, 0, .rwsc, [(3, 3)]⟩]⟩,
   ⟨0x50, 0x0, 1, 0x0, false, [⟨0, 0, .rws, []⟩]⟩,
   ⟨0x58, 0x0, 1, 0x64, false, [⟨16, 16, .rws, []⟩, ⟨15, 0, .rws, [(0, 0), (10001, 65535)]⟩]⟩,
   ⟨0x60, 0x0, 1, 0x64, false, [⟨16, 16, .rws, []⟩, ⟨15, 0, .rws, [(0, 0), (10001, 65535)]⟩]⟩,
   ⟨0x68, 0x0, 1, 0x107d0, false, [⟨16, 16, .rws, []⟩, ⟨15, 0, .rws, [(0, 0), (10001, 65535)]⟩]⟩] ++
  [⟨0x70, 0x0, 1, 0x0, false, [⟨2, 2, .wo, []⟩, ⟨1, 1, .wo, []⟩, ⟨0, 0, .wo, []⟩]⟩,
   ⟨0x78, 0x0, 1, 0x0, false, [⟨31, 0, .ro, []⟩]⟩]

abbrev RST.RST_CAUSE.LAST : Fld := ⟨0x40, 11, 10, 0, 0⟩
abbrev RST.RST_CAUSE.DBG : Fld := ⟨0x40, 9, 9, 0, 0⟩
abbrev RST.RST_CAUSE.SW_WARM : Fld := ⟨0x40, 8, 8, 0, 0⟩
abbrev RST.RST_CAUSE.SW_COLD : Fld := ⟨0x40, 7, 7, 0, 0⟩
abbrev RST.RST_CAUSE.SI : Fld := ⟨0x40, 6, 6, 0, 0⟩
abbrev RST.RST_CAUSE.WDT_MGMT : Fld := ⟨0x40, 5, 5, 0, 0⟩
abbrev RST.RST_CAUSE.WDT_DATA : Fld := ⟨0x40, 4, 4, 0, 0⟩
abbrev RST.RST_CAUSE.WDT_CTRL : Fld := ⟨0x40, 3, 3, 0, 0⟩
abbrev RST.RST_CAUSE.PIN : Fld := ⟨0x40, 2, 2, 0, 0⟩
abbrev RST.RST_CAUSE.BOR : Fld := ⟨0x40, 1, 1, 0, 0⟩
abbrev RST.RST_CAUSE.POR : Fld := ⟨0x40, 0, 0, 0, 0⟩
abbrev RST.CMD.KEY : Fld := ⟨0x48, 15, 4, 0, 0⟩
abbrev RST.CMD.OP : Fld := ⟨0x48, 1, 0, 0, 0⟩
abbrev RST.CFG.PIN_MODE : Fld := ⟨0x50, 0, 0, 0, 0⟩
abbrev RST.WDT_CTRL.EN : Fld := ⟨0x58, 16, 16, 0, 0⟩
abbrev RST.WDT_CTRL.TO_MS : Fld := ⟨0x58, 15, 0, 0, 0⟩
abbrev RST.WDT_DATA.EN : Fld := ⟨0x60, 16, 16, 0, 0⟩
abbrev RST.WDT_DATA.TO_MS : Fld := ⟨0x60, 15, 0, 0, 0⟩
abbrev RST.WDT_MGMT.EN : Fld := ⟨0x68, 16, 16, 0, 0⟩
abbrev RST.WDT_MGMT.TO_MS : Fld := ⟨0x68, 15, 0, 0, 0⟩
abbrev RST.WDT_KICK.MGMT : Fld := ⟨0x70, 2, 2, 0, 0⟩
abbrev RST.WDT_KICK.DATA : Fld := ⟨0x70, 1, 1, 0, 0⟩
abbrev RST.WDT_KICK.CTRL : Fld := ⟨0x70, 0, 0, 0, 0⟩
abbrev RST.BALL_MAP.GROUP : Fld := ⟨0x78, 31, 0, 0, 0⟩

/-- The registers of a page of kind CLK. -/
def regsClk : List RegD :=
  [⟨0x40, 0x0, 1, 0x0, true, [⟨28, 16, .ro, []⟩, ⟨1, 1, .ro, []⟩, ⟨0, 0, .ro, []⟩]⟩]

abbrev CLK.STAT.SI_COUNT : Fld := ⟨0x40, 28, 16, 0, 0⟩
abbrev CLK.STAT.SI_OSC_FAULT : Fld := ⟨0x40, 1, 1, 0, 0⟩
abbrev CLK.STAT.ROOT_LOCK : Fld := ⟨0x40, 0, 0, 0, 0⟩

/-- The registers of a page of kind SEC. -/
def regsSec : List RegD :=
  [⟨0x40, 0x0, 1, 0x0, false, [⟨35, 32, .ro, []⟩, ⟨31, 31, .ro, []⟩, ⟨30, 30, .ro, []⟩, ⟨29, 27, .ro, []⟩, ⟨25, 25, .ro, []⟩, ⟨24, 0, .ro, []⟩]⟩,
   ⟨0x48, 0x0, 1, 0x0, false, [⟨1, 1, .ro, []⟩, ⟨0, 0, .ro, []⟩]⟩,
   ⟨0x50, 0x0, 1, 0x0, false, [⟨35, 0, .wo, []⟩]⟩,
   ⟨0x58, 0x0, 1, 0x0, false, [⟨0, 0, .rws, []⟩]⟩,
   ⟨0x100, 0x10, 16, 0x0, false, [⟨21, 12, .rws, []⟩]⟩,
   ⟨0x108, 0x10, 16, 0x0, false, [⟨21, 12, .rws, []⟩, ⟨2, 1, .rws, [(3, 3)]⟩, ⟨0, 0, .rws, []⟩]⟩]

abbrev SEC.DENY_ADDR.COUNT : Fld := ⟨0x40, 35, 32, 0, 0⟩
abbrev SEC.DENY_ADDR.SPACE : Fld := ⟨0x40, 31, 31, 0, 0⟩
abbrev SEC.DENY_ADDR.WR : Fld := ⟨0x40, 30, 30, 0, 0⟩
abbrev SEC.DENY_ADDR.REQ : Fld := ⟨0x40, 29, 27, 0, 0⟩
abbrev SEC.DENY_ADDR.KIND : Fld := ⟨0x40, 25, 25, 0, 0⟩
abbrev SEC.DENY_ADDR.ADDR : Fld := ⟨0x40, 24, 0, 0, 0⟩
abbrev SEC.STAT.UNLOCKED : Fld := ⟨0x48, 1, 1, 0, 0⟩
abbrev SEC.STAT.BAR2_FUSE : Fld := ⟨0x48, 0, 0, 0, 0⟩
abbrev SEC.UNLOCK.KEY : Fld := ⟨0x50, 35, 0, 0, 0⟩
abbrev SEC.BAR2_CTRL.EN : Fld := ⟨0x58, 0, 0, 0, 0⟩
abbrev SEC.RGN_BASE.BASE : Fld := ⟨0x100, 21, 12, 0x10, 0⟩
abbrev SEC.RGN_CTRL.LIMIT : Fld := ⟨0x108, 21, 12, 0x10, 0⟩
abbrev SEC.RGN_CTRL.WORLD : Fld := ⟨0x108, 2, 1, 0x10, 0⟩
abbrev SEC.RGN_CTRL.EN : Fld := ⟨0x108, 0, 0, 0x10, 0⟩

/-- The registers of a page of kind OVL. -/
def regsOvl : List RegD :=
  [⟨0x40, 0x0, 1, 0x0, false, [⟨35, 32, .wo, [(3, 15)]⟩, ⟨31, 28, .wo, []⟩, ⟨17, 0, .wo, []⟩]⟩,
   ⟨0x48, 0x0, 1, 0x0, false, [⟨14, 0, .rw, [(0, 0), (16385, 32767)]⟩]⟩,
   ⟨0x50, 0x0, 1, 0x0, false, [⟨0, 0, .rws, []⟩]⟩,
   ⟨0x60, 0x0, 1, 0x0, false, [⟨19, 15, .rw, [(1, 15)]⟩, ⟨14, 10, .rw, [(1, 15)]⟩, ⟨9, 5, .rw, [(1, 15)]⟩, ⟨4, 0, .rw, [(1, 15)]⟩]⟩,
   ⟨0x68, 0x0, 1, 0x0, false, [⟨3, 0, .rw, [(12, 15)]⟩]⟩,
   ⟨0x70, 0x0, 1, 0x0, true, [⟨35, 35, .ro, []⟩, ⟨34, 15, .ro, []⟩, ⟨14, 13, .ro, []⟩, ⟨12, 0, .ro, []⟩]⟩] ++
  [⟨0x78, 0x0, 1, 0x0, false, [⟨31, 0, .rwl, []⟩]⟩,
   ⟨0x80, 0x0, 1, 0x0, true, [⟨35, 35, .ro, []⟩, ⟨34, 34, .ro, []⟩, ⟨13, 0, .ro, []⟩]⟩]

abbrev OVL.OVL_LOAD.OP : Fld := ⟨0x40, 35, 32, 0, 0⟩
abbrev OVL.OVL_LOAD.SLOT : Fld := ⟨0x40, 31, 28, 0, 0⟩
abbrev OVL.OVL_LOAD.SRC : Fld := ⟨0x40, 17, 0, 0, 0⟩
abbrev OVL.OVL_CNT.COUNT : Fld := ⟨0x48, 14, 0, 0, 0⟩
abbrev OVL.BASE_LOAD.GO : Fld := ⟨0x50, 0, 0, 0, 0⟩
abbrev OVL.OVL_MODE.STACK3 : Fld := ⟨0x60, 19, 15, 0, 0⟩
abbrev OVL.OVL_MODE.STACK2 : Fld := ⟨0x60, 14, 10, 0, 0⟩
abbrev OVL.OVL_MODE.STACK1 : Fld := ⟨0x60, 9, 5, 0, 0⟩
abbrev OVL.OVL_MODE.STACK0 : Fld := ⟨0x60, 4, 0, 0, 0⟩
abbrev OVL.OVL_SYNC.GRP : Fld := ⟨0x68, 3, 0, 0, 0⟩
abbrev OVL.OVL_STAT.PEND : Fld := ⟨0x70, 35, 35, 0, 0⟩
abbrev OVL.OVL_STAT.ACTIVE : Fld := ⟨0x70, 34, 15, 0, 0⟩
abbrev OVL.OVL_STAT.FAIL_LVL : Fld := ⟨0x70, 14, 13, 0, 0⟩
abbrev OVL.OVL_STAT.FAIL_REC : Fld := ⟨0x70, 12, 0, 0, 0⟩
abbrev OVL.BASE_HASH.HASH : Fld := ⟨0x78, 31, 0, 0, 0⟩
abbrev OVL.BASE_STAT.DONE : Fld := ⟨0x80, 35, 35, 0, 0⟩
abbrev OVL.BASE_STAT.FAIL : Fld := ⟨0x80, 34, 34, 0, 0⟩
abbrev OVL.BASE_STAT.FAIL_REC : Fld := ⟨0x80, 13, 0, 0, 0⟩

/-- The registers of a page of kind EVT. -/
def regsEvt : List RegD :=
  [⟨0x48, 0x0, 1, 0x0, true, [⟨35, 22, .ro, []⟩, ⟨15, 0, .ro, []⟩]⟩,
   ⟨0x50, 0x0, 1, 0x0, true, [⟨11, 0, .ro, []⟩]⟩,
   ⟨0x58, 0x0, 1, 0x0, false, [⟨15, 0, .rw, []⟩]⟩,
   ⟨0x60, 0x0, 1, 0x0, false, [⟨35, 0, .ro, []⟩]⟩,
   ⟨0x68, 0x0, 1, 0x0, true, [⟨15, 0, .ro, []⟩]⟩,
   ⟨0x80, 0x8, 16, 0x0, false, [⟨31, 0, .rw, []⟩]⟩] ++
  [⟨0x100, 0x8, 16, 0x10000, false, [⟨25, 24, .rw, []⟩, ⟨23, 16, .rw, [(0, 0)]⟩, ⟨13, 0, .rw, [(10001, 16383)]⟩]⟩,
   ⟨0x400, 0x8, 96, 0x0, false, [⟨9, 9, .rw, []⟩, ⟨8, 0, .rw, []⟩]⟩,
   ⟨0x700, 0x8, 16, 0x0, false, [⟨9, 9, .rw, []⟩, ⟨8, 0, .rw, []⟩]⟩,
   ⟨0x780, 0x8, 8, 0x0, false, [⟨9, 9, .rw, []⟩, ⟨8, 0, .rw, []⟩]⟩,
   ⟨0x800, 0x8, 256, 0x0, false, [⟨35, 35, .rw, []⟩, ⟨34, 31, .rw, []⟩, ⟨30, 30, .rw, []⟩, ⟨29, 29, .rw, []⟩, ⟨17, 17, .rw, []⟩, ⟨16, 13, .rw, []⟩, ⟨12, 12, .rw, []⟩, ⟨11, 11, .rw, []⟩]⟩]

abbrev EVT.LOG_STAT.WIDX : Fld := ⟨0x48, 35, 22, 0, 0⟩
abbrev EVT.LOG_STAT.SEQ : Fld := ⟨0x48, 15, 0, 0, 0⟩
abbrev EVT.LOG_LOST.LOST : Fld := ⟨0x50, 11, 0, 0, 0⟩
abbrev EVT.RD_ADDR.ADDR : Fld := ⟨0x58, 15, 0, 0, 0⟩
abbrev EVT.RD_DATA.DATA : Fld := ⟨0x60, 35, 0, 0, 0⟩
abbrev EVT.VEC_PEND.PEND : Fld := ⟨0x68, 15, 0, 0, 0⟩
abbrev EVT.LOG_EN.EN : Fld := ⟨0x80, 31, 0, 0x8, 0⟩
abbrev EVT.VEC_CFG.PRIO : Fld := ⟨0x100, 25, 24, 0x8, 0⟩
abbrev EVT.VEC_CFG.COAL_N : Fld := ⟨0x100, 23, 16, 0x8, 0⟩
abbrev EVT.VEC_CFG.COAL_US : Fld := ⟨0x100, 13, 0, 0x8, 0⟩
abbrev EVT.AE_SEL.EN : Fld := ⟨0x400, 9, 9, 0x8, 0⟩
abbrev EVT.AE_SEL.EVENT : Fld := ⟨0x400, 8, 0, 0x8, 0⟩
abbrev EVT.PE_SEL.EN : Fld := ⟨0x700, 9, 9, 0x8, 0⟩
abbrev EVT.PE_SEL.EVENT : Fld := ⟨0x700, 8, 0, 0x8, 0⟩
abbrev EVT.REC_SEL.EN : Fld := ⟨0x780, 9, 9, 0x8, 0⟩
abbrev EVT.REC_SEL.EVENT : Fld := ⟨0x780, 8, 0, 0x8, 0⟩
abbrev EVT.ROUTE.MSI_EN1 : Fld := ⟨0x800, 35, 35, 0x8, 0⟩
abbrev EVT.ROUTE.VEC1 : Fld := ⟨0x800, 34, 31, 0x8, 0⟩
abbrev EVT.ROUTE.IRQ0_1 : Fld := ⟨0x800, 30, 30, 0x8, 0⟩
abbrev EVT.ROUTE.IRQ1_1 : Fld := ⟨0x800, 29, 29, 0x8, 0⟩
abbrev EVT.ROUTE.MSI_EN0 : Fld := ⟨0x800, 17, 17, 0x8, 0⟩
abbrev EVT.ROUTE.VEC0 : Fld := ⟨0x800, 16, 13, 0x8, 0⟩
abbrev EVT.ROUTE.IRQ0_0 : Fld := ⟨0x800, 12, 12, 0x8, 0⟩
abbrev EVT.ROUTE.IRQ1_0 : Fld := ⟨0x800, 11, 11, 0x8, 0⟩

/-- The registers of a page of kind ARB. -/
def regsArb : List RegD :=
  [⟨0x40, 0x0, 1, 0x200, false, [⟨9, 0, .rwl, [(0, 208)]⟩]⟩,
   ⟨0x48, 0x0, 1, 0x100, false, [⟨11, 0, .rwl, [(0, 15)]⟩]⟩,
   ⟨0x50, 0x0, 1, 0x0, false, [⟨1, 1, .wo, []⟩, ⟨0, 0, .wo, []⟩]⟩,
   ⟨0x58, 0x0, 1, 0x0, true, [⟨35, 35, .ro, []⟩, ⟨23, 12, .ro, []⟩, ⟨11, 0, .ro, []⟩]⟩,
   ⟨0x60, 0x0, 1, 0x0, false, [⟨35, 32, .ro, []⟩, ⟨31, 27, .ro, []⟩, ⟨21, 0, .ro, []⟩]⟩,
   ⟨0x80, 0x8, 11, 0xfffffffff, false, [⟨35, 0, .rwl, []⟩]⟩] ++
  [⟨0x200, 0x8, 29, 0x0, true, [⟨35, 20, .ro, []⟩, ⟨19, 8, .ro, []⟩]⟩]

abbrev ARB.STORE_CFG.CAP_BASE : Fld := ⟨0x40, 9, 0, 0, 0⟩
abbrev ARB.ARB_CFG.DWELL_LIMIT : Fld := ⟨0x48, 11, 0, 0, 0⟩
abbrev ARB.ARB_CMD.COMMIT : Fld := ⟨0x50, 1, 1, 0, 0⟩
abbrev ARB.ARB_CMD.CLR : Fld := ⟨0x50, 0, 0, 0, 0⟩
abbrev ARB.ARB_STAT.TT_PEND : Fld := ⟨0x58, 35, 35, 0, 0⟩
abbrev ARB.ARB_STAT.SUSP : Fld := ⟨0x58, 23, 12, 0, 0⟩
abbrev ARB.ARB_STAT.ECC_CORR : Fld := ⟨0x58, 11, 0, 0, 0⟩
abbrev ARB.ECC_ADDR.COUNT : Fld := ⟨0x60, 35, 32, 0, 0⟩
abbrev ARB.ECC_ADDR.REQ : Fld := ⟨0x60, 31, 27, 0, 0⟩
abbrev ARB.ECC_ADDR.ADDR : Fld := ⟨0x60, 21, 0, 0, 0⟩
abbrev ARB.TT.SLOTS : Fld := ⟨0x80, 35, 0, 0x8, 0⟩
abbrev ARB.WSTAT.WAIT_MAX : Fld := ⟨0x200, 35, 20, 0x8, 0⟩
abbrev ARB.WSTAT.URGENT : Fld := ⟨0x200, 19, 8, 0x8, 0⟩

/-- The registers of a page of kind TIME. -/
def regsTime : List RegD :=
  [⟨0x40, 0x0, 1, 0x0, false, [⟨35, 0, .ro, []⟩]⟩,
   ⟨0x48, 0x0, 1, 0x0, false, [⟨35, 0, .ro, []⟩]⟩,
   ⟨0x50, 0x0, 1, 0x0, false, [⟨35, 0, .ro, []⟩]⟩,
   ⟨0x58, 0x0, 1, 0x0, false, [⟨27, 0, .ro, []⟩]⟩,
   ⟨0x60, 0x0, 1, 0x0, false, [⟨35, 0, .ro, []⟩]⟩,
   ⟨0x68, 0x0, 1, 0x0, false, [⟨35, 0, .ro, []⟩]⟩] ++
  [⟨0x70, 0x0, 1, 0x0, false, [⟨35, 0, .ro, []⟩]⟩,
   ⟨0x78, 0x0, 1, 0x0, false, [⟨27, 0, .ro, []⟩]⟩,
   ⟨0x80, 0x0, 1, 0x0, false, [⟨35, 0, .ro, []⟩]⟩,
   ⟨0x88, 0x0, 1, 0x0, false, [⟨35, 0, .rws, []⟩]⟩,
   ⟨0x90, 0x0, 1, 0x0, false, [⟨35, 0, .rws, []⟩]⟩,
   ⟨0x98, 0x0, 1, 0x0, false, [⟨35, 0, .rws, [(1073741825, 67645734911)]⟩]⟩] ++
  [⟨0xa0, 0x0, 1, 0x0, false, [⟨3, 0, .rwsc, [(5, 15)]⟩]⟩,
   ⟨0xa8, 0x0, 1, 0x7d0, false, [⟨15, 0, .rwl, [(0, 0), (60001, 65535)]⟩]⟩,
   ⟨0xb0, 0x0, 1, 0x0, true, [⟨35, 34, .ro, []⟩, ⟨31, 0, .ro, []⟩]⟩]

abbrev TIME.NOW0.T : Fld := ⟨0x40, 35, 0, 0, 0⟩
abbrev TIME.NOW1.T : Fld := ⟨0x48, 35, 0, 0, 0⟩
abbrev TIME.RAW0.C_LO : Fld := ⟨0x50, 35, 0, 0, 0⟩
abbrev TIME.RAW1.C_HI : Fld := ⟨0x58, 27, 0, 0, 0⟩
abbrev TIME.REF_T0.T_REF : Fld := ⟨0x60, 35, 0, 0, 0⟩
abbrev TIME.REF_T1.T_REF : Fld := ⟨0x68, 35, 0, 0, 0⟩
abbrev TIME.REF_C0.C_REF : Fld := ⟨0x70, 35, 0, 0, 0⟩
abbrev TIME.REF_C1.C_REF : Fld := ⟨0x78, 27, 0, 0, 0⟩
abbrev TIME.REF_RATE.RATE : Fld := ⟨0x80, 35, 0, 0, 0⟩
abbrev TIME.COR_T0.VALUE : Fld := ⟨0x88, 35, 0, 0, 0⟩
abbrev TIME.COR_T1.SEC : Fld := ⟨0x90, 35, 0, 0, 0⟩
abbrev TIME.COR_RATE.RATE : Fld := ⟨0x98, 35, 0, 0, 0⟩
abbrev TIME.COR_CMD.OP : Fld := ⟨0xa0, 3, 0, 0, 0⟩
abbrev TIME.HOLD_CFG.HOLD_MS : Fld := ⟨0xa8, 15, 0, 0, 0⟩
abbrev TIME.TIME_STAT.STATE : Fld := ⟨0xb0, 35, 34, 0, 0⟩
abbrev TIME.TIME_STAT.SINCE_MS : Fld := ⟨0xb0, 31, 0, 0, 0⟩

/-- The registers of a page of kind AX. -/
def regsAx : List RegD :=
  [⟨0x40, 0x0, 1, 0x100, false, [⟨15, 10, .rwl, [(48, 63)]⟩, ⟨9, 8, .rwl, [(3, 3)]⟩, ⟨2, 0, .rwl, [(5, 7)]⟩]⟩,
   ⟨0x48, 0x0, 1, 0x0, true, [⟨35, 35, .wo, []⟩, ⟨7, 4, .ro, []⟩, ⟨3, 3, .ro, []⟩, ⟨2, 0, .ro, []⟩]⟩,
   ⟨0x50, 0x0, 1, 0x12c3421, false, [⟨25, 16, .rwl, [(0, 0), (1001, 1023)]⟩, ⟨15, 12, .rwl, [(0, 0)]⟩, ⟨11, 8, .rwl, [(0, 0)]⟩, ⟨7, 4, .rwl, [(0, 0)]⟩, ⟨1, 0, .rwl, [(3, 3)]⟩]⟩,
   ⟨0x58, 0x0, 1, 0x0, true, [⟨23, 16, .ro, []⟩, ⟨15, 12, .ro, []⟩, ⟨11, 8, .ro, []⟩, ⟨7, 4, .ro, []⟩]⟩,
   ⟨0x1e0, 0x0, 1, 0x0, true, [⟨35, 35, .wo, []⟩, ⟨29, 25, .ro, []⟩, ⟨24, 20, .ro, []⟩, ⟨19, 10, .ro, []⟩, ⟨9, 0, .ro, []⟩]⟩,
   ⟨0x1e8, 0x0, 1, 0x0, true, [⟨35, 35, .wo, []⟩, ⟨29, 25, .ro, []⟩, ⟨24, 20, .ro, []⟩, ⟨19, 10, .ro, []⟩, ⟨9, 0, .ro, []⟩]⟩] ++
  [⟨0x1f0, 0x0, 1, 0x0, true, [⟨35, 35, .wo, []⟩, ⟨29, 25, .ro, []⟩, ⟨24, 20, .ro, []⟩, ⟨19, 10, .ro, []⟩, ⟨9, 0, .ro, []⟩]⟩,
   ⟨0x1f8, 0x0, 1, 0x0, true, [⟨35, 35, .wo, []⟩, ⟨29, 25, .ro, []⟩, ⟨24, 20, .ro, []⟩, ⟨19, 10, .ro, []⟩, ⟨9, 0, .ro, []⟩]⟩,
   ⟨0x60, 0x0, 1, 0x0, false, [⟨25, 16, .wo, []⟩, ⟨3, 0, .wo, [(7, 15)]⟩]⟩,
   ⟨0x68, 0x0, 1, 0x0, true, [⟨35, 30, .ro, []⟩, ⟨29, 28, .ro, []⟩, ⟨27, 24, .ro, []⟩, ⟨23, 12, .ro, []⟩, ⟨11, 2, .ro, []⟩, ⟨1, 0, .ro, []⟩]⟩,
   ⟨0x70, 0x0, 1, 0x10016e360, false, [⟨33, 33, .rw, []⟩, ⟨32, 28, .rw, [(0, 0), (29, 31)]⟩, ⟨27, 0, .rw, []⟩]⟩,
   ⟨0x78, 0x0, 1, 0x10000, false, [⟨35, 0, .rw, [(0, 0), (34359738368, 68719476735)]⟩]⟩] ++
  [⟨0x80, 0x0, 1, 0x0, false, [⟨31, 25, .rw, []⟩, ⟨24, 24, .rw, []⟩, ⟨23, 17, .rw, []⟩, ⟨16, 16, .rw, []⟩, ⟨13, 12, .rw, [(2, 3)]⟩, ⟨11, 11, .rw, []⟩, ⟨10, 0, .rw, [(2001, 2047)]⟩]⟩,
   ⟨0x88, 0x0, 1, 0x4, false, [⟨2, 0, .rwl, [(7, 7)]⟩]⟩,
   ⟨0x90, 0x0, 1, 0x0, false, [⟨31, 0, .rw, []⟩]⟩,
   ⟨0x98, 0x0, 1, 0x0, false, [⟨35, 0, .rw, []⟩]⟩,
   ⟨0xa0, 0x0, 1, 0x0, false, [⟨35, 0, .rw, []⟩]⟩,
   ⟨0xa8, 0x0, 1, 0x0, false, [⟨2, 2, .rw, []⟩, ⟨1, 1, .rw, []⟩, ⟨0, 0, .rw, []⟩]⟩] ++
  [⟨0xb0, 0x0, 1, 0x0, true, [⟨35, 0, .ro, []⟩]⟩,
   ⟨0xb8, 0x0, 1, 0x0, true, [⟨35, 0, .ro, []⟩]⟩,
   ⟨0xc0, 0x0, 1, 0x0, true, [⟨35, 0, .ro, []⟩]⟩,
   ⟨0x100, 0x0, 1, 0x80000, false, [⟨19, 16, .rw, [(0, 0)]⟩, ⟨15, 12, .rw, [(9, 15)]⟩, ⟨9, 4, .rw, []⟩, ⟨2, 0, .rw, [(4, 7)]⟩]⟩,
   ⟨0x108, 0x0, 1, 0x0, false, [⟨3, 0, .wo, [(3, 15)]⟩]⟩,
   ⟨0x110, 0x0, 1, 0x1, false, [⟨35, 0, .rw, []⟩]⟩] ++
  [⟨0x118, 0x0, 1, 0x1, false, [⟨35, 0, .rw, [(0, 0)]⟩]⟩,
   ⟨0x120, 0x0, 1, 0x0, false, [⟨35, 0, .rw, [(34359738368, 68719476735)]⟩]⟩,
   ⟨0x128, 0x0, 1, 0x0, false, [⟨35, 0, .rw, [(34359738368, 68719476735)]⟩]⟩,
   ⟨0x130, 0x0, 1, 0x0, true, [⟨35, 34, .ro, []⟩, ⟨33, 30, .ro, []⟩, ⟨29, 29, .ro, []⟩, ⟨23, 20, .ro, []⟩, ⟨19, 16, .ro, []⟩]⟩,
   ⟨0x138, 0x0, 1, 0x0, true, [⟨35, 0, .ro, []⟩]⟩,
   ⟨0x200, 0x20, 8, 0x0, false, [⟨35, 0, .rw, []⟩]⟩] ++
  [⟨0x208, 0x20, 8, 0x1, false, [⟨35, 0, .rw, []⟩]⟩,
   ⟨0x210, 0x20, 8, 0x1, false, [⟨35, 0, .rw, [(0, 0)]⟩]⟩,
   ⟨0x218, 0x20, 8, 0x0, false, [⟨35, 0, .rw, [(34359738368, 68719476735)]⟩]⟩,
   ⟨0x140, 0x0, 1, 0x80000, false, [⟨29, 29, .rwl, []⟩, ⟨28, 28, .rwl, []⟩, ⟨25, 24, .rwl, []⟩, ⟨23, 16, .rwl, [(0, 0)]⟩, ⟨15, 0, .rwl, []⟩]⟩,
   ⟨0x148, 0x0, 1, 0x1000000, false, [⟨35, 0, .rwl, [(0, 0)]⟩]⟩,
   ⟨0x150, 0x0, 1, 0xc800000, false, [⟨35, 0, .rwl, [(0, 0)]⟩]⟩] ++
  [⟨0x158, 0x0, 1, 0x100000, false, [⟨35, 0, .rwl, [(0, 0)]⟩]⟩,
   ⟨0x160, 0x0, 1, 0x10000, false, [⟨35, 0, .rwl, [(0, 0), (34359738368, 68719476735)]⟩]⟩,
   ⟨0x168, 0x0, 1, 0x320000, false, [⟨35, 0, .rwl, [(0, 0), (34359738368, 68719476735)]⟩]⟩,
   ⟨0x170, 0x0, 1, 0x10000000, false, [⟨35, 0, .rwl, [(0, 0), (34359738368, 68719476735)]⟩]⟩,
   ⟨0x178, 0x0, 1, 0x0, false, [⟨35, 0, .rwl, []⟩]⟩,
   ⟨0x180, 0x0, 1, 0x0, false, [⟨35, 0, .rwl, [(34359738368, 68719476735)]⟩]⟩] ++
  [⟨0x188, 0x0, 1, 0x1000000, false, [⟨35, 0, .rwl, [(0, 0)]⟩]⟩,
   ⟨0x190, 0x0, 1, 0x320000, false, [⟨35, 0, .rwl, [(0, 0), (34359738368, 68719476735)]⟩]⟩,
   ⟨0x198, 0x0, 1, 0x4048001e, false, [⟨31, 24, .rwl, []⟩, ⟨23, 20, .rwl, [(0, 0)]⟩, ⟨19, 16, .rwl, [(0, 0)]⟩, ⟨15, 0, .rwl, []⟩]⟩,
   ⟨0x1a0, 0x0, 1, 0x0, false, [⟨0, 0, .wo, []⟩]⟩,
   ⟨0x1a8, 0x0, 1, 0x80000000, true, [⟨35, 35, .ro, []⟩, ⟨34, 34, .ro, []⟩, ⟨33, 33, .ro, []⟩, ⟨32, 32, .ro, []⟩, ⟨31, 16, .ro, []⟩, ⟨15, 8, .ro, []⟩]⟩,
   ⟨0x1b0, 0x0, 1, 0xc800000, true, [⟨35, 0, .ro, []⟩]⟩] ++
  [⟨0x1b8, 0x0, 1, 0x0, true, [⟨35, 0, .ro, []⟩]⟩,
   ⟨0x1c0, 0x0, 1, 0x0, true, [⟨35, 0, .ro, []⟩]⟩,
   ⟨0x1c8, 0x0, 1, 0x0, true, [⟨35, 0, .ro, []⟩]⟩,
   ⟨0x300, 0x0, 1, 0x400, false, [⟨16, 16, .rwl, []⟩, ⟨15, 0, .rwl, [(0, 0)]⟩]⟩,
   ⟨0x308, 0x0, 1, 0x0, false, [⟨35, 0, .rwl, []⟩]⟩,
   ⟨0x310, 0x0, 1, 0x0, false, [⟨35, 0, .rw, []⟩]⟩] ++
  [⟨0x318, 0x0, 1, 0x0, false, [⟨35, 0, .rw, []⟩]⟩,
   ⟨0x320, 0x0, 1, 0x0, false, [⟨35, 0, .rw, []⟩]⟩,
   ⟨0x328, 0x0, 1, 0x0, false, [⟨35, 0, .rw, []⟩]⟩,
   ⟨0x330, 0x0, 1, 0x7ae14000, false, [⟨31, 16, .rw, [(0, 0), (32769, 65535)]⟩, ⟨14, 0, .rw, [(0, 0)]⟩]⟩,
   ⟨0x338, 0x0, 1, 0x0, false, [⟨35, 0, .rw, []⟩]⟩,
   ⟨0x340, 0x0, 1, 0x0, false, [⟨35, 0, .rw, []⟩]⟩] ++
  [⟨0x348, 0x0, 1, 0x0, false, [⟨35, 0, .rw, []⟩]⟩,
   ⟨0x350, 0x0, 1, 0x0, false, [⟨35, 0, .rw, []⟩]⟩,
   ⟨0x358, 0x0, 1, 0x20000000, false, [⟨35, 0, .rw, [(0, 0)]⟩]⟩,
   ⟨0x360, 0x0, 1, 0x200000000, false, [⟨35, 0, .rw, [(34359738368, 68719476735)]⟩]⟩,
   ⟨0x368, 0x0, 1, 0x0, false, [⟨35, 0, .rw, []⟩]⟩,
   ⟨0x370, 0x0, 1, 0x0, false, [⟨35, 0, .rw, []⟩]⟩] ++
  [⟨0x378, 0x0, 1, 0x0, false, [⟨35, 0, .rw, [(34359738368, 68719476735)]⟩]⟩,
   ⟨0x380, 0x0, 1, 0x3e8000, false, [⟨35, 0, .rwl, [(0, 0), (34359738368, 68719476735)]⟩]⟩,
   ⟨0x388, 0x0, 1, 0x0, false, [⟨35, 0, .rwl, [(34359738368, 68719476735)]⟩]⟩,
   ⟨0x390, 0x0, 1, 0x2dc6c0, false, [⟨32, 32, .rwl, []⟩, ⟨31, 0, .rwl, []⟩]⟩,
   ⟨0x398, 0x0, 1, 0x0, true, [⟨35, 0, .ro, []⟩]⟩,
   ⟨0x3a0, 0x0, 1, 0x80210000, false, [⟨32, 32, .rwl, []⟩, ⟨31, 25, .rwl, [(65, 127)]⟩, ⟨24, 20, .rwl, [(0, 0)]⟩, ⟨19, 0, .rwl, []⟩]⟩] ++
  [⟨0x3a8, 0x0, 1, 0x10000000, false, [⟨35, 0, .rwl, [(0, 0)]⟩]⟩,
   ⟨0x3b0, 0x0, 1, 0x0, false, [⟨33, 24, .rw, [(1001, 1023)]⟩, ⟨23, 12, .rw, []⟩, ⟨11, 0, .rw, []⟩]⟩,
   ⟨0x3b8, 0x0, 1, 0x0, false, [⟨1, 0, .wo, [(3, 3)]⟩]⟩,
   ⟨0x3c0, 0x0, 1, 0x10000, false, [⟨23, 16, .rw, [(0, 0)]⟩, ⟨13, 12, .rw, [(3, 3)]⟩, ⟨9, 8, .rw, []⟩, ⟨5, 4, .rw, []⟩, ⟨0, 0, .rw, []⟩]⟩,
   ⟨0x3c8, 0x0, 1, 0x0, false, [⟨35, 0, .rw, []⟩]⟩,
   ⟨0x3d0, 0x0, 1, 0x0, false, [⟨35, 0, .rw, [(3276800001, 68719476735)]⟩]⟩] ++
  [⟨0x3d8, 0x0, 1, 0x0, false, [⟨35, 0, .rw, [(3276800001, 68719476735)]⟩]⟩,
   ⟨0x3e0, 0x0, 1, 0x0, false, [⟨31, 0, .rw, []⟩]⟩,
   ⟨0x3e8, 0x0, 1, 0x0, false, [⟨1, 0, .wo, []⟩]⟩,
   ⟨0x3f0, 0x0, 1, 0x0, false, [⟨35, 28, .rw, []⟩, ⟨27, 27, .rw, []⟩, ⟨19, 16, .rw, [(12, 15)]⟩, ⟨15, 12, .rw, []⟩, ⟨11, 8, .rw, []⟩, ⟨7, 4, .rw, []⟩, ⟨3, 0, .rw, []⟩]⟩,
   ⟨0x3f8, 0x0, 1, 0x0, true, [⟨35, 34, .ro, []⟩, ⟨33, 30, .ro, []⟩, ⟨14, 0, .ro, []⟩]⟩]

abbrev AX.AX_CFG.FB_IDX : Fld := ⟨0x40, 15, 10, 0, 0⟩
abbrev AX.AX_CFG.FB_MODE : Fld := ⟨0x40, 9, 8, 0, 0⟩
abbrev AX.AX_CFG.TYPE : Fld := ⟨0x40, 2, 0, 0, 0⟩
abbrev AX.AX_STATE.ACK : Fld := ⟨0x48, 35, 35, 0, 0⟩
abbrev AX.AX_STATE.CAUSE : Fld := ⟨0x48, 7, 4, 0, 0⟩
abbrev AX.AX_STATE.HOLD : Fld := ⟨0x48, 3, 3, 0, 0⟩
abbrev AX.AX_STATE.STATE : Fld := ⟨0x48, 2, 0, 0, 0⟩
abbrev AX.CHAIN_LIM.CUR_WAIT : Fld := ⟨0x50, 25, 16, 0, 0⟩
abbrev AX.CHAIN_LIM.CUR_MISS_LIM : Fld := ⟨0x50, 15, 12, 0, 0⟩
abbrev AX.CHAIN_LIM.STARVE_LIM : Fld := ⟨0x50, 11, 8, 0, 0⟩
abbrev AX.CHAIN_LIM.FB_MISS_LIM : Fld := ⟨0x50, 7, 4, 0, 0⟩
abbrev AX.CHAIN_LIM.FAULT_ACT : Fld := ⟨0x50, 1, 0, 0, 0⟩
abbrev AX.CHAIN_STAT.SKIP : Fld := ⟨0x58, 23, 16, 0, 0⟩
abbrev AX.CHAIN_STAT.STARVE_RUN : Fld := ⟨0x58, 15, 12, 0, 0⟩
abbrev AX.CHAIN_STAT.CUR_MISS_RUN : Fld := ⟨0x58, 11, 8, 0, 0⟩
abbrev AX.CHAIN_STAT.FB_MISS_RUN : Fld := ⟨0x58, 7, 4, 0, 0⟩
abbrev AX.OQ_STAT.CLR : Fld := ⟨0x1e0, 35, 35, 0, 0⟩
abbrev AX.OQ_STAT.HWM : Fld := ⟨0x1e0, 29, 25, 0, 0⟩
abbrev AX.OQ_STAT.OCC : Fld := ⟨0x1e0, 24, 20, 0, 0⟩
abbrev AX.OQ_STAT.EMPTY_POP : Fld := ⟨0x1e0, 19, 10, 0, 0⟩
abbrev AX.OQ_STAT.FULL_PUSH : Fld := ⟨0x1e0, 9, 0, 0, 0⟩
abbrev AX.MQ_STAT.CLR : Fld := ⟨0x1e8, 35, 35, 0, 0⟩
abbrev AX.MQ_STAT.HWM : Fld := ⟨0x1e8, 29, 25, 0, 0⟩
abbrev AX.MQ_STAT.OCC : Fld := ⟨0x1e8, 24, 20, 0, 0⟩
abbrev AX.MQ_STAT.EMPTY_POP : Fld := ⟨0x1e8, 19, 10, 0, 0⟩
abbrev AX.MQ_STAT.FULL_PUSH : Fld := ⟨0x1e8, 9, 0, 0, 0⟩
abbrev AX.PQ_STAT.CLR : Fld := ⟨0x1f0, 35, 35, 0, 0⟩
abbrev AX.PQ_STAT.HWM : Fld := ⟨0x1f0, 29, 25, 0, 0⟩
abbrev AX.PQ_STAT.OCC : Fld := ⟨0x1f0, 24, 20, 0, 0⟩
abbrev AX.PQ_STAT.EMPTY_POP : Fld := ⟨0x1f0, 19, 10, 0, 0⟩
abbrev AX.PQ_STAT.FULL_PUSH : Fld := ⟨0x1f0, 9, 0, 0, 0⟩
abbrev AX.FQ_STAT.CLR : Fld := ⟨0x1f8, 35, 35, 0, 0⟩
abbrev AX.FQ_STAT.HWM : Fld := ⟨0x1f8, 29, 25, 0, 0⟩
abbrev AX.FQ_STAT.OCC : Fld := ⟨0x1f8, 24, 20, 0, 0⟩
abbrev AX.FQ_STAT.EMPTY_POP : Fld := ⟨0x1f8, 19, 10, 0, 0⟩
abbrev AX.FQ_STAT.FULL_PUSH : Fld := ⟨0x1f8, 9, 0, 0, 0⟩
abbrev AX.MOVE_CMD.TABLE : Fld := ⟨0x60, 25, 16, 0, 0⟩
abbrev AX.MOVE_CMD.OP : Fld := ⟨0x60, 3, 0, 0, 0⟩
abbrev AX.PROF_STAT.QOCC : Fld := ⟨0x68, 35, 30, 0, 0⟩
abbrev AX.PROF_STAT.PEND : Fld := ⟨0x68, 29, 28, 0, 0⟩
abbrev AX.PROF_STAT.REFUSE : Fld := ⟨0x68, 27, 24, 0, 0⟩
abbrev AX.PROF_STAT.SEG_IDX : Fld := ⟨0x68, 23, 12, 0, 0⟩
abbrev AX.PROF_STAT.TABLE : Fld := ⟨0x68, 11, 2, 0, 0⟩
abbrev AX.PROF_STAT.PSTATE : Fld := ⟨0x68, 1, 0, 0, 0⟩
abbrev AX.PROF_CFG.SRC : Fld := ⟨0x70, 33, 33, 0, 0⟩
abbrev AX.PROF_CFG.REFILL_LVL : Fld := ⟨0x70, 32, 28, 0, 0⟩
abbrev AX.PROF_CFG.BLEND_T : Fld := ⟨0x70, 27, 0, 0, 0⟩
abbrev AX.STOP_DEC.DEC : Fld := ⟨0x78, 35, 0, 0, 0⟩
abbrev AX.LIM_CFG.NEG_CH : Fld := ⟨0x80, 31, 25, 0, 0⟩
abbrev AX.LIM_CFG.NEG_EN : Fld := ⟨0x80, 24, 24, 0, 0⟩
abbrev AX.LIM_CFG.POS_CH : Fld := ⟨0x80, 23, 17, 0, 0⟩
abbrev AX.LIM_CFG.POS_EN : Fld := ⟨0x80, 16, 16, 0, 0⟩
abbrev AX.LIM_CFG.ACTION : Fld := ⟨0x80, 13, 12, 0, 0⟩
abbrev AX.LIM_CFG.POL : Fld := ⟨0x80, 11, 11, 0, 0⟩
abbrev AX.LIM_CFG.DEB_US : Fld := ⟨0x80, 10, 0, 0, 0⟩
abbrev AX.STEP_CFG.MICRO : Fld := ⟨0x88, 2, 0, 0, 0⟩
abbrev AX.SEG_W0.DUR : Fld := ⟨0x90, 31, 0, 0, 0⟩
abbrev AX.SEG_W1.END_POS : Fld := ⟨0x98, 35, 0, 0, 0⟩
abbrev AX.SEG_W2.END_VEL : Fld := ⟨0xa0, 35, 0, 0, 0⟩
abbrev AX.SEG_W3.NOTE : Fld := ⟨0xa8, 2, 2, 0, 0⟩
abbrev AX.SEG_W3.NOBLEND : Fld := ⟨0xa8, 1, 1, 0, 0⟩
abbrev AX.SEG_W3.LAST : Fld := ⟨0xa8, 0, 0, 0, 0⟩
abbrev AX.SETP_POS.VALUE : Fld := ⟨0xb0, 35, 0, 0, 0⟩
abbrev AX.SETP_VEL.VALUE : Fld := ⟨0xb8, 35, 0, 0, 0⟩
abbrev AX.SETP_ACC.VALUE : Fld := ⟨0xc0, 35, 0, 0, 0⟩
abbrev AX.GEAR_CFG.MISS_LIM : Fld := ⟨0x100, 19, 16, 0, 0⟩
abbrev AX.GEAR_CFG.NSTN : Fld := ⟨0x100, 15, 12, 0, 0⟩
abbrev AX.GEAR_CFG.MIDX : Fld := ⟨0x100, 9, 4, 0, 0⟩
abbrev AX.GEAR_CFG.MSRC : Fld := ⟨0x100, 2, 0, 0, 0⟩
abbrev AX.GEAR_CMD.OP : Fld := ⟨0x108, 3, 0, 0, 0⟩
abbrev AX.GEAR_NUM.NUM : Fld := ⟨0x110, 35, 0, 0, 0⟩
abbrev AX.GEAR_DEN.DEN : Fld := ⟨0x118, 35, 0, 0, 0⟩
abbrev AX.GEAR_ENG.DIST : Fld := ⟨0x120, 35, 0, 0, 0⟩
abbrev AX.GEAR_DIS.DIST : Fld := ⟨0x128, 35, 0, 0, 0⟩
abbrev AX.GEAR_STAT.GSTATE : Fld := ⟨0x130, 35, 34, 0, 0⟩
abbrev AX.GEAR_STAT.NEXT : Fld := ⟨0x130, 33, 30, 0, 0⟩
abbrev AX.GEAR_STAT.RAMP : Fld := ⟨0x130, 29, 29, 0, 0⟩
abbrev AX.GEAR_STAT.REFUSE : Fld := ⟨0x130, 23, 20, 0, 0⟩
abbrev AX.GEAR_STAT.MISS_RUN : Fld := ⟨0x130, 19, 16, 0, 0⟩
abbrev AX.GEAR_MPOS.VALUE : Fld := ⟨0x138, 35, 0, 0, 0⟩
abbrev AX.STN_MPOS.MPOS : Fld := ⟨0x200, 35, 0, 0x20, 0⟩
abbrev AX.STN_NUM.NUM : Fld := ⟨0x208, 35, 0, 0x20, 0⟩
abbrev AX.STN_DEN.DEN : Fld := ⟨0x210, 35, 0, 0x20, 0⟩
abbrev AX.STN_ENG.DIST : Fld := ⟨0x218, 35, 0, 0x20, 0⟩
abbrev AX.GOV_CFG.OBS_DIR : Fld := ⟨0x140, 29, 29, 0, 0⟩
abbrev AX.GOV_CFG.CDIR : Fld := ⟨0x140, 28, 28, 0, 0⟩
abbrev AX.GOV_CFG.CGRP : Fld := ⟨0x140, 25, 24, 0, 0⟩
abbrev AX.GOV_CFG.OBS_T : Fld := ⟨0x140, 23, 16, 0, 0⟩
abbrev AX.GOV_CFG.OBS_THR : Fld := ⟨0x140, 15, 0, 0, 0⟩
abbrev AX.GOV_EMAX.VALUE : Fld := ⟨0x148, 35, 0, 0, 0⟩
abbrev AX.GOV_MFLOOR.VALUE : Fld := ⟨0x150, 35, 0, 0, 0⟩
abbrev AX.GOV_CPMM.VALUE : Fld := ⟨0x158, 35, 0, 0, 0⟩
abbrev AX.GOV_DEC.VALUE : Fld := ⟨0x160, 35, 0, 0, 0⟩
abbrev AX.GOV_FMAX.VALUE : Fld := ⟨0x168, 35, 0, 0, 0⟩
abbrev AX.GOV_FFS.VALUE : Fld := ⟨0x170, 35, 0, 0, 0⟩
abbrev AX.EOS_POS.VALUE : Fld := ⟨0x178, 35, 0, 0, 0⟩
abbrev AX.EOS_DIST.VALUE : Fld := ⟨0x180, 35, 0, 0, 0⟩
abbrev AX.EOS_EMAX.VALUE : Fld := ⟨0x188, 35, 0, 0, 0⟩
abbrev AX.EOS_FMAX.VALUE : Fld := ⟨0x190, 35, 0, 0, 0⟩
abbrev AX.GOV_WATCH.OVER : Fld := ⟨0x198, 31, 24, 0, 0⟩
abbrev AX.GOV_WATCH.OVER_N : Fld := ⟨0x198, 23, 20, 0, 0⟩
abbrev AX.GOV_WATCH.FORCE_N : Fld := ⟨0x198, 19, 16, 0, 0⟩
abbrev AX.GOV_WATCH.FORCE_TOL : Fld := ⟨0x198, 15, 0, 0, 0⟩
abbrev AX.GOV_PUB.PUB : Fld := ⟨0x1a0, 0, 0, 0, 0⟩
abbrev AX.GOV_STAT.PEND : Fld := ⟨0x1a8, 35, 35, 0, 0⟩
abbrev AX.GOV_STAT.ZONE : Fld := ⟨0x1a8, 34, 34, 0, 0⟩
abbrev AX.GOV_STAT.CLAMP : Fld := ⟨0x1a8, 33, 33, 0, 0⟩
abbrev AX.GOV_STAT.MVALID : Fld := ⟨0x1a8, 32, 32, 0, 0⟩
abbrev AX.GOV_STAT.SIGMA : Fld := ⟨0x1a8, 31, 16, 0, 0⟩
abbrev AX.GOV_STAT.CAPSTEPS : Fld := ⟨0x1a8, 15, 8, 0, 0⟩
abbrev AX.GOV_MGOV.VALUE : Fld := ⟨0x1b0, 35, 0, 0, 0⟩
abbrev AX.GOV_VCAP.VALUE : Fld := ⟨0x1b8, 35, 0, 0, 0⟩
abbrev AX.GOV_EPEAK.VALUE : Fld := ⟨0x1c0, 35, 0, 0, 0⟩
abbrev AX.GOV_LAG.VALUE : Fld := ⟨0x1c8, 35, 0, 0, 0⟩
abbrev AX.MOT_CFG.ISRC : Fld := ⟨0x300, 16, 16, 0, 0⟩
abbrev AX.MOT_CFG.ECPR : Fld := ⟨0x300, 15, 0, 0, 0⟩
abbrev AX.ANG_OFS.VALUE : Fld := ⟨0x308, 35, 0, 0, 0⟩
abbrev AX.CUR_KP.VALUE : Fld := ⟨0x310, 35, 0, 0, 0⟩
abbrev AX.CUR_KI.VALUE : Fld := ⟨0x318, 35, 0, 0, 0⟩
abbrev AX.CUR_KX.VALUE : Fld := ⟨0x320, 35, 0, 0, 0⟩
abbrev AX.CUR_KE.VALUE : Fld := ⟨0x328, 35, 0, 0, 0⟩
abbrev AX.CUR_LIM.VC : Fld := ⟨0x330, 31, 16, 0, 0⟩
abbrev AX.CUR_LIM.IQ_MAX : Fld := ⟨0x330, 14, 0, 0, 0⟩
abbrev AX.ID_REF.VALUE : Fld := ⟨0x338, 35, 0, 0, 0⟩
abbrev AX.POS_KP.VALUE : Fld := ⟨0x340, 35, 0, 0, 0⟩
abbrev AX.POS_KI.VALUE : Fld := ⟨0x348, 35, 0, 0, 0⟩
abbrev AX.POS_KD.VALUE : Fld := ⟨0x350, 35, 0, 0, 0⟩
abbrev AX.POS_N.VALUE : Fld := ⟨0x358, 35, 0, 0, 0⟩
abbrev AX.POS_ILIM.VALUE : Fld := ⟨0x360, 35, 0, 0, 0⟩
abbrev AX.FF_KV.VALUE : Fld := ⟨0x368, 35, 0, 0, 0⟩
abbrev AX.FF_KA.VALUE : Fld := ⟨0x370, 35, 0, 0, 0⟩
abbrev AX.FF_KC.VALUE : Fld := ⟨0x378, 35, 0, 0, 0⟩
abbrev AX.FE_DIST.VALUE : Fld := ⟨0x380, 35, 0, 0, 0⟩
abbrev AX.FE_WARN.VALUE : Fld := ⟨0x388, 35, 0, 0, 0⟩
abbrev AX.FE_LIMIT.ACT : Fld := ⟨0x390, 32, 32, 0, 0⟩
abbrev AX.FE_LIMIT.TIME : Fld := ⟨0x390, 31, 0, 0, 0⟩
abbrev AX.FE_VALUE.VALUE : Fld := ⟨0x398, 35, 0, 0, 0⟩
abbrev AX.STEP_CL.CL_EN : Fld := ⟨0x3a0, 32, 32, 0, 0⟩
abbrev AX.STEP_CL.LEAD_MAX : Fld := ⟨0x3a0, 31, 25, 0, 0⟩
abbrev AX.STEP_CL.STALL_FS : Fld := ⟨0x3a0, 24, 20, 0, 0⟩
abbrev AX.STEP_CL.KST : Fld := ⟨0x3a0, 19, 0, 0, 0⟩
abbrev AX.ENC_SCALE.VALUE : Fld := ⟨0x3a8, 35, 0, 0, 0⟩
abbrev AX.SOL_CFG.PULL_MS : Fld := ⟨0x3b0, 33, 24, 0, 0⟩
abbrev AX.SOL_CFG.PULL : Fld := ⟨0x3b0, 23, 12, 0, 0⟩
abbrev AX.SOL_CFG.HOLD : Fld := ⟨0x3b0, 11, 0, 0, 0⟩
abbrev AX.SOL_CMD.OP : Fld := ⟨0x3b8, 1, 0, 0, 0⟩
abbrev AX.DICE_CFG.HOLD : Fld := ⟨0x3c0, 23, 16, 0, 0⟩
abbrev AX.DICE_CFG.ORDER : Fld := ⟨0x3c0, 13, 12, 0, 0⟩
abbrev AX.DICE_CFG.POINT : Fld := ⟨0x3c0, 9, 8, 0, 0⟩
abbrev AX.DICE_CFG.WAVE : Fld := ⟨0x3c0, 5, 4, 0, 0⟩
abbrev AX.DICE_CFG.REPEAT : Fld := ⟨0x3c0, 0, 0, 0, 0⟩
abbrev AX.DICE_AMP.AMP : Fld := ⟨0x3c8, 35, 0, 0, 0⟩
abbrev AX.DICE_F0.FREQ : Fld := ⟨0x3d0, 35, 0, 0, 0⟩
abbrev AX.DICE_F1.FREQ : Fld := ⟨0x3d8, 35, 0, 0, 0⟩
abbrev AX.DICE_T.DUR : Fld := ⟨0x3e0, 31, 0, 0, 0⟩
abbrev AX.DICE_CMD.OP : Fld := ⟨0x3e8, 1, 0, 0, 0⟩
abbrev AX.CAP_CFG.DEC : Fld := ⟨0x3f0, 35, 28, 0, 0⟩
abbrev AX.CAP_CFG.RATE : Fld := ⟨0x3f0, 27, 27, 0, 0⟩
abbrev AX.CAP_CFG.BLK : Fld := ⟨0x3f0, 19, 16, 0, 0⟩
abbrev AX.CAP_CFG.CH3 : Fld := ⟨0x3f0, 15, 12, 0, 0⟩
abbrev AX.CAP_CFG.CH2 : Fld := ⟨0x3f0, 11, 8, 0, 0⟩
abbrev AX.CAP_CFG.CH1 : Fld := ⟨0x3f0, 7, 4, 0, 0⟩
abbrev AX.CAP_CFG.CH0 : Fld := ⟨0x3f0, 3, 0, 0, 0⟩
abbrev AX.CAP_STAT.STATE : Fld := ⟨0x3f8, 35, 34, 0, 0⟩
abbrev AX.CAP_STAT.END : Fld := ⟨0x3f8, 33, 30, 0, 0⟩
abbrev AX.CAP_STAT.COUNT : Fld := ⟨0x3f8, 14, 0, 0, 0⟩

/-- The registers of a page of kind FB. -/
def regsFb : List RegD :=
  [⟨0x40, 0x0, 1, 0x1e1000, false, [⟨27, 16, .rwl, []⟩, ⟨15, 12, .rwl, [(0, 0)]⟩, ⟨11, 8, .rwl, [(12, 15)]⟩, ⟨6, 5, .rw, [(3, 3)]⟩, ⟨4, 4, .rwl, []⟩, ⟨3, 3, .rwl, []⟩, ⟨2, 0, .rwl, [(5, 7)]⟩]⟩,
   ⟨0x48, 0x0, 1, 0x4e20204, false, [⟨29, 12, .rw, [(0, 0), (200001, 262143)]⟩, ⟨9, 8, .rw, [(3, 3)]⟩, ⟨6, 0, .rw, [(0, 0), (65, 127)]⟩]⟩,
   ⟨0x50, 0x0, 1, 0x0, false, [⟨8, 2, .rw, []⟩, ⟨1, 0, .rw, [(3, 3)]⟩]⟩,
   ⟨0x58, 0x0, 1, 0x0, false, [⟨3, 0, .wo, [(7, 15)]⟩]⟩,
   ⟨0x60, 0x0, 1, 0x0, false, [⟨35, 0, .rw, []⟩]⟩,
   ⟨0x68, 0x0, 1, 0x0, true, [⟨35, 0, .ro, []⟩]⟩] ++
  [⟨0x70, 0x0, 1, 0x0, true, [⟨35, 0, .ro, []⟩]⟩,
   ⟨0x78, 0x0, 1, 0x0, true, [⟨35, 33, .ro, []⟩, ⟨32, 32, .ro, []⟩, ⟨11, 0, .ro, []⟩]⟩,
   ⟨0x80, 0x0, 1, 0x0, true, [⟨35, 0, .ro, []⟩]⟩,
   ⟨0x88, 0x0, 1, 0x0, true, [⟨35, 0, .ro, []⟩]⟩,
   ⟨0x90, 0x0, 1, 0x0, true, [⟨35, 0, .ro, []⟩]⟩,
   ⟨0x98, 0x0, 1, 0x0, true, [⟨35, 0, .ro, []⟩]⟩] ++
  [⟨0xa0, 0x0, 1, 0x0, true, [⟨35, 0, .ro, []⟩]⟩,
   ⟨0xa8, 0x0, 1, 0x0, true, [⟨35, 0, .ro, []⟩]⟩,
   ⟨0xc0, 0x0, 1, 0x0, false, [⟨35, 22, .rwl, []⟩, ⟨21, 12, .rwl, []⟩, ⟨9, 4, .rwl, []⟩, ⟨2, 2, .rwl, []⟩, ⟨1, 0, .rwl, [(3, 3)]⟩]⟩,
   ⟨0xc8, 0x0, 1, 0x0, false, [⟨20, 16, .rwl, [(0, 0), (17, 31)]⟩, ⟨15, 0, .rwl, []⟩]⟩,
   ⟨0xd0, 0x0, 1, 0x0, true, [⟨35, 34, .ro, []⟩, ⟨33, 29, .ro, []⟩, ⟨28, 25, .ro, []⟩, ⟨23, 12, .ro, []⟩, ⟨11, 0, .ro, []⟩]⟩,
   ⟨0xd8, 0x0, 1, 0x0, true, [⟨35, 0, .ro, []⟩]⟩] ++
  [⟨0x400, 0x8, 32, 0x0, false, [⟨35, 0, .rw, []⟩]⟩]

abbrev FB.FB_CFG.MIN_EDGE : Fld := ⟨0x40, 27, 16, 0, 0⟩
abbrev FB.FB_CFG.FDIV : Fld := ⟨0x40, 15, 12, 0, 0⟩
abbrev FB.FB_CFG.SYNC_GRP : Fld := ⟨0x40, 11, 8, 0, 0⟩
abbrev FB.FB_CFG.IDX_MODE : Fld := ⟨0x40, 6, 5, 0, 0⟩
abbrev FB.FB_CFG.IDX_POL : Fld := ⟨0x40, 4, 4, 0, 0⟩
abbrev FB.FB_CFG.DIR : Fld := ⟨0x40, 3, 3, 0, 0⟩
abbrev FB.FB_CFG.MODE : Fld := ⟨0x40, 2, 0, 0, 0⟩
abbrev FB.FB_SPD.STILL_US : Fld := ⟨0x48, 29, 12, 0, 0⟩
abbrev FB.FB_SPD.MODE : Fld := ⟨0x48, 9, 8, 0, 0⟩
abbrev FB.FB_SPD.SPAN : Fld := ⟨0x48, 6, 0, 0, 0⟩
abbrev FB.LAT_CFG.CH : Fld := ⟨0x50, 8, 2, 0, 0⟩
abbrev FB.LAT_CFG.SRC : Fld := ⟨0x50, 1, 0, 0, 0⟩
abbrev FB.FB_CMD.OP : Fld := ⟨0x58, 3, 0, 0, 0⟩
abbrev FB.POS_PRESET.VALUE : Fld := ⟨0x60, 35, 0, 0, 0⟩
abbrev FB.FB_POS.VALUE : Fld := ⟨0x68, 35, 0, 0, 0⟩
abbrev FB.FB_VEL.VALUE : Fld := ⟨0x70, 35, 0, 0, 0⟩
abbrev FB.FB_STAT.LINES : Fld := ⟨0x78, 35, 33, 0, 0⟩
abbrev FB.FB_STAT.STILL : Fld := ⟨0x78, 32, 32, 0, 0⟩
abbrev FB.FB_STAT.EDGE_FAULTS : Fld := ⟨0x78, 11, 0, 0, 0⟩
abbrev FB.IDX_POS.VALUE : Fld := ⟨0x80, 35, 0, 0, 0⟩
abbrev FB.IDX_T0.VALUE : Fld := ⟨0x88, 35, 0, 0, 0⟩
abbrev FB.IDX_T1.VALUE : Fld := ⟨0x90, 35, 0, 0, 0⟩
abbrev FB.LAT_POS.VALUE : Fld := ⟨0x98, 35, 0, 0, 0⟩
abbrev FB.LAT_T0.VALUE : Fld := ⟨0xa0, 35, 0, 0, 0⟩
abbrev FB.LAT_T1.VALUE : Fld := ⟨0xa8, 35, 0, 0, 0⟩
abbrev FB.SEQ_CFG.MONO : Fld := ⟨0xc0, 35, 22, 0, 0⟩
abbrev FB.SEQ_CFG.HALF : Fld := ⟨0xc0, 21, 12, 0, 0⟩
abbrev FB.SEQ_CFG.BITS : Fld := ⟨0xc0, 9, 4, 0, 0⟩
abbrev FB.SEQ_CFG.UNWRAP : Fld := ⟨0xc0, 2, 2, 0, 0⟩
abbrev FB.SEQ_CFG.SRC : Fld := ⟨0xc0, 1, 0, 0, 0⟩
abbrev FB.SEQ_CRC.WIDTH : Fld := ⟨0xc8, 20, 16, 0, 0⟩
abbrev FB.SEQ_CRC.POLY : Fld := ⟨0xc8, 15, 0, 0, 0⟩
abbrev FB.SEQ_STAT.SSTATE : Fld := ⟨0xd0, 35, 34, 0, 0⟩
abbrev FB.SEQ_STAT.PC : Fld := ⟨0xd0, 33, 29, 0, 0⟩
abbrev FB.SEQ_STAT.ERR : Fld := ⟨0xd0, 28, 25, 0, 0⟩
abbrev FB.SEQ_STAT.FRAMES_BAD : Fld := ⟨0xd0, 23, 12, 0, 0⟩
abbrev FB.SEQ_STAT.OVERRUNS : Fld := ⟨0xd0, 11, 0, 0, 0⟩
abbrev FB.SEQ_RAW.SR : Fld := ⟨0xd8, 35, 0, 0, 0⟩
abbrev FB.SEQ_PROG.INSN : Fld := ⟨0x400, 35, 0, 0x8, 0⟩

/-- The registers of a page of kind DP. -/
def regsDp : List RegD :=
  [⟨0x40, 0x0, 1, 0x0, false, [⟨19, 10, .rwl, [(1001, 1023)]⟩, ⟨3, 3, .rwl, []⟩, ⟨2, 2, .rwl, []⟩, ⟨1, 1, .rw, []⟩]⟩,
   ⟨0x48, 0x0, 1, 0x0, false, [⟨15, 0, .rwl, [(38401, 65535)]⟩]⟩,
   ⟨0x50, 0x0, 1, 0x259031, false, [⟨23, 14, .rwl, [(601, 1023)]⟩, ⟨13, 10, .rwl, [(0, 0)]⟩, ⟨7, 4, .rwl, []⟩, ⟨2, 2, .rwl, []⟩, ⟨1, 1, .rwl, []⟩, ⟨0, 0, .rwl, []⟩]⟩,
   ⟨0x58, 0x0, 1, 0x0, false, [⟨0, 0, .wo, []⟩]⟩,
   ⟨0x60, 0x0, 1, 0xbb820096, false, [⟨33, 20, .rwl, [(0, 149), (12001, 16383)]⟩, ⟨19, 15, .rwl, [(17, 31)]⟩, ⟨9, 0, .rwl, [(601, 1023)]⟩]⟩,
   ⟨0x68, 0x0, 1, 0x3e80000, false, [⟨27, 16, .rw, [(0, 0), (4001, 4095)]⟩, ⟨11, 0, .rw, []⟩]⟩] ++
  [⟨0x70, 0x0, 1, 0x0, true, [⟨35, 34, .ro, []⟩, ⟨33, 33, .ro, []⟩, ⟨32, 32, .ro, []⟩, ⟨31, 31, .ro, []⟩, ⟨23, 20, .ro, []⟩, ⟨19, 12, .ro, []⟩, ⟨11, 0, .ro, []⟩]⟩,
   ⟨0x78, 0x0, 1, 0x0, true, [⟨35, 35, .ro, []⟩, ⟨23, 16, .ro, []⟩, ⟨15, 0, .ro, []⟩]⟩,
   ⟨0x80, 0x8, 4, 0x0, true, [⟨35, 0, .ro, []⟩]⟩,
   ⟨0x1f0, 0x0, 1, 0x0, true, [⟨35, 35, .wo, []⟩, ⟨29, 25, .ro, []⟩, ⟨24, 20, .ro, []⟩, ⟨19, 10, .ro, []⟩, ⟨9, 0, .ro, []⟩]⟩,
   ⟨0x800, 0x8, 256, 0x0, false, [⟨29, 18, .rw, [(2048, 2048)]⟩, ⟨11, 0, .rw, [(2048, 2048)]⟩]⟩]

abbrev DP.DP_CFG.MIN_PULSE : Fld := ⟨0x40, 19, 10, 0, 0⟩
abbrev DP.DP_CFG.DT_EN : Fld := ⟨0x40, 3, 3, 0, 0⟩
abbrev DP.DP_CFG.DBL : Fld := ⟨0x40, 2, 2, 0, 0⟩
abbrev DP.DP_CFG.UPD : Fld := ⟨0x40, 1, 1, 0, 0⟩
abbrev DP.DEAD.DEAD : Fld := ⟨0x48, 15, 0, 0, 0⟩
abbrev DP.TRIP_CTRL.BLANK : Fld := ⟨0x50, 23, 14, 0, 0⟩
abbrev DP.TRIP_CTRL.CBC_LIM : Fld := ⟨0x50, 13, 10, 0, 0⟩
abbrev DP.TRIP_CTRL.FILT : Fld := ⟨0x50, 7, 4, 0, 0⟩
abbrev DP.TRIP_CTRL.ACT : Fld := ⟨0x50, 2, 2, 0, 0⟩
abbrev DP.TRIP_CTRL.POL : Fld := ⟨0x50, 1, 1, 0, 0⟩
abbrev DP.TRIP_CTRL.EN : Fld := ⟨0x50, 0, 0, 0, 0⟩
abbrev DP.TRIP_CMD.REARM : Fld := ⟨0x58, 0, 0, 0, 0⟩
abbrev DP.CHOP_CFG.TOFF : Fld := ⟨0x60, 33, 20, 0, 0⟩
abbrev DP.CHOP_CFG.FAST : Fld := ⟨0x60, 19, 15, 0, 0⟩
abbrev DP.CHOP_CFG.CBLANK : Fld := ⟨0x60, 9, 0, 0, 0⟩
abbrev DP.CHOP_REF.TON_MAX_US : Fld := ⟨0x68, 27, 16, 0, 0⟩
abbrev DP.CHOP_REF.SCALE : Fld := ⟨0x68, 11, 0, 0, 0⟩
abbrev DP.DP_STAT.OSTATE : Fld := ⟨0x70, 35, 34, 0, 0⟩
abbrev DP.DP_STAT.TRIP_IN : Fld := ⟨0x70, 33, 33, 0, 0⟩
abbrev DP.DP_STAT.PEN : Fld := ⟨0x70, 32, 32, 0, 0⟩
abbrev DP.DP_STAT.HALTED : Fld := ⟨0x70, 31, 31, 0, 0⟩
abbrev DP.DP_STAT.CBC_RUN : Fld := ⟨0x70, 23, 20, 0, 0⟩
abbrev DP.DP_STAT.ADDR : Fld := ⟨0x70, 19, 12, 0, 0⟩
abbrev DP.DP_STAT.TRIPS : Fld := ⟨0x70, 11, 0, 0, 0⟩
abbrev DP.CAL_STAT.CAL_FAULT : Fld := ⟨0x78, 35, 35, 0, 0⟩
abbrev DP.CAL_STAT.NTAP : Fld := ⟨0x78, 23, 16, 0, 0⟩
abbrev DP.CAL_STAT.CAL_CNT : Fld := ⟨0x78, 15, 0, 0, 0⟩
abbrev DP.DUTY.VALUE : Fld := ⟨0x80, 35, 0, 0x8, 0⟩
abbrev DP.DQ_STAT.CLR : Fld := ⟨0x1f0, 35, 35, 0, 0⟩
abbrev DP.DQ_STAT.HWM : Fld := ⟨0x1f0, 29, 25, 0, 0⟩
abbrev DP.DQ_STAT.OCC : Fld := ⟨0x1f0, 24, 20, 0, 0⟩
abbrev DP.DQ_STAT.EMPTY_POP : Fld := ⟨0x1f0, 19, 10, 0, 0⟩
abbrev DP.DQ_STAT.FULL_PUSH : Fld := ⟨0x1f0, 9, 0, 0, 0⟩
abbrev DP.USTEP.IA : Fld := ⟨0x800, 29, 18, 0x8, 0⟩
abbrev DP.USTEP.IB : Fld := ⟨0x800, 11, 0, 0x8, 0⟩

/-- The registers of a page of kind AE. -/
def regsAe : List RegD :=
  [⟨0x40, 0x0, 1, 0x2249f, false, [⟨20, 16, .rwl, [(0, 0), (17, 31)]⟩, ⟨15, 0, .rwl, [(0, 2999), (37501, 65535)]⟩]⟩,
   ⟨0x48, 0x0, 1, 0x0, false, [⟨2, 0, .wo, [(4, 7)]⟩]⟩,
   ⟨0x50, 0x0, 1, 0x0, false, [⟨0, 0, .rwl, []⟩]⟩,
   ⟨0x58, 0x0, 1, 0x0, true, [⟨35, 34, .ro, []⟩, ⟨33, 30, .ro, []⟩, ⟨23, 0, .ro, []⟩]⟩,
   ⟨0x60, 0x0, 1, 0x0, false, [⟨35, 32, .ro, []⟩, ⟨26, 22, .ro, []⟩, ⟨19, 0, .ro, []⟩]⟩,
   ⟨0x68, 0x0, 1, 0x0, true, [⟨23, 12, .ro, []⟩, ⟨11, 0, .ro, []⟩]⟩] ++
  [⟨0x70, 0x0, 1, 0x0, false, [⟨33, 18, .rwl, [(16385, 65535)]⟩, ⟨17, 0, .rwl, []⟩]⟩,
   ⟨0x100, 0x8, 16, 0x0, false, [⟨35, 35, .rw, []⟩, ⟨34, 33, .rw, [(3, 3)]⟩, ⟨32, 29, .rw, []⟩, ⟨28, 17, .rw, []⟩, ⟨16, 0, .rw, []⟩]⟩,
   ⟨0x180, 0x8, 16, 0xffff, false, [⟨19, 0, .rw, [(0, 0)]⟩]⟩]

abbrev AE.LOOP_RATE.SRV_N : Fld := ⟨0x40, 20, 16, 0, 0⟩
abbrev AE.LOOP_RATE.CUR_PER : Fld := ⟨0x40, 15, 0, 0, 0⟩
abbrev AE.ENG_CTRL.OP : Fld := ⟨0x48, 2, 0, 0, 0⟩
abbrev AE.ENG_CFG.CUSTOM : Fld := ⟨0x50, 0, 0, 0, 0⟩
abbrev AE.ENG_STAT.STATE : Fld := ⟨0x58, 35, 34, 0, 0⟩
abbrev AE.ENG_STAT.ROT : Fld := ⟨0x58, 33, 30, 0, 0⟩
abbrev AE.ENG_STAT.HB_CNT : Fld := ⟨0x58, 23, 0, 0, 0⟩
abbrev AE.TRAP_INFO.CAUSE : Fld := ⟨0x60, 35, 32, 0, 0⟩
abbrev AE.TRAP_INFO.TASK : Fld := ⟨0x60, 26, 22, 0, 0⟩
abbrev AE.TRAP_INFO.PC : Fld := ⟨0x60, 19, 0, 0, 0⟩
abbrev AE.SCHED_STAT.LATE_MAX : Fld := ⟨0x68, 23, 12, 0, 0⟩
abbrev AE.SCHED_STAT.MISSES : Fld := ⟨0x68, 11, 0, 0, 0⟩
abbrev AE.ENG_IMG.COUNT : Fld := ⟨0x70, 33, 18, 0, 0⟩
abbrev AE.ENG_IMG.BASE : Fld := ⟨0x70, 17, 0, 0, 0⟩
abbrev AE.TASK.EN : Fld := ⟨0x100, 35, 35, 0x8, 0⟩
abbrev AE.TASK.TRIG : Fld := ⟨0x100, 34, 33, 0x8, 0⟩
abbrev AE.TASK.SEL : Fld := ⟨0x100, 32, 29, 0x8, 0⟩
abbrev AE.TASK.DEADLINE : Fld := ⟨0x100, 28, 17, 0x8, 0⟩
abbrev AE.TASK.ENTRY : Fld := ⟨0x100, 16, 0, 0x8, 0⟩
abbrev AE.TASK_LIM.LIMIT : Fld := ⟨0x180, 19, 0, 0x8, 0⟩

/-- The registers of a page of kind PE. -/
def regsPe : List RegD :=
  [⟨0x40, 0x0, 1, 0x2fff, false, [⟨15, 12, .rw, [(0, 0)]⟩, ⟨11, 0, .rw, []⟩]⟩,
   ⟨0x48, 0x0, 1, 0x100010000, false, [⟨32, 17, .rws, [(32769, 65535)]⟩, ⟨16, 0, .rws, [(65537, 131071)]⟩]⟩,
   ⟨0x60, 0x0, 1, 0x0, false, [⟨35, 32, .ro, []⟩, ⟨26, 22, .ro, []⟩, ⟨19, 0, .ro, []⟩]⟩,
   ⟨0x68, 0x0, 1, 0x0, true, [⟨23, 12, .ro, []⟩, ⟨11, 0, .ro, []⟩]⟩,
   ⟨0x100, 0x8, 24, 0x0, false, [⟨35, 35, .ro, []⟩, ⟨34, 33, .ro, []⟩, ⟨32, 29, .ro, []⟩, ⟨28, 17, .ro, []⟩, ⟨16, 0, .ro, []⟩]⟩,
   ⟨0x1c0, 0x8, 8, 0x0, false, [⟨35, 35, .rw, []⟩, ⟨34, 33, .rw, []⟩, ⟨32, 29, .rw, []⟩, ⟨28, 17, .rw, []⟩, ⟨16, 0, .rw, []⟩]⟩] ++
  [⟨0x200, 0x8, 24, 0xffff, false, [⟨19, 0, .ro, []⟩]⟩,
   ⟨0x2c0, 0x8, 8, 0xffff, false, [⟨19, 0, .rw, [(0, 0)]⟩]⟩,
   ⟨0x800, 0x40, 8, 0x0, false, [⟨35, 35, .rw, []⟩, ⟨34, 32, .rw, [(6, 7)]⟩, ⟨29, 29, .rw, []⟩, ⟨28, 0, .rw, []⟩]⟩,
   ⟨0x808, 0x40, 8, 0x0, false, [⟨31, 31, .rw, []⟩, ⟨29, 24, .rw, [(61, 63)]⟩, ⟨21, 16, .rw, [(57, 63)]⟩, ⟨15, 0, .rw, []⟩]⟩,
   ⟨0x810, 0x40, 8, 0x80019a000, false, [⟨35, 24, .rw, [(0, 0)]⟩, ⟨23, 12, .rw, [(0, 0)]⟩]⟩,
   ⟨0x818, 0x40, 8, 0x32, false, [⟨31, 16, .rw, []⟩, ⟨15, 0, .rw, [(0, 0), (10001, 65535)]⟩]⟩] ++
  [⟨0x820, 0x40, 8, 0x0, true, [⟨35, 34, .ro, []⟩, ⟨31, 24, .ro, []⟩, ⟨23, 16, .ro, []⟩, ⟨15, 8, .ro, []⟩, ⟨7, 0, .ro, []⟩]⟩,
   ⟨0x828, 0x40, 8, 0x0, true, [⟨31, 16, .ro, []⟩, ⟨15, 0, .ro, []⟩]⟩,
   ⟨0x830, 0x40, 8, 0x0, true, [⟨35, 0, .ro, []⟩]⟩,
   ⟨0x838, 0x40, 8, 0x0, true, [⟨35, 0, .ro, []⟩]⟩,
   ⟨0xa00, 0x8, 32, 0x0, false, [⟨4, 4, .wo, []⟩, ⟨3, 0, .wo, [(9, 15)]⟩]⟩,
   ⟨0xb00, 0x8, 32, 0x0, true, [⟨35, 32, .ro, []⟩, ⟨31, 28, .ro, []⟩, ⟨27, 24, .ro, []⟩, ⟨23, 20, .ro, []⟩]⟩] ++
  [⟨0xc00, 0x0, 1, 0x0, false, [⟨35, 32, .wo, [(9, 15)]⟩, ⟨31, 0, .wo, []⟩]⟩]

abbrev PE.HB_CFG.LIM : Fld := ⟨0x40, 15, 12, 0, 0⟩
abbrev PE.HB_CFG.EN : Fld := ⟨0x40, 11, 0, 0, 0⟩
abbrev PE.PE_PART.DSEC : Fld := ⟨0x48, 32, 17, 0, 0⟩
abbrev PE.PE_PART.PSEC : Fld := ⟨0x48, 16, 0, 0, 0⟩
abbrev PE.TRAP_INFO.CAUSE : Fld := ⟨0x60, 35, 32, 0, 0⟩
abbrev PE.TRAP_INFO.TASK : Fld := ⟨0x60, 26, 22, 0, 0⟩
abbrev PE.TRAP_INFO.PC : Fld := ⟨0x60, 19, 0, 0, 0⟩
abbrev PE.SCHED_STAT.LATE_MAX : Fld := ⟨0x68, 23, 12, 0, 0⟩
abbrev PE.SCHED_STAT.MISSES : Fld := ⟨0x68, 11, 0, 0, 0⟩
abbrev PE.TASK.EN : Fld := ⟨0x100, 35, 35, 0x8, 0⟩
abbrev PE.TASK.TRIG : Fld := ⟨0x100, 34, 33, 0x8, 0⟩
abbrev PE.TASK.SEL : Fld := ⟨0x100, 32, 29, 0x8, 0⟩
abbrev PE.TASK.DEADLINE : Fld := ⟨0x100, 28, 17, 0x8, 0⟩
abbrev PE.TASK.ENTRY : Fld := ⟨0x100, 16, 0, 0x8, 0⟩
abbrev PE.UTASK.EN : Fld := ⟨0x1c0, 35, 35, 0x8, 0⟩
abbrev PE.UTASK.TRIG : Fld := ⟨0x1c0, 34, 33, 0x8, 0⟩
abbrev PE.UTASK.SEL : Fld := ⟨0x1c0, 32, 29, 0x8, 0⟩
abbrev PE.UTASK.DEADLINE : Fld := ⟨0x1c0, 28, 17, 0x8, 0⟩
abbrev PE.UTASK.ENTRY : Fld := ⟨0x1c0, 16, 0, 0x8, 0⟩
abbrev PE.TASK_LIM.LIMIT : Fld := ⟨0x200, 19, 0, 0x8, 0⟩
abbrev PE.UTASK_LIM.LIMIT : Fld := ⟨0x2c0, 19, 0, 0x8, 0⟩
abbrev PE.VM_SRC.EN : Fld := ⟨0x800, 35, 35, 0x40, 0⟩
abbrev PE.VM_SRC.LINK : Fld := ⟨0x800, 34, 32, 0x40, 0⟩
abbrev PE.VM_SRC.IDE : Fld := ⟨0x800, 29, 29, 0x40, 0⟩
abbrev PE.VM_SRC.MATCH : Fld := ⟨0x800, 28, 0, 0x40, 0⟩
abbrev PE.VM_FMT.LAT_MODE : Fld := ⟨0x808, 31, 31, 0x40, 0⟩
abbrev PE.VM_FMT.POS_OFS : Fld := ⟨0x808, 29, 24, 0x40, 0⟩
abbrev PE.VM_FMT.TS_OFS : Fld := ⟨0x808, 21, 16, 0x40, 0⟩
abbrev PE.VM_FMT.LAT_US : Fld := ⟨0x808, 15, 0, 0x40, 0⟩
abbrev PE.VM_FILT.ALPHA : Fld := ⟨0x810, 35, 24, 0x40, 0⟩
abbrev PE.VM_FILT.BETA : Fld := ⟨0x810, 23, 12, 0x40, 0⟩
abbrev PE.VM_TO.GATE : Fld := ⟨0x818, 31, 16, 0x40, 0⟩
abbrev PE.VM_TO.TO_MS : Fld := ⟨0x818, 15, 0, 0x40, 0⟩
abbrev PE.VM_STAT.STATE : Fld := ⟨0x820, 35, 34, 0x40, 0⟩
abbrev PE.VM_STAT.OUTLIERS : Fld := ⟨0x820, 31, 24, 0x40, 0⟩
abbrev PE.VM_STAT.OLD : Fld := ⟨0x820, 23, 16, 0x40, 0⟩
abbrev PE.VM_STAT.BAD : Fld := ⟨0x820, 15, 8, 0x40, 0⟩
abbrev PE.VM_STAT.LOSSES : Fld := ⟨0x820, 7, 0, 0x40, 0⟩
abbrev PE.VM_LAT.LAT_MAX_US : Fld := ⟨0x828, 31, 16, 0x40, 0⟩
abbrev PE.VM_LAT.LAT_US : Fld := ⟨0x828, 15, 0, 0x40, 0⟩
abbrev PE.VM_POS.VALUE : Fld := ⟨0x830, 35, 0, 0x40, 0⟩
abbrev PE.VM_VEL.VALUE : Fld := ⟨0x838, 35, 0, 0x40, 0⟩
abbrev PE.DW_CMD.SYNC : Fld := ⟨0xa00, 4, 4, 0x8, 0⟩
abbrev PE.DW_CMD.OP : Fld := ⟨0xa00, 3, 0, 0x8, 0⟩
abbrev PE.DW_STAT.STATE : Fld := ⟨0xb00, 35, 32, 0x8, 0⟩
abbrev PE.DW_STAT.REFUSE : Fld := ⟨0xb00, 31, 28, 0x8, 0⟩
abbrev PE.DW_STAT.NOBS : Fld := ⟨0xb00, 27, 24, 0x8, 0⟩
abbrev PE.DW_STAT.ALARM : Fld := ⟨0xb00, 23, 20, 0x8, 0⟩
abbrev PE.PLAT_CMD.OP : Fld := ⟨0xc00, 35, 32, 0, 0⟩
abbrev PE.PLAT_CMD.DMASK : Fld := ⟨0xc00, 31, 0, 0, 0⟩

/-- The registers of a page of kind ADC. -/
def regsAdc : List RegD :=
  [⟨0x40, 0x0, 1, 0x0, false, [⟨8, 8, .rwl, []⟩, ⟨6, 5, .rwl, [(3, 3)]⟩, ⟨4, 0, .rwl, []⟩]⟩,
   ⟨0x48, 0x0, 1, 0x0, false, [⟨3, 0, .wo, [(2, 15)]⟩]⟩,
   ⟨0x50, 0x0, 1, 0x0, true, [⟨35, 35, .ro, []⟩, ⟨34, 34, .ro, []⟩, ⟨11, 0, .ro, []⟩]⟩,
   ⟨0x100, 0x8, 32, 0x0, false, [⟨8, 8, .rwl, []⟩, ⟨4, 0, .rwl, [(20, 31)]⟩]⟩,
   ⟨0x200, 0x8, 20, 0x100000, false, [⟨35, 35, .rw, []⟩, ⟨34, 24, .rw, []⟩, ⟨23, 0, .rw, []⟩]⟩,
   ⟨0x400, 0x8, 32, 0x0, true, [⟨35, 0, .ro, []⟩]⟩] ++
  [⟨0x500, 0x8, 32, 0x0, true, [⟨35, 0, .ro, []⟩]⟩,
   ⟨0x600, 0x8, 2, 0x0, true, [⟨35, 35, .wo, []⟩, ⟨29, 25, .ro, []⟩, ⟨24, 20, .ro, []⟩, ⟨19, 10, .ro, []⟩, ⟨9, 0, .ro, []⟩]⟩]

abbrev ADC.ADC_CFG.LP : Fld := ⟨0x40, 8, 8, 0, 0⟩
abbrev ADC.ADC_CFG.SYNC : Fld := ⟨0x40, 6, 5, 0, 0⟩
abbrev ADC.ADC_CFG.RESTART : Fld := ⟨0x40, 4, 0, 0, 0⟩
abbrev ADC.ADC_CMD.OP : Fld := ⟨0x48, 3, 0, 0, 0⟩
abbrev ADC.ADC_STAT.CAL_BUSY : Fld := ⟨0x50, 35, 35, 0, 0⟩
abbrev ADC.ADC_STAT.LP_ACT : Fld := ⟨0x50, 34, 34, 0, 0⟩
abbrev ADC.ADC_STAT.CLIPS : Fld := ⟨0x50, 11, 0, 0, 0⟩
abbrev ADC.SEQ.PUSH : Fld := ⟨0x100, 8, 8, 0x8, 0⟩
abbrev ADC.SEQ.INPUT : Fld := ⟨0x100, 4, 0, 0x8, 0⟩
abbrev ADC.IN_CAL.NEG : Fld := ⟨0x200, 35, 35, 0x8, 0⟩
abbrev ADC.IN_CAL.OFS : Fld := ⟨0x200, 34, 24, 0x8, 0⟩
abbrev ADC.IN_CAL.GAIN : Fld := ⟨0x200, 23, 0, 0x8, 0⟩
abbrev ADC.LAST.VALUE : Fld := ⟨0x400, 35, 0, 0x8, 0⟩
abbrev ADC.AVG.VALUE : Fld := ⟨0x500, 35, 0, 0x8, 0⟩
abbrev ADC.CQ_STAT.CLR : Fld := ⟨0x600, 35, 35, 0x8, 0⟩
abbrev ADC.CQ_STAT.HWM : Fld := ⟨0x600, 29, 25, 0x8, 0⟩
abbrev ADC.CQ_STAT.OCC : Fld := ⟨0x600, 24, 20, 0x8, 0⟩
abbrev ADC.CQ_STAT.EMPTY_POP : Fld := ⟨0x600, 19, 10, 0x8, 0⟩
abbrev ADC.CQ_STAT.FULL_PUSH : Fld := ⟨0x600, 9, 0, 0x8, 0⟩

/-- The registers of a page of kind EC. -/
def regsEc : List RegD :=
  [⟨0x40, 0x8, 12, 0x0, false, [⟨11, 9, .rw, []⟩, ⟨8, 8, .rw, []⟩, ⟨5, 0, .rw, [(48, 63)]⟩]⟩]

abbrev EC.EC_CFG.INV : Fld := ⟨0x40, 11, 9, 0x8, 0⟩
abbrev EC.EC_CFG.EN : Fld := ⟨0x40, 8, 8, 0x8, 0⟩
abbrev EC.EC_CFG.SRC : Fld := ⟨0x40, 5, 0, 0x8, 0⟩

/-- The registers of a page of kind SI0. -/
def regsSi0 : List RegD :=
  [⟨0x40, 0x0, 1, 0x0, false, [⟨3, 0, .wo, [(3, 15)]⟩]⟩,
   ⟨0x48, 0x0, 1, 0x0, true, [⟨35, 34, .ro, []⟩, ⟨33, 31, .ro, []⟩, ⟨30, 28, .ro, []⟩, ⟨27, 27, .ro, []⟩, ⟨26, 26, .ro, []⟩, ⟨25, 24, .ro, []⟩, ⟨23, 23, .ro, []⟩, ⟨7, 0, .ro, []⟩]⟩,
   ⟨0x50, 0x0, 1, 0x5, false, [⟨6, 0, .rwl, [(0, 0), (101, 127)]⟩]⟩,
   ⟨0x58, 0x0, 1, 0x0, false, [⟨35, 0, .rw, []⟩]⟩,
   ⟨0x60, 0x0, 1, 0x0, false, [⟨11, 0, .rw, []⟩]⟩,
   ⟨0x68, 0x0, 1, 0x0, true, [⟨35, 0, .ro, []⟩]⟩] ++
  [⟨0x70, 0x0, 1, 0x0, true, [⟨11, 0, .ro, []⟩]⟩,
   ⟨0x78, 0x0, 1, 0x0, true, [⟨35, 0, .ro, []⟩]⟩,
   ⟨0x80, 0x0, 1, 0x0, true, [⟨11, 0, .ro, []⟩]⟩]

abbrev SI0.SI_CMD.OP : Fld := ⟨0x40, 3, 0, 0, 0⟩
abbrev SI0.SI_STAT.STATE : Fld := ⟨0x48, 35, 34, 0, 0⟩
abbrev SI0.SI_STAT.REFUSE : Fld := ⟨0x48, 33, 31, 0, 0⟩
abbrev SI0.SI_STAT.FCAUSE : Fld := ⟨0x48, 30, 28, 0, 0⟩
abbrev SI0.SI_STAT.PE_OK : Fld := ⟨0x48, 27, 27, 0, 0⟩
abbrev SI0.SI_STAT.SEAL_OK : Fld := ⟨0x48, 26, 26, 0, 0⟩
abbrev SI0.SI_STAT.LADDER : Fld := ⟨0x48, 25, 24, 0, 0⟩
abbrev SI0.SI_STAT.LHOLD : Fld := ⟨0x48, 23, 23, 0, 0⟩
abbrev SI0.SI_STAT.REP_IDX : Fld := ⟨0x48, 7, 0, 0, 0⟩
abbrev SI0.PE_WD.WIN_MS : Fld := ⟨0x50, 6, 0, 0, 0⟩
abbrev SI0.PEN_REQ0.REQ : Fld := ⟨0x58, 35, 0, 0, 0⟩
abbrev SI0.PEN_REQ1.REQ : Fld := ⟨0x60, 11, 0, 0, 0⟩
abbrev SI0.PEN_SP0.PERM : Fld := ⟨0x68, 35, 0, 0, 0⟩
abbrev SI0.PEN_SP1.PERM : Fld := ⟨0x70, 11, 0, 0, 0⟩
abbrev SI0.PEN_BALL0.BALL : Fld := ⟨0x78, 35, 0, 0, 0⟩
abbrev SI0.PEN_BALL1.BALL : Fld := ⟨0x80, 11, 0, 0, 0⟩

/-- The registers of a page of kind SI1. -/
def regsSi1 : List RegD :=
  [⟨0x40, 0x8, 24, 0xbb8, false, [⟨16, 0, .rwl, [(0, 99), (50001, 131071)]⟩]⟩,
   ⟨0x100, 0x0, 1, 0x0, true, [⟨23, 0, .ro, []⟩]⟩,
   ⟨0x108, 0x0, 1, 0x0, true, [⟨23, 0, .ro, []⟩]⟩,
   ⟨0x110, 0x0, 1, 0x0, true, [⟨23, 0, .ro, []⟩]⟩]

abbrev SI1.SIN_CFG.FILT_US : Fld := ⟨0x40, 16, 0, 0x8, 0⟩
abbrev SI1.SIN_LEVEL.LEVEL : Fld := ⟨0x100, 23, 0, 0, 0⟩
abbrev SI1.SIN_INDET.INDET : Fld := ⟨0x108, 23, 0, 0, 0⟩
abbrev SI1.SIN_FAULT.FAULT : Fld := ⟨0x110, 23, 0, 0, 0⟩

/-- The registers of a page of kind SI2. -/
def regsSi2 : List RegD :=
  [⟨0x40, 0x8, 8, 0x19064, false, [⟨35, 20, .rwl, []⟩, ⟨19, 19, .rwl, []⟩, ⟨18, 10, .rwl, [(0, 49), (501, 511)]⟩, ⟨8, 0, .rwl, [(0, 0), (501, 511)]⟩]⟩,
   ⟨0x80, 0x0, 1, 0x0, true, [⟨31, 24, .ro, []⟩, ⟨23, 16, .ro, []⟩, ⟨15, 8, .ro, []⟩, ⟨7, 0, .ro, []⟩]⟩]

abbrev SI2.SOUT_CFG.BLK : Fld := ⟨0x40, 35, 20, 0x8, 0⟩
abbrev SI2.SOUT_CFG.EN : Fld := ⟨0x40, 19, 19, 0x8, 0⟩
abbrev SI2.SOUT_CFG.PULSE_US : Fld := ⟨0x40, 18, 10, 0x8, 0⟩
abbrev SI2.SOUT_CFG.PERIOD_10MS : Fld := ⟨0x40, 8, 0, 0x8, 0⟩
abbrev SI2.SOUT_STAT.OPEN : Fld := ⟨0x80, 31, 24, 0, 0⟩
abbrev SI2.SOUT_STAT.STUCK : Fld := ⟨0x80, 23, 16, 0, 0⟩
abbrev SI2.SOUT_STAT.READ : Fld := ⟨0x80, 15, 8, 0, 0⟩
abbrev SI2.SOUT_STAT.CMD : Fld := ⟨0x80, 7, 0, 0, 0⟩

/-- The registers of a page of kind SI3. -/
def regsSi3 : List RegD :=
  [⟨0x40, 0x10, 16, 0x0, false, [⟨35, 33, .rwl, [(5, 7)]⟩, ⟨32, 29, .rwl, [(12, 15)]⟩, ⟨28, 27, .rwl, [(3, 3)]⟩, ⟨26, 26, .rwl, []⟩, ⟨25, 21, .rwl, [(24, 31)]⟩, ⟨20, 20, .rwl, []⟩]⟩,
   ⟨0x48, 0x10, 16, 0x7d0001f4, false, [⟨35, 22, .rwl, [(0, 0), (10001, 16383)]⟩, ⟨21, 11, .rwl, [(2001, 2047)]⟩, ⟨10, 0, .rwl, [(0, 9), (1001, 2047)]⟩]⟩,
   ⟨0x140, 0x0, 1, 0x0, true, [⟨23, 0, .ro, []⟩]⟩,
   ⟨0x148, 0x0, 1, 0x0, true, [⟨23, 0, .ro, []⟩]⟩]

abbrev SI3.SFB_CFG.TYPE : Fld := ⟨0x40, 35, 33, 0x10, 0⟩
abbrev SI3.SFB_CFG.PAIR : Fld := ⟨0x40, 32, 29, 0x10, 0⟩
abbrev SI3.SFB_CFG.CH : Fld := ⟨0x40, 28, 27, 0x10, 0⟩
abbrev SI3.SFB_CFG.RST_MODE : Fld := ⟨0x40, 26, 26, 0x10, 0⟩
abbrev SI3.SFB_CFG.RST_IN : Fld := ⟨0x40, 25, 21, 0x10, 0⟩
abbrev SI3.SFB_CFG.CAT : Fld := ⟨0x40, 20, 20, 0x10, 0⟩
abbrev SI3.SFB_TIME.DISC_MS : Fld := ⟨0x48, 35, 22, 0x10, 0⟩
abbrev SI3.SFB_TIME.CAT1_MS : Fld := ⟨0x48, 21, 11, 0x10, 0⟩
abbrev SI3.SFB_TIME.SYNC_MS : Fld := ⟨0x48, 10, 0, 0x10, 0⟩
abbrev SI3.SFB_ST0.STATE : Fld := ⟨0x140, 23, 0, 0, 0⟩
abbrev SI3.SFB_ST1.STATE : Fld := ⟨0x148, 23, 0, 0, 0⟩

/-- The registers of a page of kind SI4. -/
def regsSi4 : List RegD :=
  [⟨0x40, 0x8, 8, 0x0, false, [⟨32, 32, .rwl, []⟩, ⟨31, 16, .rwl, []⟩, ⟨15, 0, .rwl, []⟩]⟩,
   ⟨0x80, 0x8, 6, 0xfffffffff, false, [⟨35, 0, .rwl, []⟩]⟩]

abbrev SI4.PGRP_CFG.MAINT : Fld := ⟨0x40, 32, 32, 0x8, 0⟩
abbrev SI4.PGRP_CFG.MBLK : Fld := ⟨0x40, 31, 16, 0x8, 0⟩
abbrev SI4.PGRP_CFG.BLK : Fld := ⟨0x40, 15, 0, 0x8, 0⟩
abbrev SI4.PGMAP.GRP : Fld := ⟨0x80, 35, 0, 0x8, 0⟩

/-- The registers of a page of kind SI5. -/
def regsSi5 : List RegD :=
  [⟨0x40, 0x0, 1, 0x0, true, [⟨7, 0, .ro, []⟩]⟩]

abbrev SI5.DIAG_STAT.FAILED : Fld := ⟨0x40, 7, 0, 0, 0⟩

/-- The registers of a page of kind SI6. -/
def regsSi6 : List RegD :=
  [⟨0x40, 0x0, 1, 0x0, true, [⟨31, 16, .ro, []⟩, ⟨15, 0, .ro, []⟩]⟩,
   ⟨0x48, 0x0, 1, 0x0, true, [⟨31, 0, .ro, []⟩]⟩,
   ⟨0x50, 0x0, 1, 0x0, false, [⟨31, 0, .rwl, []⟩]⟩]

abbrev SI6.SW_STATE.LIVE : Fld := ⟨0x40, 31, 16, 0, 0⟩
abbrev SI6.SW_STATE.STATE : Fld := ⟨0x40, 15, 0, 0, 0⟩
abbrev SI6.CFG_HASH.HASH : Fld := ⟨0x48, 31, 0, 0, 0⟩
abbrev SI6.EXP_HASH.HASH : Fld := ⟨0x50, 31, 0, 0, 0⟩

/-- The registers of a page of kind SI7. -/
def regsSi7 : List RegD :=
  [⟨0x40, 0x0, 1, 0x0, true, [⟨35, 34, .ro, []⟩, ⟨33, 30, .ro, []⟩, ⟨29, 29, .ro, []⟩, ⟨7, 0, .ro, []⟩]⟩,
   ⟨0x48, 0x0, 1, 0x0, true, [⟨35, 0, .ro, []⟩]⟩,
   ⟨0x50, 0x0, 1, 0x0, true, [⟨11, 0, .ro, []⟩]⟩]

abbrev SI7.LANE_STAT.MODE : Fld := ⟨0x40, 35, 34, 0, 0⟩
abbrev SI7.LANE_STAT.CAUSE : Fld := ⟨0x40, 33, 30, 0, 0⟩
abbrev SI7.LANE_STAT.COPY : Fld := ⟨0x40, 29, 29, 0, 0⟩
abbrev SI7.LANE_STAT.SOUT : Fld := ⟨0x40, 7, 0, 0, 0⟩
abbrev SI7.LANE_PEN0.PERM : Fld := ⟨0x48, 35, 0, 0, 0⟩
abbrev SI7.LANE_PEN1.PERM : Fld := ⟨0x50, 11, 0, 0, 0⟩

/-- The registers of a page of kind FIOB. -/
def regsFiob : List RegD :=
  [⟨0x40, 0x0, 1, 0xc90032, false, [⟨24, 17, .rwl, [(0, 0)]⟩, ⟨16, 16, .rwl, []⟩, ⟨9, 0, .rwl, [(0, 0), (1001, 1023)]⟩]⟩,
   ⟨0x48, 0x0, 1, 0x0, false, [⟨3, 0, .wo, [(4, 15)]⟩]⟩,
   ⟨0x50, 0x0, 1, 0x0, false, [⟨31, 0, .rw, []⟩]⟩,
   ⟨0x58, 0x0, 1, 0x0, false, [⟨31, 0, .wo, []⟩]⟩,
   ⟨0x60, 0x0, 1, 0x0, false, [⟨31, 0, .wo, []⟩]⟩,
   ⟨0x68, 0x0, 1, 0x0, true, [⟨31, 0, .ro, []⟩]⟩] ++
  [⟨0x70, 0x0, 1, 0x0, true, [⟨31, 0, .ro, []⟩]⟩,
   ⟨0x78, 0x0, 1, 0x0, true, [⟨31, 0, .ro, []⟩]⟩,
   ⟨0x80, 0x0, 1, 0x0, true, [⟨31, 0, .ro, []⟩]⟩,
   ⟨0x88, 0x0, 1, 0x0, true, [⟨35, 35, .ro, []⟩, ⟨34, 34, .ro, []⟩, ⟨33, 33, .ro, []⟩, ⟨15, 0, .ro, []⟩]⟩,
   ⟨0x100, 0x8, 32, 0x3e800, false, [⟨19, 8, .rw, [(4001, 4095)]⟩, ⟨7, 6, .rwl, [(3, 3)]⟩, ⟨5, 5, .rwl, []⟩, ⟨4, 4, .rw, []⟩, ⟨1, 1, .rw, []⟩, ⟨0, 0, .rwl, []⟩]⟩]

abbrev FIOB.BANK_CFG.WB_MS : Fld := ⟨0x40, 24, 17, 0, 0⟩
abbrev FIOB.BANK_CFG.WD_KICK : Fld := ⟨0x40, 16, 16, 0, 0⟩
abbrev FIOB.BANK_CFG.WD_MS : Fld := ⟨0x40, 9, 0, 0, 0⟩
abbrev FIOB.BANK_CMD.OP : Fld := ⟨0x48, 3, 0, 0, 0⟩
abbrev FIOB.OUT.OUT : Fld := ⟨0x50, 31, 0, 0, 0⟩
abbrev FIOB.OUT_SET.SET : Fld := ⟨0x58, 31, 0, 0, 0⟩
abbrev FIOB.OUT_CLR.CLR : Fld := ⟨0x60, 31, 0, 0, 0⟩
abbrev FIOB.IN.IN : Fld := ⟨0x68, 31, 0, 0, 0⟩
abbrev FIOB.IN_INDET.INDET : Fld := ⟨0x70, 31, 0, 0, 0⟩
abbrev FIOB.WB_STAT.WB : Fld := ⟨0x78, 31, 0, 0, 0⟩
abbrev FIOB.OVLD.OVLD : Fld := ⟨0x80, 31, 0, 0, 0⟩
abbrev FIOB.BANK_STAT.SAFE : Fld := ⟨0x88, 35, 35, 0, 0⟩
abbrev FIOB.BANK_STAT.VF_LOW : Fld := ⟨0x88, 34, 34, 0, 0⟩
abbrev FIOB.BANK_STAT.BANK_OVER : Fld := ⟨0x88, 33, 33, 0, 0⟩
abbrev FIOB.BANK_STAT.IBANK_MA : Fld := ⟨0x88, 15, 0, 0, 0⟩
abbrev FIOB.CH_CFG.FILT_US : Fld := ⟨0x100, 19, 8, 0x8, 0⟩
abbrev FIOB.CH_CFG.SAFE : Fld := ⟨0x100, 7, 6, 0x8, 0⟩
abbrev FIOB.CH_CFG.PUV : Fld := ⟨0x100, 5, 5, 0x8, 0⟩
abbrev FIOB.CH_CFG.WB_EN : Fld := ⟨0x100, 4, 4, 0x8, 0⟩
abbrev FIOB.CH_CFG.ARST : Fld := ⟨0x100, 1, 1, 0x8, 0⟩
abbrev FIOB.CH_CFG.DIR : Fld := ⟨0x100, 0, 0, 0x8, 0⟩

/-- The registers of a page of kind REC0. -/
def regsRec0 : List RegD :=
  [⟨0x40, 0x0, 1, 0xf0000, false, [⟨20, 20, .rw, []⟩, ⟨19, 16, .rw, []⟩]⟩,
   ⟨0x48, 0x0, 1, 0x493e0, false, [⟨31, 0, .rw, []⟩]⟩,
   ⟨0x50, 0x0, 1, 0x0, false, [⟨31, 0, .rw, []⟩]⟩,
   ⟨0x58, 0x0, 1, 0x0, false, [⟨1, 0, .wo, []⟩]⟩,
   ⟨0x60, 0x0, 1, 0x0, true, [⟨35, 34, .ro, []⟩, ⟨33, 31, .ro, []⟩, ⟨27, 24, .ro, []⟩, ⟨23, 20, .ro, []⟩, ⟨19, 0, .ro, []⟩]⟩,
   ⟨0x68, 0x0, 1, 0x0, true, [⟨35, 34, .ro, []⟩, ⟨33, 31, .ro, []⟩, ⟨30, 30, .ro, []⟩, ⟨21, 0, .ro, []⟩]⟩] ++
  [⟨0x70, 0x0, 1, 0x0, true, [⟨35, 35, .ro, []⟩, ⟨21, 0, .ro, []⟩]⟩,
   ⟨0x78, 0x0, 1, 0x0, false, [⟨21, 0, .rw, []⟩]⟩,
   ⟨0x80, 0x0, 1, 0x0, false, [⟨35, 0, .ro, []⟩]⟩]

abbrev REC0.REC_CFG.SEQ : Fld := ⟨0x40, 20, 20, 0, 0⟩
abbrev REC0.REC_CFG.LADDER_MAX : Fld := ⟨0x40, 19, 16, 0, 0⟩
abbrev REC0.REC_POST.POST_T : Fld := ⟨0x48, 31, 0, 0, 0⟩
abbrev REC0.REC_SEQW.SEQ_WIN : Fld := ⟨0x50, 31, 0, 0, 0⟩
abbrev REC0.REC_CMD.OP : Fld := ⟨0x58, 1, 0, 0, 0⟩
abbrev REC0.REC_STAT.STATE : Fld := ⟨0x60, 35, 34, 0, 0⟩
abbrev REC0.REC_STAT.END : Fld := ⟨0x60, 33, 31, 0, 0⟩
abbrev REC0.REC_STAT.K_NOW : Fld := ⟨0x60, 27, 24, 0, 0⟩
abbrev REC0.REC_STAT.K_MAX : Fld := ⟨0x60, 23, 20, 0, 0⟩
abbrev REC0.REC_STAT.LOST : Fld := ⟨0x60, 19, 0, 0, 0⟩
abbrev REC0.REC_HDR0.STATE : Fld := ⟨0x68, 35, 34, 0, 0⟩
abbrev REC0.REC_HDR0.END : Fld := ⟨0x68, 33, 31, 0, 0⟩
abbrev REC0.REC_HDR0.WRAP : Fld := ⟨0x68, 30, 30, 0, 0⟩
abbrev REC0.REC_HDR0.WPTR : Fld := ⟨0x68, 21, 0, 0, 0⟩
abbrev REC0.REC_HDR1.TVALID : Fld := ⟨0x70, 35, 35, 0, 0⟩
abbrev REC0.REC_HDR1.TADDR : Fld := ⟨0x70, 21, 0, 0, 0⟩
abbrev REC0.RD_ADDR.ADDR : Fld := ⟨0x78, 21, 0, 0, 0⟩
abbrev REC0.RD_DATA.DATA : Fld := ⟨0x80, 35, 0, 0, 0⟩

/-- The registers of a page of kind REC1. -/
def regsRec1 : List RegD :=
  [⟨0x40, 0x8, 32, 0x0, false, [⟨11, 8, .rw, [(12, 15)]⟩, ⟨7, 0, .rw, []⟩]⟩,
   ⟨0x200, 0x8, 4, 0x0, false, [⟨35, 35, .rw, []⟩, ⟨34, 32, .rw, [(6, 7)]⟩, ⟨31, 27, .rw, []⟩]⟩,
   ⟨0x220, 0x8, 4, 0x0, false, [⟨35, 0, .rw, [(34359738368, 68719476735)]⟩]⟩,
   ⟨0x280, 0x0, 1, 0x0, false, [⟨9, 8, .rw, []⟩, ⟨4, 0, .rw, []⟩]⟩]

abbrev REC1.PROBE.GROUP : Fld := ⟨0x40, 11, 8, 0x8, 0⟩
abbrev REC1.PROBE.INDEX : Fld := ⟨0x40, 7, 0, 0x8, 0⟩
abbrev REC1.AP.EN : Fld := ⟨0x200, 35, 35, 0x8, 0⟩
abbrev REC1.AP.UNIT : Fld := ⟨0x200, 34, 32, 0x8, 0⟩
abbrev REC1.AP.ENTRY : Fld := ⟨0x200, 31, 27, 0x8, 0⟩
abbrev REC1.DBAND.DEADBAND : Fld := ⟨0x220, 35, 0, 0x8, 0⟩
abbrev REC1.MEAS_CFG.MODE : Fld := ⟨0x280, 9, 8, 0, 0⟩
abbrev REC1.MEAS_CFG.CH : Fld := ⟨0x280, 4, 0, 0, 0⟩

/-- The registers of a page of kind REC2. -/
def regsRec2 : List RegD :=
  [⟨0x40, 0x40, 4, 0x0, false, [⟨35, 35, .rw, []⟩, ⟨34, 32, .rw, [(7, 7)]⟩, ⟨31, 30, .rw, []⟩, ⟨29, 29, .rw, []⟩, ⟨28, 24, .rw, []⟩, ⟨23, 22, .rw, []⟩, ⟨21, 19, .rw, []⟩]⟩,
   ⟨0x48, 0x40, 4, 0x0, false, [⟨35, 0, .rw, []⟩]⟩,
   ⟨0x50, 0x40, 4, 0x0, false, [⟨35, 0, .rw, []⟩]⟩,
   ⟨0x58, 0x40, 4, 0x0, false, [⟨35, 0, .rw, []⟩]⟩,
   ⟨0x60, 0x40, 4, 0x0, false, [⟨35, 0, .rw, []⟩]⟩]

abbrev REC2.TRG_CFG.EN : Fld := ⟨0x40, 35, 35, 0x40, 0⟩
abbrev REC2.TRG_CFG.TYPE : Fld := ⟨0x40, 34, 32, 0x40, 0⟩
abbrev REC2.TRG_CFG.MODE : Fld := ⟨0x40, 31, 30, 0x40, 0⟩
abbrev REC2.TRG_CFG.POL : Fld := ⟨0x40, 29, 29, 0x40, 0⟩
abbrev REC2.TRG_CFG.CH : Fld := ⟨0x40, 28, 24, 0x40, 0⟩
abbrev REC2.TRG_CFG.AP : Fld := ⟨0x40, 23, 22, 0x40, 0⟩
abbrev REC2.TRG_CFG.EVI : Fld := ⟨0x40, 21, 19, 0x40, 0⟩
abbrev REC2.TRG_A.A : Fld := ⟨0x48, 35, 0, 0x40, 0⟩
abbrev REC2.TRG_B.B : Fld := ⟨0x50, 35, 0, 0x40, 0⟩
abbrev REC2.TRG_T1.T : Fld := ⟨0x58, 35, 0, 0x40, 0⟩
abbrev REC2.TRG_T2.T : Fld := ⟨0x60, 35, 0, 0x40, 0⟩

/-- The registers of a page of kind REC3. -/
def regsRec3 : List RegD :=
  [⟨0x40, 0x0, 1, 0x0, false, [⟨3, 3, .rw, []⟩, ⟨2, 2, .rw, []⟩, ⟨1, 0, .rw, [(3, 3)]⟩]⟩,
   ⟨0x48, 0x0, 1, 0x0, false, [⟨0, 0, .wo, []⟩]⟩,
   ⟨0x50, 0x0, 1, 0x0, true, [⟨35, 35, .ro, []⟩, ⟨34, 34, .ro, []⟩, ⟨21, 0, .ro, []⟩]⟩,
   ⟨0x58, 0x0, 1, 0x0, false, [⟨21, 0, .rw, []⟩]⟩]

abbrev REC3.BAON_CFG.LOOP_EN : Fld := ⟨0x40, 3, 3, 0, 0⟩
abbrev REC3.BAON_CFG.TX : Fld := ⟨0x40, 2, 2, 0, 0⟩
abbrev REC3.BAON_CFG.ROLE : Fld := ⟨0x40, 1, 0, 0, 0⟩
abbrev REC3.BAON_CMD.MEAS : Fld := ⟨0x48, 0, 0, 0, 0⟩
abbrev REC3.BAON_RT.VALID : Fld := ⟨0x50, 35, 35, 0, 0⟩
abbrev REC3.BAON_RT.FAIL : Fld := ⟨0x50, 34, 34, 0, 0⟩
abbrev REC3.BAON_RT.RT : Fld := ⟨0x50, 21, 0, 0, 0⟩
abbrev REC3.BAON_DLY.DLY : Fld := ⟨0x58, 21, 0, 0, 0⟩

/-- The registers of a page of kind CAN. -/
def regsCan : List RegD :=
  [⟨0x40, 0x0, 1, 0x840407e0, false, [⟨35, 30, .rw, [(0, 0), (33, 63)]⟩, ⟨29, 22, .rw, [(0, 0), (129, 255)]⟩, ⟨21, 14, .rw, [(0, 0), (129, 255)]⟩, ⟨13, 5, .rw, [(0, 1), (257, 511)]⟩]⟩,
   ⟨0x48, 0x0, 1, 0x8843c000, false, [⟨35, 30, .rw, [(0, 0), (33, 63)]⟩, ⟨29, 25, .rw, [(0, 0), (17, 31)]⟩, ⟨24, 20, .rw, [(0, 0), (17, 31)]⟩, ⟨19, 14, .rw, [(0, 0), (33, 63)]⟩]⟩,
   ⟨0x50, 0x0, 1, 0x0, false, [⟨35, 35, .rw, []⟩, ⟨22, 16, .ro, []⟩, ⟨6, 0, .rw, []⟩]⟩,
   ⟨0x58, 0x0, 1, 0xf1c, false, [⟨13, 8, .rw, []⟩, ⟨4, 4, .rw, []⟩, ⟨3, 3, .rw, []⟩, ⟨2, 2, .rw, []⟩, ⟨1, 0, .rw, [(3, 3)]⟩]⟩,
   ⟨0x60, 0x0, 1, 0x0, false, [⟨0, 0, .wo, []⟩]⟩,
   ⟨0x68, 0x0, 1, 0x0, true, [⟨35, 34, .ro, []⟩, ⟨33, 31, .ro, []⟩, ⟨23, 16, .ro, []⟩, ⟨8, 0, .ro, []⟩]⟩] ++
  [⟨0x70, 0x0, 1, 0x0, true, [⟨35, 28, .ro, []⟩, ⟨27, 12, .ro, []⟩, ⟨11, 0, .ro, []⟩]⟩,
   ⟨0x78, 0x0, 1, 0x0, false, [⟨12, 0, .rw, []⟩]⟩,
   ⟨0x80, 0x0, 1, 0x0, false, [⟨35, 0, .ro, []⟩]⟩,
   ⟨0x88, 0x0, 1, 0x0, false, [⟨15, 8, .wo, []⟩, ⟨7, 0, .wo, []⟩]⟩,
   ⟨0x90, 0x0, 1, 0x0, true, [⟨23, 0, .ro, []⟩]⟩,
   ⟨0x98, 0x0, 1, 0x0, false, [⟨35, 34, .rw, [(3, 3)]⟩, ⟨33, 33, .rw, []⟩, ⟨28, 0, .rw, []⟩]⟩] ++
  [⟨0xa0, 0x0, 1, 0x0, false, [⟨35, 30, .rw, []⟩, ⟨29, 0, .rw, []⟩]⟩,
   ⟨0xa8, 0x0, 1, 0x0, true, [⟨35, 34, .ro, []⟩, ⟨33, 28, .ro, []⟩, ⟨27, 27, .ro, []⟩]⟩,
   ⟨0xb0, 0x0, 1, 0x0, true, [⟨35, 0, .ro, []⟩]⟩,
   ⟨0xb8, 0x0, 1, 0x0, true, [⟨35, 0, .ro, []⟩]⟩,
   ⟨0xc0, 0x0, 1, 0x0, true, [⟨35, 0, .ro, []⟩]⟩,
   ⟨0xc8, 0x0, 1, 0x0, false, [⟨35, 35, .rw, []⟩, ⟨34, 34, .rw, []⟩, ⟨28, 0, .rw, []⟩]⟩] ++
  [⟨0xd0, 0x0, 1, 0x32, false, [⟨9, 0, .rw, [(0, 0), (1001, 1023)]⟩]⟩,
   ⟨0xd8, 0x0, 1, 0x0, false, [⟨1, 0, .wo, [(3, 3)]⟩]⟩,
   ⟨0xe0, 0x0, 1, 0x0, true, [⟨1, 0, .ro, []⟩]⟩,
   ⟨0x400, 0x100, 8, 0x0, false, [⟨35, 35, .rw, []⟩, ⟨34, 34, .rw, []⟩, ⟨33, 33, .rw, []⟩, ⟨31, 31, .rw, []⟩, ⟨28, 0, .rw, []⟩]⟩,
   ⟨0x408, 0x100, 8, 0x0, false, [⟨3, 0, .rw, []⟩]⟩,
   ⟨0x410, 0x100, 8, 0x0, false, [⟨35, 0, .ro, []⟩]⟩] ++
  [⟨0x418, 0x100, 8, 0x0, false, [⟨35, 0, .ro, []⟩]⟩,
   ⟨0x440, 0x8, 16, 0x0, false, [⟨31, 0, .rw, []⟩]⟩,
   ⟨0x540, 0x8, 16, 0x0, false, [⟨31, 0, .rw, []⟩]⟩,
   ⟨0x640, 0x8, 16, 0x0, false, [⟨31, 0, .rw, []⟩]⟩,
   ⟨0x740, 0x8, 16, 0x0, false, [⟨31, 0, .rw, []⟩]⟩,
   ⟨0x840, 0x8, 16, 0x0, false, [⟨31, 0, .rw, []⟩]⟩] ++
  [⟨0x940, 0x8, 16, 0x0, false, [⟨31, 0, .rw, []⟩]⟩,
   ⟨0xa40, 0x8, 16, 0x0, false, [⟨31, 0, .rw, []⟩]⟩,
   ⟨0xb40, 0x8, 16, 0x0, false, [⟨31, 0, .rw, []⟩]⟩]

abbrev CAN.NBT.NBRP : Fld := ⟨0x40, 35, 30, 0, 0⟩
abbrev CAN.NBT.NSJW : Fld := ⟨0x40, 29, 22, 0, 0⟩
abbrev CAN.NBT.NTSEG2 : Fld := ⟨0x40, 21, 14, 0, 0⟩
abbrev CAN.NBT.NTSEG1 : Fld := ⟨0x40, 13, 5, 0, 0⟩
abbrev CAN.DBT.DBRP : Fld := ⟨0x48, 35, 30, 0, 0⟩
abbrev CAN.DBT.DSJW : Fld := ⟨0x48, 29, 25, 0, 0⟩
abbrev CAN.DBT.DTSEG2 : Fld := ⟨0x48, 24, 20, 0, 0⟩
abbrev CAN.DBT.DTSEG1 : Fld := ⟨0x48, 19, 14, 0, 0⟩
abbrev CAN.TDC_CFG.EN : Fld := ⟨0x50, 35, 35, 0, 0⟩
abbrev CAN.TDC_CFG.TDCV : Fld := ⟨0x50, 22, 16, 0, 0⟩
abbrev CAN.TDC_CFG.TDCO : Fld := ⟨0x50, 6, 0, 0, 0⟩
abbrev CAN.CAN_MODE.TX_RETRY : Fld := ⟨0x58, 13, 8, 0, 0⟩
abbrev CAN.CAN_MODE.BOFF_AUTO : Fld := ⟨0x58, 4, 4, 0, 0⟩
abbrev CAN.CAN_MODE.ECHO_OWN : Fld := ⟨0x58, 3, 3, 0, 0⟩
abbrev CAN.CAN_MODE.FD_EN : Fld := ⟨0x58, 2, 2, 0, 0⟩
abbrev CAN.CAN_MODE.MODE : Fld := ⟨0x58, 1, 0, 0, 0⟩
abbrev CAN.CAN_CMD.RECOVER : Fld := ⟨0x60, 0, 0, 0, 0⟩
abbrev CAN.ERR_STAT.STATE : Fld := ⟨0x68, 35, 34, 0, 0⟩
abbrev CAN.ERR_STAT.LEC : Fld := ⟨0x68, 33, 31, 0, 0⟩
abbrev CAN.ERR_STAT.RX_ERR : Fld := ⟨0x68, 23, 16, 0, 0⟩
abbrev CAN.ERR_STAT.TX_ERR : Fld := ⟨0x68, 8, 0, 0, 0⟩
abbrev CAN.RX_STAT.WIDX : Fld := ⟨0x70, 35, 28, 0, 0⟩
abbrev CAN.RX_STAT.SEQ : Fld := ⟨0x70, 27, 12, 0, 0⟩
abbrev CAN.RX_STAT.DROPS : Fld := ⟨0x70, 11, 0, 0, 0⟩
abbrev CAN.RD_ADDR.ADDR : Fld := ⟨0x78, 12, 0, 0, 0⟩
abbrev CAN.RD_DATA.DATA : Fld := ⟨0x80, 35, 0, 0, 0⟩
abbrev CAN.TX_CMD.ABORT : Fld := ⟨0x88, 15, 8, 0, 0⟩
abbrev CAN.TX_CMD.SEND : Fld := ⟨0x88, 7, 0, 0, 0⟩
abbrev CAN.TX_STAT.STATE : Fld := ⟨0x90, 23, 0, 0, 0⟩
abbrev CAN.TT_CFG.ROLE : Fld := ⟨0x98, 35, 34, 0, 0⟩
abbrev CAN.TT_CFG.IDE : Fld := ⟨0x98, 33, 33, 0, 0⟩
abbrev CAN.TT_CFG.REF_ID : Fld := ⟨0x98, 28, 0, 0, 0⟩
abbrev CAN.TT_CYC.CC_MAX : Fld := ⟨0xa0, 35, 30, 0, 0⟩
abbrev CAN.TT_CYC.CYCLE : Fld := ⟨0xa0, 29, 0, 0, 0⟩
abbrev CAN.TT_STAT.TSTATE : Fld := ⟨0xa8, 35, 34, 0, 0⟩
abbrev CAN.TT_STAT.CC : Fld := ⟨0xa8, 33, 28, 0, 0⟩
abbrev CAN.TT_STAT.NEXT_GAP : Fld := ⟨0xa8, 27, 27, 0, 0⟩
abbrev CAN.TT_CTIME.CTIME : Fld := ⟨0xb0, 35, 0, 0, 0⟩
abbrev CAN.REF_T0.MARK : Fld := ⟨0xb8, 35, 0, 0, 0⟩
abbrev CAN.REF_T1.MARK : Fld := ⟨0xc0, 35, 0, 0, 0⟩
abbrev CAN.SLP_CFG.EN : Fld := ⟨0xc8, 35, 35, 0, 0⟩
abbrev CAN.SLP_CFG.IDE : Fld := ⟨0xc8, 34, 34, 0, 0⟩
abbrev CAN.SLP_CFG.ID : Fld := ⟨0xc8, 28, 0, 0, 0⟩
abbrev CAN.SLP_TIME.STBY_US : Fld := ⟨0xd0, 9, 0, 0, 0⟩
abbrev CAN.SLP_CMD.OP : Fld := ⟨0xd8, 1, 0, 0, 0⟩
abbrev CAN.SLP_STAT.SSTATE : Fld := ⟨0xe0, 1, 0, 0, 0⟩
abbrev CAN.TXB_HDR.IDE : Fld := ⟨0x400, 35, 35, 0x100, 0⟩
abbrev CAN.TXB_HDR.FDF : Fld := ⟨0x400, 34, 34, 0x100, 0⟩
abbrev CAN.TXB_HDR.BRS : Fld := ⟨0x400, 33, 33, 0x100, 0⟩
abbrev CAN.TXB_HDR.RTR : Fld := ⟨0x400, 31, 31, 0x100, 0⟩
abbrev CAN.TXB_HDR.ID : Fld := ⟨0x400, 28, 0, 0x100, 0⟩
abbrev CAN.TXB_CTL.DLC : Fld := ⟨0x408, 3, 0, 0x100, 0⟩
abbrev CAN.TXB_T0.STAMP : Fld := ⟨0x410, 35, 0, 0x100, 0⟩
abbrev CAN.TXB_T1.STAMP : Fld := ⟨0x418, 35, 0, 0x100, 0⟩
abbrev CAN.TXB_DATA.BYTES : Fld := ⟨0x440, 31, 0, 0x8, 0x100⟩

/-- The registers of a page of kind ETH. -/
def regsEth : List RegD :=
  [⟨0x40, 0x0, 1, 0x81, false, [⟨9, 9, .rw, []⟩, ⟨8, 8, .rw, []⟩, ⟨7, 7, .rw, []⟩, ⟨5, 4, .rwl, [(3, 3)]⟩, ⟨2, 1, .rwl, [(3, 3)]⟩, ⟨0, 0, .rwl, []⟩]⟩,
   ⟨0x48, 0x0, 1, 0x0, false, [⟨31, 0, .rw, []⟩]⟩,
   ⟨0x50, 0x0, 1, 0x0, false, [⟨15, 0, .rw, []⟩]⟩,
   ⟨0x58, 0x0, 1, 0x0, true, [⟨35, 35, .ro, []⟩, ⟨34, 34, .ro, []⟩, ⟨33, 33, .ro, []⟩, ⟨11, 0, .ro, []⟩]⟩,
   ⟨0x60, 0x0, 1, 0x0, true, [⟨35, 29, .ro, []⟩, ⟨28, 13, .ro, []⟩, ⟨12, 0, .ro, []⟩]⟩,
   ⟨0x68, 0x0, 1, 0x0, false, [⟨6, 0, .rw, []⟩]⟩] ++
  [⟨0x70, 0x0, 1, 0x0, true, [⟨6, 0, .ro, []⟩]⟩]

abbrev ETH.ETH_CFG.FWD : Fld := ⟨0x40, 9, 9, 0, 0⟩
abbrev ETH.ETH_CFG.PROMISC : Fld := ⟨0x40, 8, 8, 0, 0⟩
abbrev ETH.ETH_CFG.MCAST : Fld := ⟨0x40, 7, 7, 0, 0⟩
abbrev ETH.ETH_CFG.LINK : Fld := ⟨0x40, 5, 4, 0, 0⟩
abbrev ETH.ETH_CFG.MDIX : Fld := ⟨0x40, 2, 1, 0, 0⟩
abbrev ETH.ETH_CFG.EN : Fld := ⟨0x40, 0, 0, 0, 0⟩
abbrev ETH.MAC_ADDR0.B2_5 : Fld := ⟨0x48, 31, 0, 0, 0⟩
abbrev ETH.MAC_ADDR1.B0_1 : Fld := ⟨0x50, 15, 0, 0, 0⟩
abbrev ETH.ETH_STAT.LINK : Fld := ⟨0x58, 35, 35, 0, 0⟩
abbrev ETH.ETH_STAT.FULL : Fld := ⟨0x58, 34, 34, 0, 0⟩
abbrev ETH.ETH_STAT.XOVER : Fld := ⟨0x58, 33, 33, 0, 0⟩
abbrev ETH.ETH_STAT.FWD_DROP : Fld := ⟨0x58, 11, 0, 0, 0⟩
abbrev ETH.RX_STAT.WIDX : Fld := ⟨0x60, 35, 29, 0, 0⟩
abbrev ETH.RX_STAT.SEQ : Fld := ⟨0x60, 28, 13, 0, 0⟩
abbrev ETH.RX_STAT.DROPS : Fld := ⟨0x60, 12, 0, 0, 0⟩
abbrev ETH.TX_PROD.PROD : Fld := ⟨0x68, 6, 0, 0, 0⟩
abbrev ETH.TX_CONS.CONS : Fld := ⟨0x70, 6, 0, 0, 0⟩

/-- The registers of a page of kind PTP. -/
def regsPtp : List RegD :=
  [⟨0x40, 0x0, 1, 0x7, false, [⟨2, 2, .rw, []⟩, ⟨1, 1, .rw, []⟩, ⟨0, 0, .rw, []⟩]⟩,
   ⟨0x48, 0x8, 4, 0x0, false, [⟨35, 0, .rw, [(641, 68719476095)]⟩]⟩]

abbrev PTP.PTP_CFG.UDP4 : Fld := ⟨0x40, 2, 2, 0, 0⟩
abbrev PTP.PTP_CFG.L2 : Fld := ⟨0x40, 1, 1, 0, 0⟩
abbrev PTP.PTP_CFG.EN : Fld := ⟨0x40, 0, 0, 0, 0⟩
abbrev PTP.LAT_ADJ.ADJ : Fld := ⟨0x48, 35, 0, 0x8, 0⟩

/-- The registers of a page of kind DBG. -/
def regsDbg : List RegD :=
  [⟨0x40, 0x0, 1, 0x0, false, [⟨35, 35, .rws, []⟩, ⟨31, 30, .wo, [(3, 3)]⟩, ⟨13, 13, .rw, []⟩, ⟨12, 0, .rw, []⟩]⟩,
   ⟨0x48, 0x0, 1, 0x0, true, [⟨35, 35, .ro, []⟩, ⟨12, 0, .ro, []⟩]⟩]

abbrev DBG.DBG_CTRL.JTAG_EN : Fld := ⟨0x40, 35, 35, 0, 0⟩
abbrev DBG.DBG_CTRL.RST : Fld := ⟨0x40, 31, 30, 0, 0⟩
abbrev DBG.DBG_CTRL.HALT_ALL : Fld := ⟨0x40, 13, 13, 0, 0⟩
abbrev DBG.DBG_CTRL.HALT_ENG : Fld := ⟨0x40, 12, 0, 0, 0⟩
abbrev DBG.DBG_STAT.HALTED : Fld := ⟨0x48, 35, 35, 0, 0⟩
abbrev DBG.DBG_STAT.ENG : Fld := ⟨0x48, 12, 0, 0, 0⟩

end Sys2Proof.Machine
end

