-- ==== Sys2Proof/Machine/State.lean ====
section
/-! DEFINITION. The state of the block, why a step may stop, and the state right after reset. -/

namespace Sys2Proof.Machine

/-- Why a step faults. Nothing in this model raises a fault: every command of the table has an effect that the manual gives. -/
inductive Fault where
  /-- An access to an address that does not exist. No meaning raises it: the manual gives such accesses an effect
  (R30: reads return zero, writes are dropped; R214: engines trap). Safe. -/
  | noSuchAddress (addr : Nat)
deriving DecidableEq, Repr

/-- Why a step is refused. -/
inductive Refusal where
  /-- The command has no meaning in this model yet; raised by an arm of `exec` alone. Safe. -/
  | notModelled (mnemonic : String)
deriving DecidableEq, Repr

/-- The machine. `regs` holds every register slot of every page, by byte address of the slot in the host map; a slot it does
not list holds its reset word. The other fields hold the state that no slot shows. -/
structure State where
  /-- The commands that wait, first in, first out. -/
  pending : List Instr
  /-- FCLK ticks since power-on, and the time base count C (R404). -/
  now : Nat
  timeC : Nat
  /-- Serial number of the next free value. -/
  serial : Nat
  regs : Cells
  /-- The words that frozen status registers hold (R36, FREEZE), by slot address. -/
  frozen : Cells
  /-- Pages in soft reset, with the FREEZE and EN values they take when it completes (R37). -/
  softRst : List (Pg × Bool × Bool)
  rst : RstPart
  /-- The events that have fired in the present PCLK cycle: page number, bit, tick (R38). -/
  recent : List (Nat × Nat × Nat)
  /-- The open unlock window: its requester (R49). -/
  unlockWin : Option Req
  bar0 : HostPort
  bar2 : HostPort
  spi : HostPort
  held : List HeldAcc
  evt : EvtPart
  host : HostPart
  /-- The shared store: the words written since the reset numbered `epoch` left it undefined (R57, R346). -/
  store : Cells
  epoch : Nat
  /-- The snapshots of TIME for BAR0, BAR2, SPI and PE: platform time in 1/64 ns, and C (R408). -/
  snaps : Vector (Nat × Nat) 4
  /-- The count C at the last correction (R407), and a correction that applies from the next tick: T_REF in 1/64 ns, C_REF, RATE
  (R405). -/
  lastCor : Nat
  cor : Option (Nat × Nat × Word)
  /-- The corrections that later ones have replaced, oldest first: the last tick each applied to, its T_REF in 1/64 ns, C_REF and
  RATE (R405). -/
  cors : List (Nat × Nat × Nat × Int)
  /-- What the refill engine has been asked for first: directory reads (false) and model records (true), oldest first (R104). -/
  refillQ : List (Bool × Fin 48)
  queues : Queues
  axes : Vector Axis 48
  ports : Vector DrivePort 48
  /-- The carriers of the axis groups. -/
  cars : Vector Carrier 12
  fbs : Vector FbPart 48
  adcs : Vector AdcPart 6
  si : SiPart
  arb : ArbPart
  fiobs : Vector FiobPart 4
  recd : RecPart
  cans : Vector CanPart 4
  eths : Vector EthPart 2
  vms : Vector VMast 8
  doors : Vector Door 32
  ovl : OvlPart
  /-- AE0-AE11, then PE. -/
  engs : Vector Engine 13
deriving DecidableEq, Repr

/-- A host requester's port with nothing staged. -/
def HostPort.reset : HostPort := { latch := none, snap := none, rdata := [] }

/-- RST right after the power-on source asserts: nothing is released. -/
def RstPart.reset : RstPart :=
  { asserted := [.por], reach := 3, resetOut := true, siRel := false, clkOn := false, lossHold := false, mgmtRel := false, storeRdy := false,
    engRel := false, periRel := false, dpRel := false, wdCtrl := 0, wdData := 0, wdMgmt := 0, warnCtrl := false,
    warnData := false, warnMgmt := false }

/-- The event router out of reset. -/
def EvtPart.reset : EvtPart :=
  { fired := [], delivering := [], count := Vector.replicate 16 0, since := Vector.replicate 16 0, sent := [],
    logQ := [], logRestart := true, pulsed := [], pulsedAt := 0, prior := [], irq0 := false, irq1 := false }

/-- The host port out of reset. -/
def HostPart.reset : HostPart :=
  { linkUp := false, d3hot := false, busMaster := false, msiEnable := false, msiMask := 0, cfg := CfgSpace.reset,
    dmaSeq := Vector.replicate 9 0, posted := [], txMoved := [], txBack := [], spiErr := false, spiOut := [], jtagIr := 1,
    jtagOut := [], boundary := [], extest := false, haltAt := none, vio33 := .normal }

/-- The machine when the power-on source has asserted: every register at its reset word, every block in reset. -/
def State.reset : State :=
  { pending := [], now := 0, timeC := 0, serial := 0, regs := [], frozen := [], softRst := [], rst := RstPart.reset,
    recent := [], unlockWin := none, bar0 := HostPort.reset, bar2 := HostPort.reset, spi := HostPort.reset, held := [],
    evt := EvtPart.reset, host := HostPart.reset, store := [], epoch := 0,
    snaps := Vector.replicate 4 (0, 0), lastCor := 0, cor := none, cors := [], refillQ := [], queues := Queues.reset,
    axes := Vector.replicate 48 Axis.reset, ports := Vector.replicate 48 DrivePort.reset,
    cars := Vector.replicate 12 Carrier.reset, fbs := Vector.replicate 48 FbPart.reset,
    adcs := Vector.replicate 6 AdcPart.reset, si := SiPart.reset, arb := ArbPart.reset,
    fiobs := Vector.replicate 4 FiobPart.reset, recd := RecPart.reset, cans := Vector.replicate 4 CanPart.reset,
    eths := Vector.replicate 2 EthPart.reset,
    vms := Vector.replicate 8 VMast.reset, doors := Vector.replicate 32 Door.reset, ovl := OvlPart.reset,
    engs := Vector.replicate 13 Engine.reset }

end Sys2Proof.Machine
end

