-- ==== Sys2Proof/Machine/Ops.lean ====
section
/-! DEFINITION. The named operations on the state: words by key, register slots and fields, events, the platform time,
the shared store and the credit queues. -/

namespace Sys2Proof.Machine

/-- What a meaning answers. -/
abbrev Out := Host.Outcome State Fault Refusal

/-! ### Words by key -/

/-- The word stored under a key. -/
def Cells.find (m : Cells) (k : Nat) : Option Word :=
  match m with
  | [] => none
  | (j, w) :: r => if j = k then some w else Cells.find r k

/-- The cells without the key. -/
def Cells.drop (m : Cells) (k : Nat) : Cells := m.filter (fun c => c.1 != k)

/-- A cell put at its place among rising keys. -/
def Cells.ins (m : Cells) (k : Nat) (w : Word) : Cells :=
  match m with
  | [] => [(k, w)]
  | (j, v) :: r => if k < j then (k, w) :: (j, v) :: r else (j, v) :: Cells.ins r k w

/-- Store a word under a key. -/
def Cells.put (m : Cells) (k : Nat) (w : Word) : Cells := (m.drop k).ins k w

/-- Store a word under a key; a word equal to what an unlisted key reads as is not listed. -/
def Cells.set (m : Cells) (k : Nat) (w dflt : Word) : Cells := if w = dflt then m.drop k else m.put k w

/-- The keys rise strictly. -/
def Cells.rising (m : Cells) : Bool :=
  match m with
  | [] => true
  | [_] => true
  | (a, _) :: (b, v) :: r => a < b && Cells.rising ((b, v) :: r)

/-! ### Pages and their slots (R29, R36) -/

/-- The number of a page: its base in the host map divided by 0x1000 (R29). -/
def pgNum : Pg → Nat
  | .sys => 0x00 | .rst => 0x01 | .clk => 0x02 | .sec => 0x03 | .ovl => 0x04 | .evt => 0x05 | .arb => 0x06 | .time => 0x07
  | .ax n => 0x10 + n | .fb n => 0x40 + n | .dp n => 0x70 + n | .ae k => 0xA0 + k | .pe => 0xAC
  | .adc u => 0xB0 + u | .ec => 0xB8 | .si j => 0xC0 + j | .fiob b => 0xC8 + b | .recorder j => 0xD0 + j
  | .can c => 0xE0 + c | .eth p => 0xE8 + p | .ptp => 0xEA | .dbg => 0xF0

/-- The `i`-th page of a row of pages, if the row is that long. -/
def nthPg {m : Nat} (f : Fin m → Pg) (i : Nat) : Option Pg := if h : i < m then some (f ⟨i, h⟩) else none

/-- The page with a number. -/
def pgOfNum (i : Nat) : Option Pg :=
  if i < 0x08 then
    match i with
    | 0 => some .sys | 1 => some .rst | 2 => some .clk | 3 => some .sec | 4 => some .ovl | 5 => some .evt
    | 6 => some .arb | _ => some .time
  else if i < 0x10 then none
  else if i < 0x40 then nthPg Pg.ax (i - 0x10)
  else if i < 0x70 then nthPg Pg.fb (i - 0x40)
  else if i < 0xA0 then nthPg Pg.dp (i - 0x70)
  else if i < 0xAC then nthPg Pg.ae (i - 0xA0)
  else if i = 0xAC then some .pe
  else if i < 0xB0 then none
  else if i < 0xB8 then nthPg Pg.adc (i - 0xB0)
  else if i = 0xB8 then some .ec
  else if i < 0xC0 then none
  else if i < 0xC8 then nthPg Pg.si (i - 0xC0)
  else if i < 0xCC then nthPg Pg.fiob (i - 0xC8)
  else if i < 0xD0 then none
  else if i < 0xD4 then nthPg Pg.recorder (i - 0xD0)
  else if i < 0xE0 then none
  else if i < 0xE4 then nthPg Pg.can (i - 0xE0)
  else if i < 0xE8 then none
  else if i < 0xEA then nthPg Pg.eth (i - 0xE8)
  else if i = 0xEA then some .ptp
  else if i = 0xF0 then some .dbg
  else none

/-- PAGE_ID.TYPE and INST of a page (R36). -/
def pgTypeInst : Pg → Nat × Nat
  | .sys => (0x001, 0) | .rst => (0x002, 0) | .clk => (0x003, 0) | .sec => (0x004, 0) | .ovl => (0x005, 0)
  | .evt => (0x006, 0) | .arb => (0x007, 0) | .time => (0x008, 0)
  | .ax n => (0x010, n) | .fb n => (0x011, n) | .dp n => (0x012, n) | .ae k => (0x013, k) | .pe => (0x014, 0)
  | .adc u => (0x015, u) | .ec => (0x016, 0) | .si j => (0x020, j) | .fiob b => (0x021, b) | .recorder j => (0x022, j)
  | .can c => (0x023, c) | .eth p => (0x024, p) | .ptp => (0x025, 0) | .dbg => (0x026, 0)

/-- PAGE_WORLD of SEC, the SI pages and DBG is fixed at 1 (R39). -/
def pgWorldFixed : Pg → Bool
  | .sec => true | .si _ => true | .dbg => true | _ => false

/-! The fields of the page header (R36). -/
abbrev HDR.CTRL.FREEZE : Fld := ⟨0x08, 2, 2, 0, 0⟩
abbrev HDR.CTRL.SRST : Fld := ⟨0x08, 1, 1, 0, 0⟩
abbrev HDR.CTRL.EN : Fld := ⟨0x08, 0, 0, 0, 0⟩
abbrev HDR.STAT.FAULT : Fld := ⟨0x10, 2, 2, 0, 0⟩
abbrev HDR.STAT.BUSY : Fld := ⟨0x10, 1, 1, 0, 0⟩
abbrev HDR.STAT.RUN : Fld := ⟨0x10, 0, 0, 0, 0⟩
abbrev HDR.EV_RAW.RAW : Fld := ⟨0x18, 31, 0, 0, 0⟩
abbrev HDR.EV_MASK.MASK : Fld := ⟨0x20, 31, 0, 0, 0⟩
abbrev HDR.EV_ACK.ACK : Fld := ⟨0x28, 31, 0, 0, 0⟩
abbrev HDR.WORLD.WORLD : Fld := ⟨0x30, 1, 0, 0, 0⟩
abbrev HDR.LOCK.LOCK : Fld := ⟨0x38, 0, 0, 0, 0⟩

/-- The header slots of a page (R36, R39, R459). -/
def headerRegs (p : Pg) : List RegD :=
  [⟨0x00, 0, 1, BitVec.ofNat 36 ((pgTypeInst p).1 <<< 24 ||| (pgTypeInst p).2 <<< 16) |||
      (BitVec.zeroExtend 36 (Config.rev p)) <<< 8 ||| (if p = .sys && Config.fused then 1 else 0), false, []⟩,
   ⟨0x08, 0, 1, 1, false, [⟨2, 2, .rw, []⟩, ⟨1, 1, .wo, []⟩, ⟨0, 0, if p = .arb then .ro else .rwl, []⟩]⟩,
   ⟨0x10, 0, 1, 0, false, [⟨2, 0, .ro, []⟩]⟩,
   ⟨0x18, 0, 1, 0, false, [⟨31, 0, .ro, []⟩]⟩,
   ⟨0x20, 0, 1, 0, false, [⟨31, 0, .rw, []⟩]⟩,
   ⟨0x28, 0, 1, 0, false, [⟨31, 0, .wo, []⟩]⟩,
   ⟨0x30, 0, 1, if (pgWorldFixed p) then 1 else 0, false,
     [⟨1, 0, if (pgWorldFixed p) then .ro else .rws, if (pgWorldFixed p) then [] else [(3, 3)]⟩]⟩,
   ⟨0x38, 0, 1, 0, false, [⟨0, 0, .rw, []⟩]⟩]

/-- The block registers of a page. -/
def pgBlockRegs : Pg → List RegD
  | .sys => regsSys | .rst => regsRst | .clk => regsClk | .sec => regsSec | .ovl => regsOvl | .evt => regsEvt
  | .arb => regsArb | .time => regsTime | .ax _ => regsAx | .fb _ => regsFb | .dp _ => regsDp | .ae _ => regsAe
  | .pe => regsPe | .adc _ => regsAdc | .ec => regsEc
  | .si j => match j.val with
    | 0 => regsSi0 | 1 => regsSi1 | 2 => regsSi2 | 3 => regsSi3 | 4 => regsSi4 | 5 => regsSi5 | 6 => regsSi6 | _ => regsSi7
  | .fiob _ => regsFiob
  | .recorder j => match j.val with
    | 0 => regsRec0 | 1 => regsRec1 | 2 => regsRec2 | _ => regsRec3
  | .can _ => regsCan | .eth _ => regsEth | .ptp => regsPtp | .dbg => regsDbg

/-- The instance of a register or register array that lies at an offset. -/
def RegD.idx (d : RegD) (off : Nat) : Option Nat :=
  if d.cnt ≤ 1 then (if off = d.off then some 0 else none)
  else if d.off ≤ off && (off - d.off) % d.stride == 0 && (off - d.off) / d.stride < d.cnt then
    some ((off - d.off) / d.stride)
  else none

/-- The register at an offset of a table, with its instance number. -/
def findReg (t : List RegD) (off : Nat) : Option (RegD × Nat) :=
  match t with
  | [] => none
  | d :: r => match d.idx off with
    | some i => some (d, i)
    | none => findReg r off

/-- The register at an offset of a page. -/
def pgReg (p : Pg) (off : Nat) : Option (RegD × Nat) :=
  if off < 0x40 then findReg (headerRegs p) off else findReg (pgBlockRegs p) off

/-- round(2047 * sin(2*pi*i/256)) for i = 0 to 64 (R267). -/
def quarterSine : List Nat :=
  [0, 50, 100, 151, 201, 251, 300, 350, 399, 449, 497, 546, 594, 642, 690, 737] ++
  [783, 830, 875, 920, 965, 1009, 1052, 1095, 1137, 1179, 1219, 1259, 1299, 1337, 1375, 1411] ++
  [1447, 1483, 1517, 1550, 1582, 1614, 1644, 1674, 1702, 1729, 1756, 1781, 1805, 1828, 1850, 1871] ++
  [1891, 1910, 1927, 1944, 1959, 1973, 1986, 1997, 2008, 2017, 2025, 2032, 2037, 2041, 2045, 2046] ++ [2047]

/-- round(2047 * sin(2*pi*i/256)) as a 12-bit two's complement number (R267). -/
def sine12 (i : Nat) : Nat :=
  let q := (i / 64) % 4
  let r := i % 64
  let m := fun j => quarterSine.getD j 0
  if q = 0 then m r else if q = 1 then m (64 - r) else if q = 2 then (4096 - m r) % 4096 else (4096 - m (64 - r)) % 4096

/-- The states that the fuse map may give a ball group, and the one it has as shipped (R69). -/
def ballPermitted (g : Nat) : List Nat :=
  [[1, 3], [1, 3], [0, 1, 2, 3], [0, 1, 2, 3], [0, 1, 2, 3], [0], [0], [3], [0, 1, 2, 3], [0, 1, 2, 3], [0], [0, 1, 2], [0, 1, 2],
   [0, 1, 2], [0], [0]].getD g [0]
def ballShipped (g : Nat) : Nat := [3, 3, 2, 0, 3, 0, 0, 3, 2, 2, 0, 0, 0, 0, 0, 0].getD g 0

/-- The fuse map's code of a ball group: the part's, which lies within the permitted ones (R69). -/
def fuseCode (g : Nat) : Nat :=
  let v := Config.ballMap.toNat / 4 ^ g % 4
  if (ballPermitted g).contains v then v else ballShipped g

/-- The state of a ball group from reset until a block configures its balls (R69). -/
def fuseState (g : Nat) : Lvl :=
  match fuseCode g with
  | 0 => .z | 1 => .pullDown | 2 => .pullUp | _ => .low

/-- What BALL_MAP reads (R69). -/
def fuseMap : Nat := (List.range 16).foldl (fun a g => a + fuseCode g * 4 ^ g) 0

/-- The reset word of a slot, where the tables' common word does not serve: resets that differ by instance or by part. -/
def specialReset (p : Pg) (d : RegD) (i : Nat) : Word :=
  match p with
  | .rst => if d.off = 0x78 then BitVec.ofNat 36 fuseMap else d.reset
  | .sec =>
    if d.off = 0x48 then (if Config.bar2Fuse then 1 else 0)
    else if d.off = 0x100 && i = 15 then 0x0D0000
    else if d.off = 0x108 && i = 15 then 0x0D0003
    else d.reset
  | .fb n => if d.off = 0x40 then d.reset ||| BitVec.ofNat 36 ((n.val / 4) <<< 8) else d.reset
  | .dp _ => if d.off = 0x800 then BitVec.ofNat 36 (sine12 (i + 64) <<< 18 ||| sine12 i) else d.reset
  | .adc _ => if d.off = 0x100 then BitVec.ofNat 36 (i % 16) else d.reset
  | .arb => if d.off = 0x80 && i = 10 then 0x000FFFFFF else d.reset
  | .dbg => if d.off = 0x40 && !Config.fused then 0x800000000 else d.reset
  | _ => d.reset

/-- What a slot holds after reset. -/
def resetWord (p : Pg) (off : Nat) : Word :=
  match (pgReg p) off with
  | some (d, i) => specialReset p d i
  | none => 0

/-- The byte address of a slot in the host map. -/
def slotAddr (p : Pg) (off : Nat) : Nat := (pgNum p) * 0x1000 + off

/-- The word a slot holds. -/
def State.word (s : State) (p : Pg) (off : Nat) : Word := ((s.regs.find (slotAddr p off)).getD (resetWord p off))

/-- Put a word into a slot. -/
def State.setWord (s : State) (p : Pg) (off : Nat) (w : Word) : State :=
  { s with regs := s.regs.set (slotAddr p off) w (resetWord p off) }

/-- A field of a page, as a number. -/
def State.get (s : State) (p : Pg) (f : Fld) : Nat := fld (s.word p f.off) f.hi f.lo

/-- A field of a page, as a signed number. -/
def State.getI (s : State) (p : Pg) (f : Fld) : Int := sx (f.hi + 1 - f.lo) (s.get p f)

/-- Whether a one-bit field is 1. -/
def State.flag (s : State) (p : Pg) (f : Fld) : Bool := s.get p f != 0

/-- Put the low bits of a number into a field. -/
def State.put (s : State) (p : Pg) (f : Fld) (v : Nat) : State :=
  s.setWord p f.off (setFld (s.word p f.off) f.hi f.lo v)

/-- Put an integer into a field, saturating at its signed range (R8). -/
def State.putI (s : State) (p : Pg) (f : Fld) (v : Int) : State :=
  let n := f.hi + 1 - f.lo
  s.put p f ((satS n v) % (2 : Int) ^ n).toNat

/-- Add one to a counter field, saturating at its largest value. -/
def State.inc (s : State) (p : Pg) (f : Fld) : State := s.put p f (satInc (f.hi + 1 - f.lo) (s.get p f))

/-! ### Updates of the parts -/

/-- Change an axis. -/
def State.updAx (s : State) (n : Fin 48) (f : Axis → Axis) : State := { s with axes := s.axes.set n (f s.axes[n]) }

/-- Change a drive port. -/
def State.updDp (s : State) (n : Fin 48) (f : DrivePort → DrivePort) : State :=
  { s with ports := s.ports.set n (f s.ports[n]) }

/-- Change an engine. -/
def State.updEng (s : State) (e : Fin 13) (f : Engine → Engine) : State := { s with engs := s.engs.set e (f s.engs[e]) }

/-- A word whose value the manual leaves open. -/
def State.fresh (s : State) : Word × State := (Config.freshWord s.serial, { s with serial := s.serial + 1 })

/-! ### Which blocks are out of reset (R63, R68) -/

/-- Whether the block behind a page has been released from reset. -/
def State.released (s : State) : Pg → Bool
  | .sys | .rst | .clk | .sec | .ovl | .evt | .arb | .time | .dbg | .fiob _ => s.rst.mgmtRel
  | .si _ => s.rst.siRel
  | .ae _ | .pe => s.rst.engRel
  | .dp _ => s.rst.dpRel
  | _ => s.rst.periRel

/-- Whether a page is in soft reset (R37). -/
def State.softResetting (s : State) (p : Pg) : Bool := s.softRst.any (fun e => e.1 == p)

/-- Whether the block behind a page is released, enabled and not in soft reset (PAGE_STAT.RUN). -/
def State.runs (s : State) (p : Pg) : Bool := s.released p && s.flag p HDR.CTRL.EN && !s.softResetting p

/-- The axis engine that serves an axis (R28). -/
def aeOf (n : Fin 48) : Fin 12 := ⟨n.val / 4, by omega⟩

/-- The axis in slot `i` of an engine's group (R28). -/
def axOf (k : Fin 12) (i : Fin 4) : Fin 48 := ⟨4 * k.val + i.val, by omega⟩

/-- The four axes of an engine's group. -/
def axesOf (k : Fin 12) : List (Fin 48) := [axOf k 0, axOf k 1, axOf k 2, axOf k 3]

/-- The converter of an axis (R28). -/
def adcOf (n : Fin 48) : Fin 6 := ⟨n.val / 8, by omega⟩

/-- An axis engine as an element of the vector of engines. -/
def engOf (k : Fin 12) : Fin 13 := ⟨k.val, by omega⟩

/-- PE as an element of the vector of engines. -/
def peIx : Fin 13 := 12

/-- An engine's page. -/
def engPg (e : Fin 13) : Pg := if h : e.val < 12 then .ae ⟨e.val, h⟩ else .pe

/-- Do the same for each element of a list, in order. -/
def forEach {α : Type} (l : List α) (f : α → State → State) (s : State) : State := l.foldl (fun t a => f a t) s

/-- Apply a change where a condition holds. -/
def State.doIf (s : State) (b : Bool) (f : State → State) : State := if b then f s else s

/-! ### The platform time (R9, R403, R404) -/

/-- T_REF in 1/64 ns. -/
def State.tRef (s : State) : Nat :=
  s.get .time TIME.REF_T1.T_REF * 64000000000 + s.get .time TIME.REF_T0.T_REF

/-- C_REF. -/
def State.cRef (s : State) : Nat := s.get .time TIME.REF_C1.C_REF * 2 ^ 36 + s.get .time TIME.REF_C0.C_REF

/-- The correction in force at a tick: T_REF in 1/64 ns, C_REF and RATE; ticks up to a commit have the one before it (R405). -/
def State.timeRefs (s : State) (c : Nat) : Nat × Nat × Int :=
  match s.cors.find? (fun e => decide (c ≤ e.1)) with
  | some e => e.2
  | none => (s.tRef, s.cRef, s.getI .time TIME.REF_RATE.RATE)

/-- The platform time of a tick, exact, in 1/64 ns (R404). -/
def State.timeQ (s : State) (c : Nat) : Rat :=
  let r := s.timeRefs c
  (r.1 : Rat) + ((c : Rat) - (r.2.1 : Rat)) * (640 / 3) * (1 + (r.2.2 : Rat) / 2 ^ 40)

/-- The platform time of a tick, rounded, in 1/64 ns (R404). -/
def State.timeAt (s : State) (c : Nat) : Int := roundQ (s.timeQ c)

/-- The platform time now, in 1/64 ns. -/
def State.nowT (s : State) : Nat := (s.timeAt s.timeC).toNat

/-- The two words of a TIME72, the seconds saturated (R8, R9). -/
def time72 (t : Nat) : Word × Word :=
  (BitVec.ofNat 36 (t % 64000000000), wordU ((t / 64000000000 : Nat) : Int))

/-- The platform time of a raw instant with a fraction of a tick in 1/64 (R369), in 1/64 ns. -/
def State.timeAtTap (s : State) (c tap : Nat) : Nat :=
  (roundQ (s.timeQ c + (tap : Rat) / 64 * (640 / 3))).toNat

/-! ### Events (R36, R418-R419) -/

/-- The event bits that a chapter classes as faults. -/
def pgFaultMask : Pg → Nat
  | .rst => 0x7 | .evt => 0x1 | .arb => 0x1 | .time => 0x1 | .ovl => 0x1 | .clk => 0x0
  | .ax _ => 0x2860070F | .fb _ => 0x1 | .dp _ => 0x1 | .ae _ => 0x7 | .pe => 0x1 | .adc _ => 0x1
  | .si j => if j = 0 then 0x83FF else 0
  | .fiob _ => 0x7
  | .recorder j => if j = 0 then 0x3 else 0
  | .can _ => 0x3 | .eth _ => 0x1 | .dbg => 0x3
  | .sys | .sec | .ec | .ptp => 0

/-- The global event a page's event bit feeds (R418). -/
def globalOf (p : Pg) (i : Nat) : Option Nat :=
  let fn := fun base => if bit (pgFaultMask p) i then some base else some (base + 1)
  match p with
  | .sys | .rst | .clk | .sec | .ovl | .evt | .arb | .time => if i < 8 then some (8 * (pgNum p) + i) else none
  | .ax n => fn (64 + 2 * n.val)
  | .dp n => fn (160 + 2 * n.val)
  | .fb n => fn (256 + 2 * n.val)
  | .ae k => fn (352 + 2 * k.val)
  | .pe => fn 376
  | .adc u => fn (384 + 2 * u.val)
  | .si j => if j = 0 && i < 16 then some (416 + i) else none
  | .fiob b => fn (448 + 4 * b.val)
  | .recorder j => if j = 0 && i < 16 then some (464 + i) else none
  | .can c => some (480 + 4 * c.val + (if i < 8 then 0 else if i < 16 then 1 else if i < 24 then 2 else 3))
  | .eth p => fn (496 + 2 * p.val)
  | .ptp => if i < 2 then some (500 + i) else none
  | .dbg => if i < 6 then some (504 + i) else none
  | .ec => none

/-- Whether two firings are the same one: an event fires once in a tick (R419). -/
def Firing.same (f g : Firing) : Bool := g.ev == f.ev && g.tick == f.tick

/-- A firing that a list holds takes the page's EV_RAW as it now is. -/
def amend (l : List Firing) (f : Firing) : List Firing := l.map (fun g => if f.same g then { g with raw := f.raw } else g)

/-- Add a firing; a second firing of the event in the same tick is the same firing (R419). -/
def addFiring (l : List Firing) (f : Firing) : List Firing := if l.any f.same then amend l f else l ++ [f]

/-- A firing reaches the router; one of a tick whose firing of that event is already on its way to its delivery is the same firing
(R419). -/
def State.takeFiring (s : State) (f : Firing) : State :=
  if s.evt.delivering.any f.same then
    { s with evt := { s.evt with delivering := amend s.evt.delivering f, logQ := amend s.evt.logQ f } }
  else { s with evt := { s.evt with fired := addFiring s.evt.fired f } }

/-- The PCLK cycle a tick lies in: two ticks of FCLK (R23). -/
def pclkOf (tick : Nat) : Nat := tick / 2

/-- Whether an event of a page has fired in this PCLK cycle (R38). -/
def State.firedNow (s : State) (p : Pg) (i : Nat) : Bool :=
  s.recent.any (fun e => e.1 == pgNum p && e.2.1 == i && pclkOf e.2.2 == pclkOf s.now)

/-- Note an event of this PCLK cycle. -/
def State.noteFired (s : State) (p : Pg) (i : Nat) : State :=
  { s with recent := s.recent.filter (fun e => pclkOf e.2.2 == pclkOf s.now && !(e.1 == pgNum p && e.2.1 == i)) ++
      [(pgNum p, i, s.now)] }

/-- An event of a page fires: its EV_RAW bit sets, and where EV_MASK passes it its global event fires (R36, R419). -/
def State.fire (s : State) (p : Pg) (i : Nat) : State :=
  let raw := setBit (s.get p HDR.EV_RAW.RAW) i
  let s := (s.put p HDR.EV_RAW.RAW raw).noteFired p i
  match globalOf p i with
  | some g =>
    if bit (s.get p HDR.EV_MASK.MASK) i then
      let t := time72 s.nowT
      s.takeFiring { ev := g, tick := s.now, w0 := t.1, w1 := t.2, raw := BitVec.ofNat 32 raw }
    else s
  | none => s

/-- An event that fired in this tick is withdrawn, its EV_RAW bit being `was` before. -/
def State.unfire (s : State) (p : Pg) (i : Nat) (was : Bool) : State :=
  let s := s.doIf (!was) (fun s => s.put p HDR.EV_RAW.RAW (clrBit (s.get p HDR.EV_RAW.RAW) i))
  { s with
    recent := s.recent.filter (fun e => !(e.1 == pgNum p && e.2.1 == i))
    evt := { s.evt with fired := s.evt.fired.filter (fun f => !(globalOf p i == some f.ev && f.tick == s.now)) } }

/-- Whether an event bit of a page is set in EV_RAW. -/
def State.raised (s : State) (p : Pg) (i : Nat) : Bool := bit (s.get p HDR.EV_RAW.RAW) i

/-! ### The shared store (R45-R47, R346-R348) -/

/-- The words of the store. -/
def storeWords : Nat := 0x400000

/-- The word at a store address; a word nothing has written is a free value. -/
def State.storeGet (s : State) (a : Nat) : Word := (s.store.find a).getD (Config.storeWord s.epoch a)

/-- Put a word into the store. -/
def State.storePut (s : State) (a : Nat) (w : Word) : State := { s with store := s.store.put a w }

/-- The world of a store word: entry 15 first, then the lowest-numbered enabled entry that contains it (R46). -/
def State.storeWorld (s : State) (a : Nat) : Nat :=
  let hit := fun i =>
    let c := s.word .sec (0x108 + 0x10 * i)
    fld c 0 0 == 1 && fld (s.word .sec (0x100 + 0x10 * i)) 21 12 ≤ a / 4096 && a / 4096 ≤ fld c 21 12
  if hit 15 then 1
  else match (List.range 15).find? hit with
    | some i => fld (s.word .sec (0x108 + 0x10 * i)) 2 1
    | none => 0

/-! ### Credit queues (R77-R85) -/

/-- The entries of a queue, oldest first. -/
def State.qGet (s : State) : QId → List (List Word)
  | .pq n => s.queues.pq[n] | .fq n => s.queues.fq[n] | .mq n => s.queues.mq[n]
  | .oq n => s.queues.oq[n] | .dq n => s.queues.dq[n] | .cq k => s.queues.cq[k]

/-- Replace the entries of a queue. -/
def Queues.set (q : Queues) : QId → List (List Word) → Queues
  | .pq n, l => { q with pq := q.pq.set n l } | .fq n, l => { q with fq := q.fq.set n l }
  | .mq n, l => { q with mq := q.mq.set n l } | .oq n, l => { q with oq := q.oq.set n l }
  | .dq n, l => { q with dq := q.dq.set n l } | .cq k, l => { q with cq := q.cq.set k l }

/-- The depth of a queue (R77, R125, R150). -/
def qDepth : QId → Nat
  | .pq _ => 8 | .fq _ => 4 | .mq _ => 4 | .oq _ => 4 | .dq _ => 4 | .cq _ => 16

/-- The page and the offset of a queue's status register (R85, R125, R150). -/
def qStatReg : QId → Pg × Nat
  | .pq n => (.ax n, 0x1F0) | .fq n => (.ax n, 0x1F8) | .mq n => (.ax n, 0x1E8) | .oq n => (.ax n, 0x1E0)
  | .dq n => (.dp n, 0x1F0) | .cq k => (.adc ⟨k.val / 2, by omega⟩, 0x600 + 8 * (k.val % 2))

/-- The fields of a queue's status register (R85). -/
def qOcc (q : QId) : Fld := ⟨(qStatReg q).2, 24, 20, 0, 0⟩
def qHwm (q : QId) : Fld := ⟨(qStatReg q).2, 29, 25, 0, 0⟩
def qEmptyPop (q : QId) : Fld := ⟨(qStatReg q).2, 19, 10, 0, 0⟩
def qFullPush (q : QId) : Fld := ⟨(qStatReg q).2, 9, 0, 0, 0⟩

/-- What this FCLK cycle has done to a queue so far. -/
def State.qCyc (s : State) (q : QId) : QCyc :=
  match s.queues.cyc.find? (fun c => c.q == q && c.tick == s.now) with
  | some c => c
  | none =>
    let r := fun (f : Fld) => s.get (qStatReg q).1 f
    { q := q, tick := s.now, landed := 0, popped := 0, lost := [], full := r (qFullPush q), empty := r (qEmptyPop q),
      hwm := r (qHwm q), evWas := false, flushed := false, eng := none }

/-- Put entries into a queue; OCC follows, HWM is the highest occupancy that a cycle has ended with (R80, R85). -/
def State.qSet (s : State) (q : QId) (l : List (List Word)) : State :=
  let hwm := (s.qCyc q).hwm
  let s := { s with queues := s.queues.set q l }
  let s := s.put (qStatReg q).1 (qOcc q) l.length
  s.put (qStatReg q).1 (qHwm q) (max hwm l.length)

/-- Note what this cycle has done to a queue. -/
def State.qNote (s : State) (c : QCyc) : State :=
  { s with queues := { s.queues with cyc := s.queues.cyc.filter (fun d => d.q != c.q) ++ [c] } }

/-- An entry lands. -/
def State.qLand (s : State) (q : QId) (e : List Word) : State :=
  let c := s.qCyc q
  (s.qSet q (s.qGet q ++ [e])).qNote { c with landed := c.landed + 1 }

/-- Whether a push has been discarded because the queue is flushed in this cycle (R84). -/
def State.qFlushing (s : State) (q : QId) : Bool := (s.qCyc q).flushed

/-- Push an entry: refused and counted where the producer holds no credit (R79, R81), discarded in the cycle of a flush (R84).
Answers whether the producer sees it accepted. -/
def State.qPush (s : State) (q : QId) (e : List Word) : Bool × State :=
  let c := s.qCyc q
  if c.flushed then (true, s)
  else if (s.qGet q).length < (qDepth q) then (true, s.qLand q e)
  else (false, (s.inc (qStatReg q).1 (qFullPush q)).qNote { c with lost := c.lost ++ [e] })

/-- The entries that a pop of this cycle may take: those that the cycle began with (R80). -/
def State.qOld (s : State) (q : QId) : List (List Word) := (s.qGet q).take ((s.qGet q).length - (s.qCyc q).landed)

/-- The feedback port an axis takes its samples from (R86): none, its own, or the one FB_IDX names. -/
def State.fbPort (s : State) (n : Fin 48) : Option (Fin 48) :=
  match s.get (.ax n) AX.AX_CFG.FB_MODE with
  | 1 => some n
  | 2 => if h : s.get (.ax n) AX.AX_CFG.FB_IDX < 48 then some ⟨_, h⟩ else none
  | _ => none

/-- An entry of MQ: position, velocity, acceleration, and a flag word with LOST, STALE and the instant (R125). -/
def mqEntry (o : Setp) (lost stale : Bool) (inst : Nat) : List Word :=
  [BitVec.ofInt 36 o.p, BitVec.ofInt 36 o.v, BitVec.ofInt 36 o.a,
   BitVec.ofNat 36 (b2n lost <<< 35 ||| b2n stale <<< 34 ||| inst % 2 ^ 32)]

/-- Push into the MQ of every enabled axis that selects a master (R124, R125). -/
def State.mqPushAll (s : State) (src idx : Nat) (e : List Word) : State :=
  forEach (List.finRange 48) (fun i s =>
    s.doIf (s.runs (.ax i) && s.get (.ax i) AX.GEAR_CFG.MSRC == src && s.get (.ax i) AX.GEAR_CFG.MIDX == idx)
      (fun s => (s.qPush (.mq i) e).2)) s

/-- What follows when an entry has landed: a setpoint shows in SETP_POS, SETP_VEL and SETP_ACC and passes to slaves (R90, R94,
R124); a sample is the axis's newest (R88). -/
def State.qLanded (s : State) (q : QId) (e : List Word) : State :=
  let i := fun k => (e.getD k 0).toInt
  match q with
  | .pq n =>
    let s := ((s.putI (.ax n) AX.SETP_POS.VALUE (i 0)).putI (.ax n) AX.SETP_VEL.VALUE (i 1)).putI (.ax n) AX.SETP_ACC.VALUE (i 2)
    s.mqPushAll 2 n.val (mqEntry ⟨i 0, i 1, i 2⟩ false false s.timeC)
  | .fq n =>
    let ok := (s.fbPort n).toList.filter (fun m =>
      s.runs (.ax n) && !(e.getD 2 0).msb && !s.axes[n].sup.fbOk.contains m)
    s.updAx n (fun a => { a with fbNew := (i 0, i 1), sup := { a.sup with fbOk := a.sup.fbOk ++ ok } })
  | _ => s

/-- A push that this cycle refused on a full queue lands in the slot that a pop of the same cycle frees; it is not counted, and
QFULL does not fire (R80); an engine's PUSH has then succeeded, and its C is 1 (R240). -/
def State.qLate (s : State) (q : QId) : State :=
  let c := s.qCyc q
  match c.lost with
  | [] => s
  | e :: r =>
    let s := s.put (qStatReg q).1 (qFullPush q) (min 1023 (c.full + r.length))
    let s := match q with
      | .pq n => s.unfire (.ax n) 4 c.evWas
      | _ => s
    let s := match c.eng with
      | some (k, f) => s.updEng k (fun x => if x.flags = f then { x with flags := { f with c := true } } else x)
      | none => s
    ((s.qNote { c with lost := r, eng := none }).qLand q e).qLanded q e

/-- Pop the oldest entry: refused and counted where the cycle began with none left (R79-R81); in the cycle of a flush discarded
(R84). -/
def State.qPop (s : State) (q : QId) : Option (List Word) × State :=
  let c := s.qCyc q
  match s.qOld q with
  | [] => (none, if c.flushed then s else s.inc (qStatReg q).1 (qEmptyPop q))
  | e :: _ => (some e, ((s.qSet q ((s.qGet q).drop 1)).qNote { c with popped := c.popped + 1 }).qLate q)

/-- Empty a queue at a flush edge: the pushes and pops of this cycle are discarded, and what they counted is taken back (R84). -/
def State.qFlush (s : State) (q : QId) : State :=
  let c := s.qCyc q
  let p := (qStatReg q).1
  let s := { s with queues := s.queues.set q [] }
  let s := match q with
    | .pq n => s.doIf (!c.lost.isEmpty) (fun s => s.unfire (.ax n) 4 c.evWas)
    | _ => s
  let s := s.qNote { c with landed := 0, lost := [], flushed := true }
  (((s.put p (qOcc q) 0).put p (qFullPush q) c.full).put p (qEmptyPop q) c.empty).put p (qHwm q) c.hwm

/-- CLR of a queue's status register: HWM takes the occupancy, the counts become 0 (R85). Written while FREEZE is 1, it clears the
live counts at once, and reads go on showing the held ones until FREEZE is 0 (DESIGN CHOICE, log 20). -/
def State.qClr (s : State) (q : QId) : State :=
  let n := (s.qGet q).length
  let s := s.qNote { s.qCyc q with full := 0, empty := 0, hwm := n, lost := [] }
  ((s.put (qStatReg q).1 (qHwm q) n).put (qStatReg q).1 (qEmptyPop q) 0).put (qStatReg q).1 (qFullPush q) 0

/-- The newest of the entries present, all of them popped, with how many older ones were passed over (R91, R126). -/
def State.qPopAll (s : State) (q : QId) : Option (List Word × Nat) × State :=
  let l := s.qOld q
  let c := s.qCyc q
  match l.getLast? with
  | none => (none, s)
  | some e =>
    (some (e, l.length - 1), ((s.qSet q ((s.qGet q).drop l.length)).qNote { c with popped := c.popped + l.length }).qLate q)

end Sys2Proof.Machine
end

