-- ==== Sys2Proof/Machine/Access.lean ====
section
/-! DEFINITION. Worlds, denials and error latches (R42-R50), and checked transfers of the shared store (R46). -/

namespace Sys2Proof.Machine

/-- The requester code of the error latches (R42). -/
def reqCode : Req → Nat
  | .bar0 => 0 | .bar2 => 1 | .spi => 2 | .pe => 3 | .dma => 4 | .ae _ | .si | .jtag | .block => 5

/-- Whether PE executes from its secure partition: kernel ROM, or program RAM at or above PSEC (R208). -/
def State.peSecure (s : State) : Bool :=
  decide (min (s.get .pe PE.PE_PART.PSEC) 0x10000 ≤ s.engs[peIx].pc)

/-- Whether a requester is secure now (R43, R48, R433). -/
def State.secure (s : State) : Req → Bool
  | .spi | .si => true
  | .bar2 => s.flag .sec SEC.STAT.UNLOCKED && s.flag .sec SEC.BAR2_CTRL.EN
  | .pe => s.peSecure
  | .dma => s.get .sys HDR.WORLD.WORLD == 1
  | .jtag => s.flag .dbg DBG.DBG_CTRL.JTAG_EN
  | .ae k => s.get (.ae k) HDR.WORLD.WORLD == 1
  | .bar0 | .block => false

/-- The word an error latch takes (R42). -/
def latchWord (space wr : Bool) (req kind addr : Nat) : Word :=
  BitVec.ofNat 36 (b2n space <<< 31 ||| b2n wr <<< 30 ||| req <<< 27 ||| kind <<< 25 ||| addr % 2 ^ 25)

/-- An error latch takes its first event while its event bits `bits` read 0, and counts later ones (R42); then the event fires. -/
def State.latch (s : State) (p : Pg) (off : Nat) (bits : List Nat) (w : Word) (ev : Nat) : State :=
  let s := if bits.any (fun i => s.raised p i) then s.setWord p off
      (setFld (s.word p off) 35 32 (satInc 4 (fld (s.word p off) 35 32)))
    else s.setWord p off w
  s.fire p ev

/-- REG_REJECT (R13, R42). -/
def State.regReject (s : State) (r : Req) (addr : Nat) : State :=
  s.latch .sys 0x40 [0] (latchWord false true (reqCode r) 0 addr) 0

/-- The address of the slot an access touches. -/
def slotOf (addr : Nat) : Nat := addr / 8 * 8

/-- ADDR_UNASSIGNED (R30, R42). -/
def State.unassigned (s : State) (r : Req) (addr : Nat) (wr : Bool) : State :=
  s.latch .sys 0x48 [1, 2] (latchWord false wr (reqCode r) 0 (slotOf addr)) 1

/-- SPLIT_ORPHAN (R33, R42). -/
def State.splitOrphan (s : State) (r : Req) (addr : Nat) : State :=
  s.latch .sys 0x48 [1, 2] (latchWord false true (reqCode r) 1 (slotOf addr)) 2

/-- SEC_DENY at a host byte address, or at a store word address (R42, R44, R46). -/
def State.secDeny (s : State) (r : Req) (space : Bool) (addr : Nat) (wr : Bool) : State :=
  s.latch .sec 0x40 [0] (latchWord space wr (reqCode r) 0 addr) 0

/-- Whether a world lets a requester read, or write (R44). -/
def worldAllows (world : Nat) (secure wr : Bool) : Bool := secure || world == 0 || (world == 2 && !wr)

/-- Whether ARB carries a tablet or a refresh now. -/
def State.storeBusy (s : State) : Bool := s.arb.refresh || s.arb.cur.isSome

/-- Whether a block that acts for a page is secure: its page's world is 1 (R43). -/
def State.pageSecure (s : State) (p : Pg) : Bool := s.get p HDR.WORLD.WORLD == 1

/-- One transfer of the store: a denied read returns zero, a denied write is dropped (R46). -/
def State.xferRead (s : State) (r : Req) (secure : Bool) (a : Nat) : Word × State :=
  let a := a % storeWords
  if worldAllows (s.storeWorld a) secure false then (s.storeGet a, s) else (0, s.secDeny r true a false)

/-- A write transfer of the store; answers whether it was allowed (R46). -/
def State.xferWrite (s : State) (r : Req) (secure : Bool) (a : Nat) (w : Word) : Bool × State :=
  let a := a % storeWords
  if worldAllows (s.storeWorld a) secure true then (true, s.storePut a w) else (false, s.secDeny r true a true)

/-- A tablet of read transfers in ascending order. -/
def State.tabletRead (s : State) (r : Req) (secure : Bool) : List Nat → List Word × State
  | [] => ([], s)
  | a :: l =>
    let (w, s1) := s.xferRead r secure a
    let (ws, s2) := State.tabletRead s1 r secure l
    (w :: ws, s2)

/-- A tablet of write transfers in order; a denied transfer does not end it (R46). Answers whether all were allowed. -/
def State.tabletWrite (s : State) (r : Req) (secure : Bool) : List (Nat × Word) → Bool × State
  | [] => (true, s)
  | (a, w) :: l =>
    let (b, s1) := s.xferWrite r secure a w
    let (c, s2) := State.tabletWrite s1 r secure l
    (b && c, s2)

end Sys2Proof.Machine
end

