-- ==== Sys2Proof/Machine/Profile.lean ====
section
/-! DEFINITION. The arithmetic of motion: Hermite segments (R97), blending (R98, R100, R101, R111), ramped stops (R112) and the
walk along the segments of a move (R95-R106). All of it is exact; a setpoint is rounded only when it is stored (R97, R456).
Profile time is in ticks, positions in counts, velocities in counts/ms. -/

namespace Sys2Proof.Machine

/-- A point of a path: position, velocity, acceleration. -/
structure PVA where
  p : Rat
  v : Rat
  a : Rat
deriving DecidableEq, Repr

/-- A profile time in 2^-16 tick, in ticks. -/
def ticksOf (tau : Nat) : Rat := (tau : Rat) / 65536

/-- Ticks in milliseconds. -/
def msOf (t : Rat) : Rat := t / 300000

/-- A setpoint as a point of a path. -/
def Setp.pva (s : Setp) : PVA := ⟨(s.p : Rat) / 4096, (s.v : Rat) / 65536, (s.a : Rat) / 4194304⟩

/-- A point of a path as a setpoint: rounded to nearest, saturated (R97, R8). -/
def PVA.setp (x : PVA) : Setp :=
  ⟨satS 36 (roundQ (x.p * 4096)), satS 36 (roundQ (x.v * 65536)), satS 36 (roundQ (x.a * 4194304))⟩

/-- The cubic Hermite curve of R97, `t` ticks into a segment of `dur` ticks. -/
def hermite (p0 v0 p1 v1 dur t : Rat) : PVA :=
  let tm := msOf dur
  let s := t / dur
  ⟨(2*s^3 - 3*s^2 + 1)*p0 + (s^3 - 2*s^2 + s)*tm*v0 + (-2*s^3 + 3*s^2)*p1 + (s^3 - s^2)*tm*v1,
   ((6*s^2 - 6*s)*p0 + (3*s^2 - 4*s + 1)*tm*v0 + (-6*s^2 + 6*s)*p1 + (3*s^2 - 2*s)*tm*v1) / tm,
   ((12*s - 6)*p0 + (6*s - 4)*tm*v0 + (-12*s + 6)*p1 + (6*s - 2)*tm*v1) / tm^2⟩

/-- The quintic weight of R100 and its first two derivatives. -/
def wgt (u : Rat) : Rat := 6*u^5 - 15*u^4 + 10*u^3
def wgt1 (u : Rat) : Rat := 30*u^4 - 60*u^3 + 30*u^2
def wgt2 (u : Rat) : Rat := 120*u^3 - 180*u^2 + 60*u

/-- The blend of path `x` into path `y` at `u` of a window of `b` ticks (R100). -/
def blendAt (b u : Rat) (x y : PVA) : PVA :=
  let w := wgt u
  let d := msOf b
  ⟨(1 - w)*x.p + w*y.p,
   (1 - w)*x.v + w*y.v + wgt1 u / d * (y.p - x.p),
   (1 - w)*x.a + w*y.a + 2 * wgt1 u / d * (y.v - x.v) + wgt2 u / d^2 * (y.p - x.p)⟩

/-! Fields of a segment (R95). -/
def QSeg.dur (g : QSeg) : Nat := fld g.w0 31 0
def QSeg.endPos (g : QSeg) : Int := g.w1.toInt
def QSeg.endVel (g : QSeg) : Int := g.w2.toInt
def QSeg.note (g : QSeg) : Bool := fld g.w3 2 2 == 1
def QSeg.noblend (g : QSeg) : Bool := fld g.w3 1 1 == 1
def QSeg.last (g : QSeg) : Bool := fld g.w3 0 0 == 1

/-- A segment is invalid: DUR 0, a reserved bit, or LAST with END_VEL not zero (R96). -/
def QSeg.invalid (g : QSeg) : Bool :=
  g.dur == 0 || fld g.w0 35 32 != 0 || fld g.w3 35 3 != 0 || (g.last && g.endVel != 0)

/-- The curve of a running segment at a profile time, extended beyond its ends. -/
def SegRun.at (r : SegRun) (t : Rat) : PVA :=
  hermite ((r.p0 : Rat) / 4096) ((r.v0 : Rat) / 65536) ((r.seg.endPos : Rat) / 4096) ((r.seg.endVel : Rat) / 65536)
    r.seg.dur (t - ticksOf r.start)

/-- The profile time at which a running segment ends, in 2^-16 tick. -/
def SegRun.stop (r : SegRun) : Nat := r.start + r.seg.dur * 65536

/-- The segment that follows a running one, as it will run. -/
def SegRun.follow (r : SegRun) (g : QSeg) : SegRun := ⟨r.stop, r.seg.endPos, r.seg.endVel, g⟩

/-- The path a one-sided blend leaves (R111): constant acceleration, or the decay path. -/
def Pre.at (x : Pre) (t : Rat) : PVA :=
  let s := (Setp.mk x.p x.v x.a).pva
  if !x.decay then
    let d := msOf t
    ⟨s.p + s.v*d + s.a*d^2/2, s.v + s.a*d, s.a⟩
  else if x.bt = 0 then ⟨s.p + s.v * msOf t, s.v, 0⟩
  else
    let b := msOf x.bt
    let at' := fun (y : Rat) => PVA.mk (s.p + s.v*b*y + s.a*b^2*(y^2/2 - y^7/7 + y^6/2 - y^5/2))
      (s.v + s.a*b*(y - y^6 + 3*y^5 - 5*y^4/2)) (s.a*(1 - wgt y))
    if t ≤ x.bt then at' (t / x.bt)
    else
      let e := at' 1
      ⟨e.p + e.v * (msOf t - b), e.v, 0⟩

/-- The move's path at a profile time: the running segment, the windows of its joints, and the one-sided blend at the start
(R97, R98, R100, R111). `nxt` is the segment after the running one. Where the start window overlaps the first joint's, the
old path is blended into the joined path (DESIGN CHOICE, log 46). -/
def Motion.pathAt (m : Motion) (nxt : Option QSeg) (t : Rat) : Option PVA :=
  match m.cur with
  | none => m.pre.map (fun x => x.at t)
  | some c =>
    let base := c.at t
    let half := (m.prevB : Rat) / 2
    let tj := ticksOf c.start
    let tk := ticksOf c.stop
    let base := match m.prev with
      | some r => if m.prevB ≠ 0 ∧ t < tj + half then blendAt m.prevB ((t - (tj - half)) / m.prevB) (r.at t) base else base
      | none => base
    let base := match m.nextB, nxt with
      | some b, some g => if b ≠ 0 ∧ t > tk - (b : Rat) / 2 then
          blendAt b ((t - (tk - (b : Rat) / 2)) / b) base ((c.follow g).at t) else base
      | _, _ => base
    match m.pre with
    | some x => if x.width ≠ 0 ∧ t < x.width then some (blendAt x.width (t / x.width) (x.at t) base) else some base
    | none => some base

/-! ### Ramped stops (R112) -/

/-- The sign of an integer. -/
def sgn (v : Int) : Rat := if 0 < v then 1 else if v < 0 then -1 else 0

/-- The blended stop path at `t` ticks after the ramp's start. -/
def Ramp.at (r : Ramp) (t : Rat) : PVA :=
  let s := (Setp.mk r.p r.v r.a).pva
  let dec := (r.dec : Rat) / 4194304
  let d := msOf t
  let y := PVA.mk (s.p + s.v*d - sgn r.v * dec * d^2/2) (s.v - sgn r.v * dec * d) (-(sgn r.v) * dec)
  if 0 < r.width ∧ t < r.width then
    blendAt r.width (t / r.width) ⟨s.p + s.v*d + s.a*d^2/2, s.v + s.a*d, s.a⟩ y
  else y

/-! The first zero of the blended velocity is found exactly, by Sturm's theorem: a polynomial is its coefficients, highest
first. -/

/-- The value of a polynomial. -/
def polyAt (p : List Rat) (x : Rat) : Rat := p.foldl (fun s c => s * x + c) 0

/-- The derivative of a polynomial. -/
def polyDeriv : List Rat → List Rat
  | [] => []
  | [_] => []
  | c :: r => c * (r.length : Rat) :: polyDeriv r

/-- Quotient and remainder of a polynomial by a divisor `d` with a leading coefficient other than 0; `k` bounds the steps. -/
def polyDivMod (d : List Rat) : Nat → List Rat → List Rat × List Rat
  | 0, p => ([], p)
  | k + 1, p =>
    if p.length < d.length then ([], p)
    else match p with
      | [] => ([], [])
      | c :: r =>
        let m := c / d.headD 1
        let low := d.tail.map (fun x => m * x)
        let rest := (r.take low.length).zipWith (fun x y => x - y) low ++ r.drop low.length
        let (q, e) := polyDivMod d k rest
        (m :: q, e)

/-- The chain of Sturm of two neighbouring members, to the last that is not zero. -/
def sturmFrom : Nat → List Rat → List Rat → List (List Rat)
  | 0, p, _ => [p]
  | k + 1, p, d =>
    match d.dropWhile (· == 0) with
    | [] => [p]
    | c :: r => p :: sturmFrom k (c :: r) (((polyDivMod (c :: r) 16 p).2).map (fun x => -x))

/-- Sturm's chain of a polynomial with its multiple roots made single. -/
def sturm (p : List Rat) : List (List Rat) :=
  let p := p.dropWhile (· == 0)
  let c := sturmFrom 8 p (polyDeriv p)
  let g := c.getLastD [1]
  c.map (fun x => (polyDivMod g 16 x).1)

/-- Changes of sign along a chain at a point, zeros left out. -/
def signChanges (c : List (List Rat)) (x : Rat) : Nat :=
  let v := (c.map (fun p => polyAt p x)).filter (· != 0)
  ((v.zip v.tail).filter (fun y => decide (y.1 * y.2 < 0))).length

/-- Halve an interval that holds the first root of a chain's polynomial. -/
def rootIn (c : List (List Rat)) : Nat → Rat → Rat → Rat
  | 0, _, hi => hi
  | k + 1, lo, hi =>
    let mid := (lo + hi) / 2
    if signChanges c mid < signChanges c lo then rootIn c k lo mid else rootIn c k mid hi

/-- The blended speed along the stop's direction inside the window, as a polynomial in `u` = t / B: the derivative of the
path of R112, with the weight of R100 written out. -/
def Ramp.speedPoly (r : Ramp) : List Rat :=
  let s := (Setp.mk r.p r.v r.a).pva
  let b := msOf r.width
  let acc := sgn r.v * s.a * b
  let k := acc + (r.dec : Rat) / 4194304 * b
  [-21 * k, 45 * k, -25 * k, 0, 0, acc, sgn r.v * s.v]

/-- The first instant after the start at which the blended velocity is zero, crossed or touched, in 2^-16 tick rounded up
(R112). -/
def Ramp.restTime (r : Ramp) : Nat :=
  if r.v = 0 then 0
  else
    let full := ((if r.v < 0 then -(r.v : Rat) else r.v) / 65536) / ((r.dec : Rat) / 4194304) * 300000
    let c := sturm r.speedPoly
    let t := if 0 < r.width ∧ signChanges c 1 < signChanges c 0 then r.width * rootIn c 60 0 1 else full
    (Rat.ceil (t * 65536)).toNat

/-- The ramp from a setpoint state with a deceleration (ACC36) and a blend time (R112). -/
def mkRamp (s : Setp) (dec : Int) (blendT : Nat) : Ramp :=
  let absV : Rat := if s.v < 0 then -(s.v : Rat) else s.v
  let full := (absV / 65536) / ((dec : Rat) / 4194304) * 300000
  let r : Ramp := ⟨s.p, s.v, s.a, dec, min (blendT : Rat) full, 0⟩
  { r with rest := r.restTime }

/-- Where the ramp comes to rest. -/
def Ramp.restPos (r : Ramp) : Int :=
  if r.v = 0 then r.p else (PVA.setp ⟨(r.at (ticksOf r.rest)).p, 0, 0⟩).p

/-! ### The walk along a move's segments (R95-R106) -/

/-- What happens as profile time advances: a segment with NOTE becomes active, the move ends, a segment is missing or
invalid at a joint with the state there. -/
inductive PEv where
  | mark
  | done (pos : Int)
  | underrun (at_ : Setp)
  | segFault (at_ : Setp)
deriving DecidableEq, Repr

/-- The state at the end of a running segment, with the acceleration its curve ends with. -/
def SegRun.joint (r : SegRun) : Setp :=
  let x := r.at (ticksOf r.stop)
  ⟨r.seg.endPos, r.seg.endVel, (PVA.setp x).a⟩

/-- The window of the joint after the running segment, judged at the first cutoff at which it could open (R100, R101). After a
LAST segment with no table pending (`more` = 0) the move ends, and there is no joint (R105). -/
def decideJoint (bt more : Nat) (m : Motion) (q : List QSeg) (tau : Nat) : Motion :=
  match m.cur, m.nextB with
  | some c, none =>
    if tau + min bt c.seg.dur * 32768 ≥ c.stop then
      match q with
      | g :: _ =>
        if g.invalid || c.seg.noblend || (c.seg.last && more == 0) then { m with nextB := some 0 }
        else { m with nextB := some (min bt (min c.seg.dur g.dur)) }
      | [] => { m with nextB := some 0 }
    else m
  | _, _ => m

/-- Advance a move to a profile time: take up the segments that have begun. `more` counts the appended tables pending. Each round ends one segment, so the number of segments present bounds the rounds. -/
def walk (bt : Nat) (more : Nat) (tau : Nat) : Nat → Motion → List QSeg → Motion × List QSeg × List PEv
  | 0, m, q => (m, q, [])
  | k + 1, m, q =>
    let m := decideJoint bt more m q tau
    match m.cur with
    | none => (m, q, [])
    | some c =>
      if tau < c.stop then (m, q, [])
      else if c.seg.last && more == 0 then ({ m with cur := none, pre := none }, q, [.done c.seg.endPos])
      else match q with
        | [] =>
          if c.seg.last then ({ m with cur := none, pre := none, gap := true, prev := some c }, [], [])
          else (m, [], [.underrun c.joint])
        | g :: r =>
          if g.invalid then (m, q, [.segFault c.joint])
          else
            let m' := { m with cur := some (c.follow g), prev := some c, prevB := m.nextB.getD 0, nextB := none }
            let (m2, q2, e) := walk bt (if c.seg.last then more - 1 else more) tau k m' r
            (m2, q2, if g.note then .mark :: e else e)

end Sys2Proof.Machine
end

