-- ==== Sys2Proof/Machine/Chain.lean ====
section
/-! DEFINITION. The axis chain's shared operations: output states of the drive port, axis states, faults and their actions
(R84, R86-R92, R121, R164, R167, R250, R460). -/

namespace Sys2Proof.Machine

/-- AX_STATE.STATE of an axis (R88). -/
def State.axState (s : State) (n : Fin 48) : Nat := s.get (.ax n) AX.AX_STATE.STATE

/-- AX_STATE.HOLD of an axis (R89). -/
def State.axHold (s : State) (n : Fin 48) : Bool := s.flag (.ax n) AX.AX_STATE.HOLD

/-- AX_CFG.TYPE of an axis (R86). -/
def State.axType (s : State) (n : Fin 48) : Nat := s.get (.ax n) AX.AX_CFG.TYPE

/-- DP_STAT.OSTATE of a drive port (R250). -/
def State.ostate (s : State) (n : Fin 48) : Nat := s.get (.dp n) DP.DP_STAT.OSTATE

/-- The current-loop period of a group in ticks, by the LOOP_RATE in force (R159, R160). -/
def State.curPer (s : State) (k : Fin 12) : Nat := fld s.cars[k].rate 15 0

/-- The servo period P of a group in ticks: SRV_N x CUR_PER (R159, R160). -/
def State.groupP (s : State) (k : Fin 12) : Nat := fld s.cars[k].rate 20 16 * s.curPer k

/-- The servo period of an axis's group. -/
def State.servoP (s : State) (n : Fin 48) : Nat :=
  s.groupP (aeOf n)

/-- A setpoint's position, velocity and acceleration as SETP_POS, SETP_VEL and SETP_ACC show it. -/
def State.setp (s : State) (n : Fin 48) : Setp :=
  ⟨s.getI (.ax n) AX.SETP_POS.VALUE, s.getI (.ax n) AX.SETP_VEL.VALUE, s.getI (.ax n) AX.SETP_ACC.VALUE⟩

/-- The level commanded just before a place in 1/64 tick, and the place of the last transition before it. -/
def Wave.before (w : Wave) (x : Nat) : Bool × Option Nat :=
  let s0 := w.start * 64
  if w.rise < w.fall ∧ s0 + w.fall < x then (false, some (s0 + w.fall))
  else if w.rise < w.fall ∧ s0 + w.rise < x then (true, if w.rise = 0 ∧ w.was then w.edge else some (s0 + w.rise))
  else if w.was ∧ s0 < x then (false, some s0)
  else (w.was, w.edge)

/-- The next command of an output, from a tick on: a pulse from `rise` to `fall` in 1/64 tick after it. -/
def Wave.next (w : Wave) (now : Nat) (e : Nat × Nat) : Wave :=
  let b := w.before (now * 64)
  { start := now, rise := e.1, fall := e.2, was := b.1, edge := b.2 }

/-- The outputs fall directly, without dead time (R259); where one was commanded high, that is an edge at this tick, else the last
edge stays the last (R260). -/
def DrivePort.cut (d : DrivePort) (now : Nat) : DrivePort :=
  { d with waves := Vector.replicate 4 Wave.low
           cutAt := if d.waves.any (fun w => (w.before (now * 64 + 1)).1) then some now
             else (d.waves.toList.filterMap (fun w => (w.before (now * 64 + 1)).2.map (fun e => e / 64))).foldl
               (fun m e => some (max (m.getD 0) e)) d.cutAt }

/-- The words HOLD_LOW and TRIPPED clear: shadow and active duty words and the chopper's phases (R250). -/
def State.dpClear (s : State) (n : Fin 48) : State :=
  let s := forEach [0, 1, 2, 3] (fun i s => s.put (.dp n) (DP.DUTY.VALUE.nth i) 0) s
  s.updDp n (fun d => { d.cut s.now with
    shadow := Vector.replicate 4 0, popped := false, coilA := Coil.reset, coilB := Coil.reset })

/-- Put a drive port into HOLD_LOW (1) or TRIPPED (3) (R250). -/
def State.dpEnter (s : State) (n : Fin 48) (o : Nat) : State := (s.dpClear n).put (.dp n) DP.DP_STAT.OSTATE o

/-- Clear what an axis's kernels hold for its integrators (R164, R167). -/
def State.clearInteg (s : State) (n : Fin 48) : State :=
  s.updAx n (fun a => { a with kern := { a.kern with integ := 0, dv := 0, xd := 0, xq := 0 } })

/-- A gear is left: GSTATE and RAMP read 0, and there is no lag (R132, R147). NEXT keeps its last value; while a gear disengages it
reads 8 (DESIGN CHOICE, log 47). -/
def State.ungear (s : State) (n : Fin 48) : State :=
  (((s.updAx n (fun a => { a with gear := none })).put (.ax n) AX.GEAR_STAT.GSTATE 0).put (.ax n) AX.GEAR_STAT.RAMP 0).put
    (.ax n) AX.GOV_LAG.VALUE 0

/-- The profile unit stops generating: motion, hardware queue, pending list and staged words go (R121). Commands that wait stay,
and are refused at their cutoff (R109). -/
def State.profStop (s : State) (n : Fin 48) : State :=
  let s := (s.updAx n (fun a => { a with hwq := [], tabs := [], mot := Motion.idle })).ungear n
  let s := forEach [AX.SEG_W0.DUR, AX.SEG_W1.END_POS, AX.SEG_W2.END_VEL] (fun f s => s.put (.ax n) f 0) s
  let s := (s.setWord (.ax n) 0xA8 0).put (.ax n) AX.PROF_STAT.QOCC 0
  (s.put (.ax n) AX.PROF_STAT.PEND 0).put (.ax n) AX.PROF_STAT.PSTATE 0

/-- The capture of an axis ends with a reason (R174, R176, R177). -/
def State.capEnd (s : State) (n : Fin 48) (why : Nat) : State :=
  if s.axes[n].dice.capRun then
    let s := s.updAx n (fun a => { a with dice := { a.dice with capRun := false } })
    ((s.put (.ax n) AX.CAP_STAT.STATE (if why = 1 then 2 else 3)).put (.ax n) AX.CAP_STAT.END why).fire (.ax n) 31
  else s

/-- The dice signal of an axis ends, and drops to zero (R173, R174, R176). -/
def State.diceEnd (s : State) (n : Fin 48) : State :=
  if s.axes[n].dice.run then
    (s.updAx n (fun a => { a with
      dice := { a.dice with run := false }
      kern := { a.kern with recd := a.kern.recd.set 12 0 } })).fire (.ax n) 31
  else s

/-- An axis enters state 4, with HOLD or without (R88, R89). -/
def State.axFaulted (s : State) (n : Fin 48) (hold : Bool) : State :=
  let s := ((s.put (.ax n) AX.AX_STATE.STATE 4).put (.ax n) AX.AX_STATE.HOLD (b2n hold)).capEnd n 3
  if hold then s
  else
    let s := s.clearInteg n
    let s := (s.updAx n (fun a => { a with
      mot := Motion.idle
      kern := { a.kern with engRamp := none, engHold := false } })).ungear n
    let s := s.put (.ax n) AX.PROF_STAT.PSTATE 0
    s.doIf (s.ostate n == 2) (fun s => s.dpEnter n 1)

/-- Cause 5: the drive port is disabled or its port enable is low (R88, R89). -/
def State.axCause5 (s : State) (n : Fin 48) : State :=
  match s.axState n with
  | 1 | 2 => (s.put (.ax n) AX.AX_STATE.CAUSE 5).axFaulted n false
  | 3 => s.axFaulted n false
  | 4 => if s.axHold n then s.axFaulted n false else s
  | _ => s

/-- Change a converter's working values. -/
def State.updAdc (s : State) (u : Fin 6) (f : AdcPart → AdcPart) : State := { s with adcs := s.adcs.set u (f s.adcs[u]) }

/-- The input that entry `i` selects, by the configuration in force (R290, R296). -/
def State.adcInput (s : State) (u : Fin 6) (i : Nat) : Nat := fld (s.adcs[u].seq[i % 32]'(Nat.mod_lt _ (by decide))) 4 0

/-- Whether an entry converts a current of a port. -/
def State.adcServes (s : State) (n : Fin 48) (i : Nat) : Bool :=
  let j := s.adcInput (adcOf n) i
  decide (j < 16) && 8 * (adcOf n).val + j / 2 == n.val

/-- A port's carrier stops: the period in progress never completes, and its entries push nothing until it starts again (R252, R294,
R295). -/
def State.adcStops (s : State) (n : Fin 48) : State :=
  s.updAdc (adcOf n) (fun a => { a with
    ents := Vector.ofFn (fun i =>
      if s.adcServes n i.val then { a.ents[i] with sum := 0, cnt := 0, pushed := true, skip := true } else a.ents[i]) })

/-- A drive port's EN is cleared: OFF, its DQ flushed, and cause 5 for its axis (R84, R88, R250). A trip validated in the same
cycle is then not latched (R263). -/
def State.dpDisable (s : State) (n : Fin 48) : State :=
  let s := s.put (.dp n) HDR.CTRL.EN 0
  let s := match s.ports[n].latched with
    | some (t, was) => s.doIf (t == s.now) (fun s => s.unfire (.dp n) 0 was)
    | none => s
  let s := s.updDp n (fun d => { d with
    latched := none, forced := false, cbcHit := false, cbcPrev := false, cbcDue := false, rearmAt := none, tripDone := false })
  let s := (((s.dpClear n).put (.dp n) DP.DP_STAT.OSTATE 0).adcStops n).qFlush (.dq n)
  s.axCause5 n

/-- The action CHAIN_LIM.FAULT_ACT names for an axis; a TYPE 4 axis disables its port at once (R92, R166). -/
def State.faultAct (s : State) (n : Fin 48) : Nat :=
  if s.axType n = 4 then 2 else min 2 (s.get (.ax n) AX.CHAIN_LIM.FAULT_ACT)

/-- The engine takes the setpoint over from the profile unit for a stop ramp from the setpoint state the kernel used (R92). -/
def State.engineRamp (s : State) (n : Fin 48) : State :=
  let ramp := mkRamp s.axes[n].kern.setp (s.getI (.ax n) AX.STOP_DEC.DEC) (s.get (.ax n) AX.PROF_CFG.BLEND_T)
  (s.profStop n).updAx n (fun a => { a with
    sup := { a.sup with rampDue := false }
    kern := if a.kern.engRamp.isSome then a.kern else { a.kern with engRamp := some ramp, engTau := 0, engHold := false } })

/-- Whether a fault of a cause falls into the servo cycle in which FE_FAULT put the axis into its fault: CAUSE then holds that
cause (R171, R460). -/
def State.feOutranked (s : State) (n : Fin 48) (cause : Nat) : Bool :=
  cause != 7 && s.axes[n].sup.feAt == some s.axes[n].kern.cycle

/-- A fault of cause 1-4, 6 or 7 with its action (R88, R92, R121, R460). In states 1 and 2 the axis enters state 3 and the
action starts: at once for a disabling action, else a ramp by the profile unit (cause 7, at the next cutoff) or by the
engine (other causes, from the setpoint state the kernel used). In state 3 the harsher action applies. In state 4 with HOLD
the drive port is disabled. -/
def State.raiseFault (s : State) (n : Fin 48) (cause act : Nat) : State :=
  match s.axState n with
  | 1 | 2 =>
    let s := ((s.put (.ax n) AX.AX_STATE.STATE 3).put (.ax n) AX.AX_STATE.CAUSE cause).capEnd n 3
    let s := (s.ungear n).updAx n (fun a => { a with
      sup := { a.sup with act := act, rampDue := cause == 7 && act != 2, feAt := none } })
    let s := s.doIf (cause != 7) (fun s => s.engineRamp n)
    s.doIf (act == 2) (fun s => s.dpDisable n)
  | 3 =>
    let s := s.doIf (s.feOutranked n cause) (fun s => (s.put (.ax n) AX.AX_STATE.CAUSE cause).engineRamp n)
    let s := s.updAx n (fun a => { a with sup := { a.sup with act := max a.sup.act act } })
    s.doIf (act == 2) (fun s => s.dpDisable n)
  | 4 =>
    let s := s.doIf (s.feOutranked n cause) (fun s => s.put (.ax n) AX.AX_STATE.CAUSE cause)
    s.doIf (s.axHold n) (fun s => s.dpDisable n)
  | _ => s

/-- The fault action's ramp has come to rest: hold in state 4 with HOLD = 1, or disable the port (R89, R121). -/
def State.faultRested (s : State) (n : Fin 48) : State :=
  if s.axes[n].sup.act = 0 ∧ s.runs (.dp n) ∧ s.flag (.dp n) DP.DP_STAT.PEN then s.axFaulted n true else s.dpDisable n

/-- An axis goes to state 0 (R88): the profile unit stops, dice and capture end (R174), and the port falls to HOLD_LOW. -/
def State.axOff (s : State) (n : Fin 48) : State :=
  let s := ((s.profStop n).diceEnd n).capEnd n 3
  let s := ((s.put (.ax n) AX.AX_STATE.STATE 0).put (.ax n) AX.AX_STATE.HOLD 0).put (.ax n) AX.AX_STATE.CAUSE 0
  let s := s.doIf (s.ostate n == 2) (fun s => s.dpEnter n 1)
  s.updAx n (fun a => { a with
    kern := { a.kern with engRamp := none, engHold := false }
    sup := { a.sup with rampDue := false, feTimer := 0, feAt := none }
    sol := 0
    doneDue := false })

/-- The queues that end at a block (R77, R84, R125, R150). -/
def State.queuesOf (s : State) : Pg → List QId
  | .ax n => [.pq n, .mq n] ++ (((List.finRange 48).filter (fun i =>
      s.get (.ax i) AX.GEAR_CFG.MSRC == 2 && s.get (.ax i) AX.GEAR_CFG.MIDX == n.val)).map QId.mq)
  | .fb n => ((List.finRange 48).filter (fun i => s.fbPort i == some n)).map QId.fq ++
      ((List.finRange 48).filter (fun i => s.get (.ax i) AX.GEAR_CFG.MSRC == 1 && s.get (.ax i) AX.GEAR_CFG.MIDX == n.val)).map QId.mq
  | .dp n => [.dq n]
  | .ae k => (axesOf k).flatMap (fun n => [.pq n, .fq n, .dq n, .oq n]) ++ [.cq k]
  | .pe => (List.finRange 48).map QId.oq ++
      ((List.finRange 48).filter (fun i => s.get (.ax i) AX.GEAR_CFG.MSRC == 3)).map QId.mq
  | .adc u => [.cq ⟨2 * u.val, by omega⟩, .cq ⟨2 * u.val + 1, by omega⟩]
  | _ => []

/-- QUEUE_FLUSH (R84): every queue with an end at the block is emptied. -/
def State.flushBlock (s : State) (p : Pg) : State := forEach (s.queuesOf p) (fun q s => s.qFlush q) s

/-- An AX page's EN is cleared: the axis goes to state 0, PQ and MQ are flushed, and the conditions that count from the last
enabling start anew (R84, R87, R88). -/
def State.axDisable (s : State) (n : Fin 48) : State :=
  let s := (s.axOff n).updAx n (fun a => { a with sup := { a.sup with fbOk := [], cfgBad := false } })
  (s.qFlush (.pq n)).qFlush (.mq n)

end Sys2Proof.Machine
end

