-- ==== Sys2Proof/Machine/Recorder.lean ====
section
/-! DEFINITION. The event recorder: probes, records, the resolution ladder, triggers, captures, readout and the Baon bus
(R361-R381). -/

namespace Sys2Proof.Machine

/-- Change the recorder's working state. -/
def State.updRec (s : State) (f : RecPart → RecPart) : State := { s with recd := f s.recd }

/-- REC_STAT.STATE: 0 IDLE, 1 ARMED, 2 TRIGGERED, 3 DONE. -/
def State.recState (s : State) : Nat := s.get (.recorder 0) REC0.REC_STAT.STATE

/-- Whether a capture is in progress. -/
def State.capturing (s : State) : Bool := s.runs (.recorder 0) && (s.recState == 1 || s.recState == 2)

/-! ### Records (R363-R367) -/

/-- Words in the FIFO. -/
def fifoWords (l : List RecEnt) : Nat := l.foldl (fun n e => n + e.words.length) 0

/-- Put a record at its place: by tag, then by class, then in order of writing (R363). -/
def fifoIns (e : RecEnt) : List RecEnt → List RecEnt
  | [] => [e]
  | x :: l => if e.key < x.key ∨ (e.key = x.key ∧ e.cls < x.cls) then e :: x :: l else x :: fifoIns e l

/-- Word 0 of a record: KIND and the tag (R363). -/
def recWord0 (kind key : Nat) : Word := BitVec.ofNat 36 (kind <<< 32 ||| key % 2 ^ 32)

/-- Add a record; the ladder watches the FIFO's filling (R366). -/
def State.recAdd (s : State) (e : RecEnt) : State :=
  s.updRec (fun r =>
    let l := fifoIns e r.fifo
    let n := fifoWords l
    { r with
      fifo := l
      winMax := max r.winMax n
      high := r.high || decide (768 ≤ n) })

/-- Whether the FIFO has room for a change or analog record outside its reserve of 64 words (R366). -/
def State.recFits (s : State) (e : RecEnt) : Bool := decide (fifoWords s.recd.fifo + e.words.length ≤ 960)

/-- Add a change or analog record; where the FIFO is full outside its reserve it is lost (R366, R367). -/
def State.recAddLossy (s : State) (e : RecEnt) : State :=
  if s.recFits e then s.recAdd e
  else
    let s := (s.inc (.recorder 0) REC0.REC_STAT.LOST).updRec (fun r => { r with lossCnt := r.lossCnt + 1 })
    s.fire (.recorder 0) 0

/-- The LOSS record that is owed (R367). -/
def State.recOwed (s : State) : State :=
  if s.recd.lossCnt = 0 then s
  else
    (s.recAdd { key := s.timeC, cls := 1, words := [recWord0 6 s.timeC, wordU (s.recd.lossCnt : Int)], prim := false,
                at_ := s.now }).updRec (fun r => { r with lossCnt := 0 })

/-- A LOSS record, as soon as the FIFO has room for it: it may take the reserve (R366, R367). -/
def State.recLoss (s : State) : State := if fifoWords s.recd.fifo + 2 ≤ 1024 then s.recOwed else s

/-- A TIME record for this tick (R363, R364). -/
def State.recTime (s : State) : State :=
  let t := time72 s.nowT
  s.recAdd { key := s.timeC, cls := 0, words := [recWord0 4 s.timeC, BitVec.ofNat 36 (s.timeC / 2 ^ 32 % 2 ^ 32), t.1, t.2],
             prim := false, at_ := s.now }

/-- A change record: levels, the mask of probes that changed twice or more, the measurement (R363). -/
def chgRec (key k : Nat) (lvl multi : BitVec 32) (meas : Option Nat) (now : Nat) : RecEnt :=
  let kind := match multi == 0, meas with
    | true, none => 1
    | true, some _ => 2
    | false, none => 3
    | false, some _ => 7
  let m : List Word := if multi = 0 then [] else [multi.setWidth 36]
  let v : List Word := match meas with
    | some x => [BitVec.ofNat 36 (min x (2 ^ 36 - 1))]
    | none => []
  { key := key, cls := 1, words := [recWord0 kind key, BitVec.ofNat 36 (k <<< 32 ||| lvl.toNat)] ++ m ++ v, prim := false, at_ := now }

/-- An analog record (R363). -/
def anaRec (i : Fin 4) (key : Nat) (v : Int) (now : Nat) : RecEnt :=
  { key := key, cls := 2, words := [recWord0 (8 + i.val) key, wordS v], prim := false, at_ := now }

/-- A probe changes at an instant (R361, R365). -/
def RecPart.change (r : RecPart) (i : Fin 32) (tick t : Nat) (level : Bool) : RecPart :=
  let b : BitVec 32 := BitVec.ofNat 32 (1 <<< i.val)
  { r with
    lvl := r.lvl ^^^ b
    lvlWas := if r.lvlTick = tick then r.lvlWas else r.lvl
    lvlTick := tick
    multi := r.multi ||| (r.chg &&& b)
    chg := r.chg ||| b
    lastChg := r.lastChg.set i (some t)
    prevChg := r.prevChg.set i r.lastChg[i]
    rise := if level then r.rise.set i (some t) else r.rise
    period := if level then r.period.set i (r.rise[i].map (fun p => t - p)) else r.period }

/-- The measurement that the last change of the measured probe gives (R365); where the manual states none, a free value. -/
def RecPart.measure (r : RecPart) (i : Fin 32) (mode : Nat) : RecPart :=
  let t := r.lastChg[i].getD 0
  let free := (Config.freeInt 21 [mode, t]).toNat
  let v := match mode with
    | 1 => (r.prevChg[i].map (fun p => t - p)).getD free
    | 2 => r.period[i].getD free
    | _ => r.chgCnt + 1
  { r with chgCnt := r.chgCnt + 1, meas := some v }

/-- The instant at which the straight line between two conversions crosses a threshold, in 1/64 tick (R368). -/
def crossAt (p q : Int × Nat) (th : Int) : Nat :=
  p.2 * 64 + (roundQ (((th - p.1) * (((q.2 - p.2) * 64 : Nat) : Int) : Int) / ((q.1 - p.1 : Int) : Rat))).toNat

/-- What a runt (TYPE 3) or slew (TYPE 4) unit makes of two conversions in a row, for rising crossings of LO and HI (R368). -/
def TrgUnit.follow (u : TrgUnit) (ty mode : Nat) (lo hi : Int) (t1 t2 : Nat) (p q : Int × Nat) : TrgUnit :=
  let up := fun (th : Int) => decide (p.1 < th) && decide (th ≤ q.1)
  let down := decide (lo ≤ p.1) && decide (q.1 < lo)
  if ty = 3 then
    if up lo then { u with begun := some (crossAt p q lo), reach := decide (hi ≤ q.1) }
    else if down then
      { u with begun := none, due := if u.begun.isSome && !u.reach then some (crossAt p q lo) else u.due }
    else { u with reach := u.reach || decide (hi ≤ q.1) }
  else
    let b := if up lo then some (crossAt p q lo) else if down then none else u.begun
    match up hi, b with
    | true, some a =>
      let d := crossAt p q hi - a
      { u with begun := none, due := if (if mode = 0 then d < t1 else t2 < d) then some (crossAt p q hi) else u.due }
    | _, _ => { u with begun := b }

/-- A conversion of an analog probe reaches the runt and slew units that watch it; POL 1 is the mirror image of POL 0 (R368). -/
def State.trgConv (s : State) (a : Fin 4) (v : Int) (inst : Nat) : State :=
  match s.recd.aps[a].conv with
  | none => s
  | some (v0, t0) =>
    s.updRec (fun r => { r with trg := Vector.ofFn (fun i =>
      let o := 0x40 + 0x40 * i.val
      let w := s.word (.recorder 2) o
      let ty := fld w 34 32
      let lo := (s.word (.recorder 2) (o + 0x08)).toInt
      let hi := (s.word (.recorder 2) (o + 0x10)).toInt
      let t := fun k => (s.word (.recorder 2) (o + k)).toNat
      if (ty = 3 ∨ ty = 4) ∧ fld w 23 22 = a.val then
        (if fld w 29 29 = 0 then r.trg[i].follow ty (fld w 31 30) lo hi (t 0x18) (t 0x20) (v0, t0) (v, inst)
         else r.trg[i].follow ty (fld w 31 30) (-hi) (-lo) (t 0x18) (t 0x20) (-v0, t0) (-v, inst))
      else r.trg[i]) })

/-- A conversion of an entry reaches the analog probes that take it, with the count C of its sample instant (R362). -/
def State.recAnalog (s : State) (u : Fin 6) (entry : Nat) (v : Int) (inst : Nat) : State :=
  forEach (List.finRange 4) (fun i s =>
    let w := s.word (.recorder 1) (0x200 + 8 * i.val)
    s.doIf (fld w 35 35 == 1 && fld w 34 32 == u.val && fld w 31 27 == entry)
      (fun s => (s.trgConv i v inst).updRec (fun r => { r with
        aps := r.aps.set i { r.aps[i] with cur := some (v, inst), conv := some (v, inst) } }))) s

/-- The analog record of a window, where the value moved by DEADBAND or more (R362, R366). -/
def State.recAp (s : State) (i : Fin 4) : State :=
  let a := s.recd.aps[i]
  match a.cur with
  | none => s
  | some (v, t) =>
    let s := s.updRec (fun r => { r with aps := r.aps.set i { r.aps[i] with cur := none } })
    let dead := s.get (.recorder 1) (REC1.DBAND.DEADBAND.nth i.val)
    let far := match a.last with
      | none => true
      | some l => decide (dead ≤ (v - l).natAbs)
    let e := anaRec i t v s.now
    if !far then s
    else if s.recFits e then
      (s.recAdd e).updRec (fun r => { r with aps := r.aps.set i { r.aps[i] with last := some v } })
    else s.recAddLossy e

/-- The ladder at the end of a window (R366, R381). -/
def State.recLadder (s : State) : State :=
  let k := s.get (.recorder 0) REC0.REC_STAT.K_NOW
  let r := s.recd
  let low := if r.winMax ≤ 128 then r.lowRun + 1 else 0
  let set := fun (k : Nat) (s : State) =>
    let s := (s.put (.recorder 0) REC0.REC_STAT.K_NOW k).put (.recorder 0) REC0.REC_STAT.K_MAX
      (max k (s.get (.recorder 0) REC0.REC_STAT.K_MAX))
    s.updRec (fun r => { r with high := decide (768 ≤ fifoWords r.fifo), lowRun := 0 })
  if r.high ∧ k < s.get (.recorder 0) REC0.REC_CFG.LADDER_MAX ∧ s.timeC % 2 ^ (k + 1) = 0 then
    let s := set (k + 1) s
    if k = 0 ∧ ¬ s.raised (.recorder 0) 10 then s.fire (.recorder 0) 10 else s
  else if 0 < k ∧ 16 ≤ low then set (k - 1) s
  else s.updRec (fun r => { r with lowRun := low })

/-- REC_WINDOW_END (R366): the records of the window of 2^k ticks that ends at this tick, then the ladder. -/
def execRecWindowEnd (s : State) : Out :=
  if !s.capturing || s.timeC % 2 ^ s.get (.recorder 0) REC0.REC_STAT.K_NOW != 0 then .next s
  else
    let r := s.recd
    let k := s.get (.recorder 0) REC0.REC_STAT.K_NOW
    let s := if r.chg = 0 then s else s.recAddLossy (chgRec r.winStart k r.lvl r.multi r.meas s.now)
    let s := forEach (List.finRange 4) (fun i s => s.recAp i) s
    let s := s.recLoss.recLadder
    .next (s.updRec (fun r => { r with winStart := s.timeC, chg := 0, multi := 0, meas := none, winMax := fifoWords r.fifo }))

/-- Whether a TIME record is due at this tick: count bits 31:0 are zero, or TIME takes up a correction (R364, R405). -/
def State.timeMark (s : State) : Bool :=
  s.timeC % 2 ^ 32 == 0 || (s.get .time TIME.TIME_STAT.STATE != 0 && (s.timeC == s.lastCor || s.timeC == s.lastCor + 1))

/-- REC_TIME_MARK (R364): a TIME record where one is due. -/
def execRecTimeMark (s : State) : Out := .next (if s.capturing && s.timeMark then s.recTime else s)

/-! ### The ring (R374, R376) -/

/-- A write of the recorder to the store, in the world of its page (R376). -/
def State.recPut (s : State) (a : Nat) (w : Word) : Bool × State := s.xferWrite .block (s.pageSecure (.recorder 0)) a w

/-- The word after a ring word. -/
def RecPart.after (r : RecPart) (a : Nat) : Nat := if a + 1 < storeWords then a + 1 else r.base + 4

/-- Header words 0 and 1, in the registers and in the region (R374); a denied write ends it and updates neither register (R376). -/
def State.recHeader (s : State) : Bool × State :=
  let r := s.recd
  let w0 : Word := BitVec.ofNat 36 (s.recState <<< 34 ||| s.get (.recorder 0) REC0.REC_STAT.END <<< 31 ||| b2n r.wrap <<< 30 |||
    r.wptr % 2 ^ 22)
  let w1 : Word := match r.taddr with
    | some a => BitVec.ofNat 36 (1 <<< 35 ||| a)
    | none => 0
  match s.recPut r.base w0 with
  | (false, s) => (false, s)
  | (true, s) =>
    let (ok, s) := s.recPut (r.base + 1) w1
    (ok, s.doIf ok (fun s => (s.setWord (.recorder 0) 0x68 w0).setWord (.recorder 0) 0x70 w1))

/-- The capture ends in DONE, with its END (R372). -/
def State.recDone (s : State) (why : Nat) : State :=
  (s.put (.recorder 0) REC0.REC_STAT.STATE 3).put (.recorder 0) REC0.REC_STAT.END why

/-- A denied write ends the capture at once; the header is not updated (R376). -/
def State.recDenied (s : State) : State := ((s.recDone 4).updRec (fun r => { r with fifo := [] })).fire (.recorder 0) 1

/-- How writing a record went: all words written, a word denied, or the next word would overwrite the primary record. -/
inductive RingEnd where
  | ok | denied | full
deriving DecidableEq, Repr

/-- Write the words of a record into the ring (R372, R374). -/
def State.ringWords (s : State) : List Word → RingEnd × State
  | [] => (.ok, s)
  | w :: l =>
    let r := s.recd
    if r.taddr = some r.wptr then (.full, s)
    else
      let (ok, s) := s.recPut r.wptr w
      if ok then
        let s := s.updRec (fun r => { r with
          wptr := r.after r.wptr
          wrap := r.wrap || decide (storeWords ≤ r.wptr + 1) })
        State.ringWords s l
      else (.denied, s)

/-- Write records into the ring, in order; the first that fails ends it, and WPTR stays after the last complete one. -/
def State.ringRecs (s : State) : List RecEnt → RingEnd × State
  | [] => (.ok, s)
  | e :: l =>
    let a := s.recd.wptr
    let wrap := s.recd.wrap
    match s.ringWords e.words with
    | (.ok, s) =>
      let s := s.doIf e.prim (fun s => s.updRec (fun r => { r with taddr := some a }))
      State.ringRecs (s.updRec (fun r => { r with fifo := r.fifo.drop 1 })) l
    | (x, s) => (x, s.updRec (fun r => { r with wptr := a, wrap := wrap }))

/-- The whole FIFO goes to the ring, a LOSS record still owed behind it, then the header, and DONE fires (R367, R372). -/
def State.recFinish (s : State) (why : Nat) : State :=
  let s := s.recOwed
  match s.ringRecs s.recd.fifo with
  | (.denied, s) => s.recDenied
  | (e, s) =>
    let s := (s.recDone (if e = .full then 2 else why)).updRec (fun r => { r with fifo := [] })
    let (ok, s) := s.recHeader
    if ok then s.fire (.recorder 0) 9 else s.recDenied

/-- The records of one tablet: whole records of up to 14 words whose tags no later record can precede (R363, R367, R374). -/
def takeTablet (lim : Nat) : Nat → List RecEnt → List RecEnt
  | _, [] => []
  | room, e :: l =>
    if e.words.length ≤ room ∧ e.key < lim then e :: takeTablet lim (room - e.words.length) l else []

/-- The count C that no record to come lies before (R363): the present window has begun, values under way from a converter were
sampled at most 50 ticks ago, a Baon firing lies BAON_DLY back (R379), and a runt or slew crossing lies after the last conversion of
its probe, which is waited for as long as a record may wait (DESIGN CHOICE, log 67). -/
def State.recLimit (s : State) : Nat :=
  let unit := fun (i : Nat) => s.word (.recorder 2) (0x40 + 0x40 * i)
  let dly := if s.get (.recorder 3) REC3.BAON_CFG.ROLE = 2 then (s.get (.recorder 3) REC3.BAON_DLY.DLY + 63) / 64 else 0
  let convs := (List.range 4).filterMap (fun i =>
    let w := unit i
    if fld w 35 35 = 1 ∧ (fld w 34 32 = 3 ∨ fld w 34 32 = 4) then
      (s.recd.aps[fld w 23 22 % 4]'(Nat.mod_lt _ (by decide))).conv.map (fun c => max c.2 (s.timeC - 3000))
    else none)
  convs.foldl min (min s.recd.winStart (s.timeC - max 50 dly))

/-- Whether REC requests a tablet: it holds 14 record words, or a record has waited 3,000 ticks (R367). -/
def State.recWants (s : State) : Bool :=
  decide (14 ≤ fifoWords s.recd.fifo) || s.recd.fifo.any (fun e => decide (e.at_ + 3000 ≤ s.now))

/-- REC_DRAIN (R367): a tablet of records and header words 0 and 1, where REC requests one. -/
def execRecDrain (s : State) : Out :=
  if !s.capturing || !s.recWants then .next s
  else
    let l := takeTablet s.recLimit 14 s.recd.fifo
    if l.isEmpty then .next s
    else match s.ringRecs l with
      | (.denied, s) => .next s.recDenied
      | (.full, s) => .next (s.recFinish 2)
      | (.ok, s) =>
        let (ok, s) := s.recHeader
        .next (if ok then s.recLoss else s.recDenied)

/-! ### Triggers (R368-R373) -/

/-- A TRIG record of an instant (R363, R369). -/
def State.trigRec (s : State) (unit inst : Nat) (prim : Bool) : RecEnt :=
  let n := inst / 64
  let t := time72 (s.timeAtTap n (inst % 64))
  { key := n, cls := 3, words := [recWord0 5 n, BitVec.ofNat 36 (unit <<< 32 ||| b2n prim <<< 31 ||| inst % 64), t.1, t.2],
    prim := prim, at_ := s.now }

/-- The primary mark leaves the records still in the FIFO. -/
def unPrime (l : List RecEnt) : List RecEnt :=
  l.map (fun e => if e.prim then
    { e with prim := false, words := e.words.modify 1 (fun w => w &&& ~~~ BitVec.ofNat 36 (1 <<< 31)) } else e)

/-- The capture trigger (R371, R372); a master with TX then has an emission due (R379). -/
def State.recTrigger (s : State) (unit inst : Nat) : State :=
  let tx := s.get (.recorder 3) REC3.BAON_CFG.ROLE == 1 && s.flag (.recorder 3) REC3.BAON_CFG.TX
  let s := s.updRec (fun r => { r with
    prim := some (unit, inst, s.now)
    trigWas := if r.prim.isNone then s.raised (.recorder 0) 8 else r.trigWas
    emit := tx })
  if s.recState = 1 then (s.put (.recorder 0) REC0.REC_STAT.STATE 2).fire (.recorder 0) 8 else s

/-- Whether a firing is the capture trigger: the first of a capture, or an earlier one of the same tick; FORCE, numbered 4, loses
every tie (R371). With SEQ a firing counts from a later instant than TRG0's on (DEDUCED, log 67). -/
def State.recPrimary (s : State) (unit inst : Nat) : Bool :=
  let seqOk := !s.flag (.recorder 0) REC0.REC_CFG.SEQ ||
    (unit != 0 && (match s.recd.seq0 with
      | some t => decide (t < inst) && (s.get (.recorder 0) REC0.REC_SEQW.SEQ_WIN == 0 ||
          decide (inst ≤ t + 64 * s.get (.recorder 0) REC0.REC_SEQW.SEQ_WIN))
      | none => false))
  seqOk && (match s.recState, s.recd.prim with
    | 1, _ => true
    | 2, some (u, i, t) => t == s.now && (decide (inst < i) || (inst == i && decide (unit < u)))
    | _, _ => false)

/-- Whether a unit fires again within 64 ticks of its previous firing: such a firing writes no record (R370). -/
def RecPart.again (r : RecPart) (i : Fin 4) (inst : Nat) : Bool := r.fired[i].any (fun t => decide (inst ≤ t + 64 * 64))

/-- A unit fires at an instant (R370, R371). -/
def State.unitFire (s : State) (i : Fin 4) (inst : Nat) : State :=
  let again := s.recd.again i inst
  let prim := s.recPrimary i.val inst
  let s := s.updRec (fun r => { r with
    fired := r.fired.set i (some inst)
    seq0 := if i.val = 0 then some inst else r.seq0
    fifo := if prim then unPrime r.fifo else r.fifo })
  let s := if prim then s.recTrigger i.val inst else s
  if again then s else s.recAdd (s.trigRec i.val inst prim)

/-- Whether POST_T ticks have passed since the primary instant (R372). -/
def State.postOver (s : State) : Bool :=
  match s.recd.prim with
  | some (_, inst, _) => decide (inst + 64 * s.get (.recorder 0) REC0.REC_POST.POST_T ≤ 64 * s.timeC)
  | none => false

/-- CAPTURE_POST_EXPIRY (R372): POST_T ticks have passed since the primary instant. -/
def execCapturePostExpiry (s : State) : Out :=
  .next (if s.runs (.recorder 0) && s.recState == 2 && s.postOver then s.recFinish 1 else s)

/-- STOP (R372, R373): a unit's firing of the same tick is no capture trigger. -/
def State.recStop (s : State) : State :=
  let s := match s.recd.prim with
    | some (u, _, t) =>
      if u < 4 ∧ t = s.now then
        (s.updRec (fun r => { r with fifo := unPrime r.fifo, prim := none, emit := false })).unfire (.recorder 0) 8 s.recd.trigWas
      else s
    | none => s
  (s.recFinish 3).updRec (fun r => { r with stopAt := some s.now })

/-- A unit fires in the tick of the STOP that has ended its capture: its record follows the last one, with PRIMARY 0 (R373). -/
def State.lateFire (s : State) (i : Fin 4) (inst : Nat) : State :=
  let again := s.recd.again i inst
  let s := s.updRec (fun r => { r with fired := r.fired.set i (some inst) })
  if again then s
  else match s.ringRecs [s.trigRec i.val inst false] with
  | (.denied, s) => s.recDenied
  | (_, s) => s.recHeader.2

/-- ARM (R364, R372, R374): the ring restarts at CAP_BASE with the header and the first records. -/
def State.recArm (s : State) : State :=
  let base := s.get .arb ARB.STORE_CFG.CAP_BASE * 4096
  let t := time72 s.nowT
  let s := s.setWord (.recorder 0) 0x60 (BitVec.ofNat 36 (1 <<< 34))
  let lvl := s.recd.lvl
  let s := s.updRec (fun r => { RecPart.reset with
    lvl := r.lvl
    lastChg := r.lastChg
    prevChg := r.prevChg
    rise := r.rise
    period := r.period
    lvlWas := r.lvlWas
    lvlTick := r.lvlTick
    trg := r.trg
    aps := r.aps.map (fun a => { a with last := none, cur := none })
    armC := s.timeC
    winStart := s.timeC
    base := base
    wptr := base + 4
    armT := t
    measuring := r.measuring
    clkLost := r.clkLost
    pulseC := r.pulseC
    trigSeen := r.trigSeen })
  let (ok1, s) := s.recHeader
  let (ok2, s) := s.recPut (base + 2) t.1
  let (ok3, s) := s.recPut (base + 3) t.2
  if !(ok1 && ok2 && ok3) then s.recDenied
  else
    let s := s.recTime.recAdd (chgRec s.timeC 0 lvl 0 none s.now)
    forEach (List.finRange 4) (fun i s =>
      let w := s.word (.recorder 1) (0x200 + 8 * i.val)
      match fld w 35 35, nthPg Pg.adc (fld w 34 32) with
      | 1, some p =>
        let v := (s.word p (0x400 + 8 * fld w 31 27)).toInt
        (s.recAdd (anaRec i s.timeC v s.now)).updRec (fun r => { r with aps := r.aps.set i { r.aps[i] with last := some v } })
      | _, _ => s) s

/-- Whether a unit's firing of this tick, which follows the tick's commands, has made the capture TRIGGERED (R373). -/
def State.recUnitNow (s : State) : Bool :=
  s.recState == 2 && s.recd.prim.any (fun p => decide (p.1 < 4) && p.2.2 == s.now)

/-- REC_CMD (R372): in any other state CMD_REFUSED fires. A FORCE of a tick comes before its firings (R373). -/
def State.recCommand (s : State) (op : Nat) : State :=
  let st := s.recState
  match op with
  | 1 => if st = 0 ∨ st = 3 then s.recArm else s.fire (.recorder 0) 11
  | 2 =>
    let inst := s.timeC * 64
    if st = 1 then (s.recTrigger 4 inst).recAdd (s.trigRec 4 inst true)
    else if s.recUnitNow then
      if s.recPrimary 4 inst then
        ((s.updRec (fun r => { r with fifo := unPrime r.fifo })).recTrigger 4 inst).recAdd (s.trigRec 4 inst true)
      else s.recAdd (s.trigRec 4 inst false)
    else s.fire (.recorder 0) 11
  | 3 => if st = 1 ∨ st = 2 then s.recStop else s.fire (.recorder 0) 11
  | _ => s

/-- A read of RD_DATA (R375): the word at RD_ADDR, which then moves on, from the last word to the ring's first. -/
def State.recRead (s : State) : Word × State :=
  let a := s.get (.recorder 0) REC0.RD_ADDR.ADDR
  let (w, s) := s.xferRead .block (s.pageSecure (.recorder 0)) a
  (w, s.put (.recorder 0) REC0.RD_ADDR.ADDR (s.recd.after a))

/-! ### The Baon bus (R378-R380) -/

/-- Whether a tick has a rising edge of a master's BAON_CLK: one every 12 ticks, on the common edges of R23 (R378). The common edges
are taken at the multiples of 60 of C (DEDUCED, log 67). -/
def baonEdge (c : Nat) : Bool := c % 12 == 0

/-- Whether a master's pulse on BAON_TRIG stands: 12 ticks (R379, R380). -/
def State.baonPulse (s : State) : Bool := s.recd.pulseC.any (fun c => decide (c ≤ s.timeC ∧ s.timeC < c + 12))

/-- Whether a slave's echo of BAON_TRIG stands on BAON_LOOP, `tap` sixty-fourths into the present tick: 48/64 tick behind (R380). -/
def State.baonEcho (s : State) (tap : Nat) : Bool :=
  s.recd.trigSeen.any (fun t => decide (t + 48 ≤ 64 * s.timeC + tap ∧ 64 * s.timeC + tap < t + 48 + 12 * 64))

/-- BAON_EMIT (R379): a master with TX drives BAON_TRIG high for 12 ticks from a BAON_CLK rising edge at least 2 ticks after its
capture trigger was detected, and records the edge. -/
def execBaonEmit (s : State) : Out :=
  if s.recd.emit && baonEdge s.timeC && s.recd.prim.any (fun p => decide (p.2.2 + 2 ≤ s.now)) && s.get (.recorder 3) REC3.BAON_CFG.ROLE == 1 && s.flag (.recorder 3) REC3.BAON_CFG.TX then
    let s := s.updRec (fun r => { r with emit := false, pulseC := some s.timeC })
    .next (if s.capturing then s.recAdd (s.trigRec 5 (s.timeC * 64) false) else s)
  else .next s

/-- BAON_TRIGGER_RECEIVED (R379): a slave's first high sample, at the clock edge of tap `tap`; its Baon units fire at that
instant less BAON_DLY. -/
def execBaonTriggerReceived (tap : Nat) (s : State) : Out :=
  let cfg := s.word (.recorder 3) 0x40
  if !s.runs (.recorder 3) || fld cfg 1 0 != 2 then .next s
  else
    let edge := s.timeC * 64 + tap % 64
    let s := s.updRec (fun r => { r with trigSeen := some edge })
    if fld cfg 3 3 == 1 || s.recd.clkLost then .next s
    else
      let inst := edge - s.get (.recorder 3) REC3.BAON_DLY.DLY
      .next (forEach (List.finRange 4) (fun i s =>
        let w := s.word (.recorder 2) (0x40 + 0x40 * i.val)
        s.doIf (fld w 35 35 == 1 && fld w 34 32 == 6) (fun s =>
          if s.capturing then s.unitFire i inst
          else if s.recd.stopAt = some s.now then s.lateFire i inst
          else s)) s)

/-- BAON_CMD.MEAS (R380): a master drives one pulse on BAON_TRIG, from the next BAON_CLK rising edge, and starts a round-trip
measurement. -/
def State.baonMeas (s : State) : State :=
  if s.get (.recorder 3) REC3.BAON_CFG.ROLE = 1 then
    s.updRec (fun r => { r with measuring := true, pulseC := some ((s.timeC + 11) / 12 * 12) })
  else s

/-- BAON_ECHO_RECEIVED (R380): the first rising edge on BAON_LOOP, `rt` 1/64 ticks after the pulse, within 1,000 ticks. -/
def execBaonEchoReceived (rt : Nat) (s : State) : Out :=
  if s.recd.measuring && decide (rt ≤ 64000) then
    let s := s.updRec (fun r => { r with measuring := false })
    .next (s.setWord (.recorder 3) 0x50 (BitVec.ofNat 36 (1 <<< 35 ||| rt % 2 ^ 22)))
  else .next s

/-- BAON_ECHO_TIMEOUT (R380): no echo within 1,000 ticks. -/
def execBaonEchoTimeout (s : State) : Out :=
  if s.recd.measuring && s.recd.pulseC.any (fun c => decide (c + 1000 ≤ s.timeC)) then
    .next ((s.updRec (fun r => { r with measuring := false })).put (.recorder 3) REC3.BAON_RT.FAIL 1)
  else .next s

/-- BAON_LOST (R378): a slave has seen no BAON_CLK edge for 1 µs. -/
def execBaonLost (s : State) : Out :=
  if s.runs (.recorder 0) && s.get (.recorder 3) REC3.BAON_CFG.ROLE == 2 && !s.recd.clkLost then
    .next ((s.updRec (fun r => { r with clkLost := true })).fire (.recorder 0) 13)
  else .next s

/-- BAON_CLK_RETURN (R378): edges return. -/
def execBaonClkReturn (s : State) : Out := .next (s.updRec (fun r => { r with clkLost := false }))

end Sys2Proof.Machine
end

