-- ==== Sys2Proof/Machine/Adc.lean ====
section
/-! DEFINITION. Current-sensing converters: the sequence, conversions, averages, CQ entries and offset calibration
(R289-R299). -/

namespace Sys2Proof.Machine

/-- A write has replaced ADC_CFG, a SEQi or an IN_CALj. -/
def State.adcNote (s : State) (u : Fin 6) (off : Nat) (old : Word) : State :=
  s.updAdc u (fun a => { a with prior := a.prior.filter (fun e => decide (s.now < e.2.2 + 64)) ++ [(off, old, s.now)] })

/-- The word of a register that an aperture opened at a tick goes by: writes of that tick and later ones come too late for it
(R296). -/
def State.adcWord (s : State) (u : Fin 6) (off tick : Nat) : Word :=
  match s.adcs[u].prior.find? (fun e => e.1 == off && decide (tick ≤ e.2.2)) with
  | some e => e.2.1
  | none => s.word (.adc u) off

/-- The converter takes up ADC_CFG as written for an aperture at a tick (R296). -/
def State.adcTakeCfg (s : State) (u : Fin 6) (tick : Nat) : State :=
  let w := s.adcWord u 0x40 tick
  (s.updAdc u (fun a => { a with cfg := w })).put (.adc u) ADC.ADC_STAT.LP_ACT (fld w 8 8)

/-- The tick at which the averaging period of an input began. -/
def State.adcPeriod (s : State) (u : Fin 6) (j : Nat) : Nat :=
  match nthPg Pg.dp (8 * u.val + j / 2) with
  | some (.dp n) => if j < 16 then s.ports[n].carStart else s.adcs[u].grpStart
  | _ => s.adcs[u].grpStart

/-- Whether the carrier that times an input has started at or after a tick. -/
def State.adcStarted (s : State) (u : Fin 6) (j tick : Nat) : Bool :=
  let live := match nthPg Pg.dp (8 * u.val + j / 2) with
    | some (.dp n) => decide (16 ≤ j) || s.ostate n != 0
    | _ => true
  live && decide (tick ≤ s.adcPeriod u j)

/-- The sequence words take effect for apertures from a tick on (R296). An entry whose INPUT changes starts its average again at the
next carrier start, and pushes from then on (R294, R295). -/
def State.adcTakeSeq (s : State) (u : Fin 6) (seq : Vector Word 32) (tick : Nat) : State :=
  s.updAdc u (fun a => { a with
    seq := seq
    ents := Vector.ofFn (fun i =>
      let late := !s.adcStarted u (fld seq[i] 4 0) tick
      if fld seq[i] 4 0 = fld a.seq[i] 4 0 then a.ents[i] else { AdcEnt.reset with pushed := late, skip := late }) })

/-- The sequence words as written for an aperture at a tick. -/
def State.adcWritten (s : State) (u : Fin 6) (tick : Nat) : Vector Word 32 :=
  Vector.ofFn (fun i => s.adcWord u (0x100 + 8 * i.val) tick)

/-- AVG of an entry: the mean of the last period's conversions, or LAST where it held none (R295). -/
def State.adcAvg (s : State) (u : Fin 6) (i : Fin 32) : State :=
  let e := s.adcs[u].ents[i]
  s.setWord (.adc u) (0x500 + 8 * i.val)
    (if e.pCnt = 0 then s.word (.adc u) (0x400 + 8 * i.val) else wordS (divRound e.pSum e.pCnt))

/-- A carrier start for an entry: the sums of a complete period become the last period's; after an incomplete one the last
complete period stays (R295). -/
def AdcEnt.roll (e : AdcEnt) : AdcEnt :=
  if e.skip then { e with sum := 0, cnt := 0, pushed := false, skip := false, part := true }
  else { sum := 0, cnt := 0, pSum := e.sum, pCnt := e.cnt, pushed := false, skip := false, part := false }

/-- A conversion is added to the present period of an entry, or to the last one where that was complete. -/
def AdcEnt.add (e : AdcEnt) (present : Bool) (r : Int) : AdcEnt :=
  if e.skip || (!present && e.part) then e
  else if present then { e with sum := e.sum + r, cnt := e.cnt + 1 }
  else { e with pSum := e.pSum + r, pCnt := e.pCnt + 1 }

/-- An averaging period of the entries whose input passes `p` ends (R295). -/
def State.adcRoll (s : State) (u : Fin 6) (p : Nat → Bool) : State :=
  forEach (List.finRange 32) (fun i s =>
    s.doIf (p (s.adcInput u i.val)) (fun s =>
      (s.updAdc u (fun a => { a with ents := a.ents.set i a.ents[i].roll })).adcAvg u i)) s

/-- A carrier period of a drive port starts: the averages and the CQ entries of its inputs (R294, R295). -/
def State.adcCarrier (s : State) (n : Fin 48) : State :=
  let u := adcOf n
  if s.runs (.adc u) then s.adcRoll u (fun j => decide (j < 16) && 8 * u.val + j / 2 == n.val) else s

/-- SEQUENCE_RESTART (R293, R296): the ACLK edge at or after a PWM sync of the unit's group. The apertures already opened
complete with the words they were opened with. -/
def execSequenceRestart (u : Fin 6) (s : State) : Out :=
  if s.runs (.adc u) && fld s.adcs[u].cfg 6 5 != 2 then
    let w := Vector.ofFn (fun (i : Fin 32) => s.word (.adc u) (0x100 + 8 * i.val))
    let s := (s.adcTakeCfg u (s.now + 1)).updAdc u (fun a => { a with restart := some (s.now, w), grpStart := s.now })
    .next (s.adcRoll u (fun j => decide (16 ≤ j)))
  else .next s

/-- The result of a code under an IN_CALj word, CUR36 (R292). -/
def adcResult (cal : Word) (c : BitVec 14) : Int :=
  let x : Int := (c.toNat : Int) - 8192 - sx 11 (fld cal 34 24)
  let r := satS 36 (x * fld cal 23 0 * 4)
  if fld cal 35 35 = 1 then satS 36 (-r) else r

/-- Ticks from the opening of an aperture to the result: 1 ACLK open and 9 ACLK of pipeline (R291). -/
def adcDelay : Nat := 50

/-- The entry that the next result belongs to: a restart applies to apertures that opened at or after it; with SYNC 2 the
written configuration applies from entry 0 (R293, R296). -/
def State.adcPoint (s : State) (u : Fin 6) : State :=
  let a := s.adcs[u]
  match a.restart with
  | some (t, w) =>
    if t + adcDelay ≤ s.now then
      (s.adcTakeSeq u w t).updAdc u (fun a => { a with restart := none, next := fld a.cfg 4 0 })
    else s
  | none =>
    let t := s.now - adcDelay
    if a.next % 32 = 0 ∧ fld a.cfg 6 5 = 2 then (s.adcTakeCfg u t).adcTakeSeq u (s.adcWritten u t) t else s

/-- The free-running averaging period of inputs 16 to 19 (R295): 1,875 ACLK with SYNC 2. -/
def State.adcFree (s : State) (u : Fin 6) : State :=
  let a := s.adcs[u]
  if fld a.cfg 6 5 = 2 then
    let c := a.aclk + (if fld a.cfg 8 8 = 1 then 4 else 1)
    if 1875 ≤ c then
      (s.updAdc u (fun a => { a with aclk := c - 1875, grpStart := s.now - adcDelay })).adcRoll u (fun j => decide (16 ≤ j))
    else s.updAdc u (fun a => { a with aclk := c })
  else s

/-- A code is added to a calibration in progress, to 1,024 codes per input (R297). -/
def calAdd (l : List (Nat × Int × Nat)) (j : Nat) (x : Int) : List (Nat × Int × Nat) :=
  l.map (fun e => if e.1 = j ∧ e.2.2 < 1024 then (e.1, e.2.1 + x, e.2.2 + 1) else e)

/-- ADC_CONVERSION (R291-R295): a code leaves the pipeline. -/
def execAdcConversion (u : Fin 6) (code : BitVec 14) (s : State) : Out :=
  if !s.runs (.adc u) then .next s
  else
    let s := (s.adcPoint u).adcFree u
    let i : Fin 32 := ⟨s.adcs[u].next % 32, Nat.mod_lt _ (by decide)⟩
    let w := s.adcs[u].seq[i]
    let j := fld w 4 0
    let push := fld w 8 8 == 1 && decide (j < 16)
    let res := adcResult (s.adcWord u (ADC.IN_CAL.OFS.nth j).off (s.now - adcDelay)) code
    let s := s.setWord (.adc u) (0x400 + 8 * i.val) (wordS res)
    let present := decide (s.adcPeriod u j + adcDelay ≤ s.now)
    let s := s.updAdc u (fun a => { a with
      next := (i.val + 1) % 32
      cal := calAdd a.cal j ((code.toNat : Int) - 8192)
      ents := a.ents.set i (a.ents[i].add present res) })
    let s := (s.adcAvg u i).recAnalog u i.val res (s.timeC - adcDelay)
    let s := s.doIf (push && (code == 0 || code == 16383)) (fun s => (s.inc (.adc u) ADC.ADC_STAT.CLIPS).fire (.adc u) 8)
    if push && present && !s.adcs[u].ents[i].pushed then
      let q : Fin 12 := ⟨2 * u.val + (j / 8) % 2, by omega⟩
      let e : List Word := [BitVec.ofNat 36 i.val, s.word (.adc u) (0x400 + 8 * i.val), s.word (.adc u) (0x500 + 8 * i.val)]
      let s := (s.qPush (.cq q) e).2
      .next (s.updAdc u (fun a => { a with ents := a.ents.set i { a.ents[i] with pushed := true } }))
    else .next s

/-- The inputs that the sequence's entries name. -/
def State.adcNamed (s : State) (u : Fin 6) : List Nat :=
  (List.range 20).filter (fun j => (List.range 32).any (fun i => s.adcInput u i == j))

/-- ADC_CMD ZERO (R297). -/
def State.adcZero (s : State) (u : Fin 6) : State :=
  let named := s.adcNamed u
  let ok := named.all (fun j => match nthPg Pg.ax (8 * u.val + j / 2) with
    | some (.ax n) => decide (16 ≤ j) || (decide (s.ostate n ≤ 1) && s.axState n == 0)
    | _ => true)
  if ok then
    (s.updAdc u (fun a => { a with cal := named.map (fun j => (j, 0, 0)) })).put (.adc u) ADC.ADC_STAT.CAL_BUSY 1
  else s.fire (.adc u) 10

/-- ADC_ZERO_DONE (R297): every named input has its 1,024 conversions. -/
def execAdcZeroDone (u : Fin 6) (s : State) : Out :=
  let l := s.adcs[u].cal
  if s.flag (.adc u) ADC.ADC_STAT.CAL_BUSY && l.all (fun e => e.2.2 == 1024) then
    let s := forEach l (fun e s =>
      let m := divRound e.2.1 1024
      if m < -1023 ∨ 1023 < m then s.fire (.adc u) 0 else
        let f := ADC.IN_CAL.OFS.nth e.1
        (s.adcNote u f.off (s.word (.adc u) f.off)).putI (.adc u) f m) s
    .next (((s.updAdc u (fun a => { a with cal := [] })).put (.adc u) ADC.ADC_STAT.CAL_BUSY 0).fire (.adc u) 9)
  else .next s

end Sys2Proof.Machine
end

