-- ==== Sys2Proof/Machine/Arb.lean ====
section
/-! DEFINITION. The arbiter of the shared store: requests, claims, dwell, grants, refresh and the timetable (R346-R359). -/

namespace Sys2Proof.Machine

/-- Change the arbiter's working state. -/
def State.updArb (s : State) (f : ArbPart → ArbPart) : State := { s with arb := f s.arb }

/-- The longest tablet of a requester (R350). -/
def tabletMax (q : Nat) : Nat :=
  if q ≤ 2 then 1 else if q ≤ 6 then 16 else if q ≤ 18 then 1 else if q ≤ 20 then 16 else if q ≤ 24 then 8
  else if q ≤ 26 then 16 else if q = 27 then 4 else 1

/-- The page whose world a requester carries where it is a block acting as master (R43, R350). -/
def reqPage (q : Fin 29) : Pg :=
  if q.val = 4 then .ovl
  else if q.val = 19 then .recorder 0
  else if q.val = 20 then .sys
  else if h : 21 ≤ q.val ∧ q.val < 25 then .can ⟨q.val - 21, by omega⟩
  else if h : 25 ≤ q.val ∧ q.val < 27 then .eth ⟨q.val - 25, by omega⟩
  else if q.val = 27 then .evt
  else if h : 7 ≤ q.val ∧ q.val < 19 then .ae ⟨q.val - 7, by omega⟩
  else if q.val = 28 then .dbg
  else .pe

/-- Whether a requester's transfers are secure now (R43, R350): a refill fetch carries the world of its axis's page, and the capture
writer is non-secure (R177). -/
def State.arbSecure (s : State) (q : Fin 29) (own : Fin 48) : Bool :=
  if q.val = 0 ∨ q.val = 2 then true
  else if q.val = 1 then s.peSecure
  else if q.val = 5 then s.pageSecure (.ax own)
  else if q.val = 4 ∨ 7 ≤ q.val then s.pageSecure (reqPage q)
  else false

/-- The requester as the error latches show it (R42). -/
def arbReq (q : Nat) (own : Fin 48) : Req :=
  if q = 0 then .si else if q = 1 then .pe
  else if q = 2 ∨ q = 3 then (if own ≠ 0 then .bar2 else if q = 2 then .spi else .bar0) else if q = 20 then .dma else .block

/-- Whether a requester is held in reset, its page's soft reset too, so that ARB ignores it (R353). -/
def State.arbMasked (s : State) (q : Fin 29) : Bool :=
  if q.val ∉ [0, 2, 3, 5, 6] ∧ s.softResetting (reqPage q) then true
  else if q.val = 0 then !s.rst.siRel
  else if q.val = 1 ∨ (7 ≤ q.val ∧ q.val ≤ 18) then !s.rst.engRel
  else if q.val = 5 ∨ q.val = 6 ∨ (19 ≤ q.val ∧ q.val ≤ 26) then !s.rst.periRel
  else !s.rst.mgmtRel

/-- STORE_REQUEST (R350): a requester with no request raises one; a tablet is at most its longest. Until the store is ready it
waits for its grant (R64). -/
def execStoreRequest (q : Fin 29) (own : Fin 48) (wr : Bool) (addr len : Nat) (data : List Word) (s : State) : Out :=
  if s.arbMasked q || s.arb.reqs[q].isSome || len == 0 then .next s
  else .next (s.updArb (fun a => { a with
    reqs := a.reqs.set q (some { own := own, wr := wr, addr := addr, len := min len (tabletMax q.val), data := data, done := 0, raised := a.cycle }) }))

/-- The requester a slot of the timetable in force names; 63 is open (R354). -/
def ArbPart.slotCode (a : ArbPart) : Nat :=
  let i := a.cycle % 64
  fld (a.tt[i / 6]'(by omega)) (6 * (i % 6) + 5) (6 * (i % 6))

/-- The code of the present slot as the ranking takes it: the slot of a masked requester is open (R353). -/
def State.arbSlot (s : State) : Nat :=
  let c := s.arb.slotCode
  if h : c < 29 then (if s.arbMasked ⟨c, h⟩ then 63 else c) else c

/-- Claims of this cycle, whose slot has code `c` (R354). -/
def ArbPart.giveClaim (a : ArbPart) (c : Nat) : ArbPart :=
  if h : c < 29 then
    if a.reqs[c].isSome ∧ ¬ a.claims.contains c ∧ a.cur ≠ some ⟨c, h⟩ then { a with claims := a.claims ++ [c] } else a
  else match a.urgent with
    | some u => if c = 63 ∧ ¬ a.claims.contains u then { a with claims := a.claims ++ [u] } else a
    | none => a

/-- Whom ARB grants where the store is free (R354): the oldest claim, then the urgent requester, then the lowest code. -/
def ArbPart.pick (a : ArbPart) : Option (Fin 29) :=
  match a.claims with
  | c :: _ => if h : c < 29 then some ⟨c, h⟩ else none
  | [] => match a.urgent with
    | some u => if h : u < 29 then some ⟨u, h⟩ else none
    | none => (List.finRange 29).find? (fun q => a.reqs[q].isSome)

/-- A grant: the request's tablet begins, its claim and urgency end, WAIT_MAX keeps the largest wait (R354, R356, R359). -/
def State.arbGrant (s : State) (q : Fin 29) : State :=
  let a := s.arb
  let wait := match a.reqs[q] with
    | some r => a.cycle - r.raised
    | none => 0
  let s := s.put .arb (ARB.WSTAT.WAIT_MAX.nth q.val) (max (s.get .arb (ARB.WSTAT.WAIT_MAX.nth q.val)) (min wait 65535))
  s.updArb (fun a => { a with
    cur := some q
    claims := a.claims.filter (fun c => c != q.val)
    urgent := if a.urgent = some q.val then none else a.urgent
    dwell := a.dwell.set q 0 })

/-- One transfer of the tablet in progress (R46, R347): a denied one reads zero or is dropped. -/
def State.arbTransfer (s : State) (q : Fin 29) (r : StoreReq) : State :=
  let addr := (r.addr + r.done) % storeWords
  let s := if r.wr then (s.xferWrite (arbReq q.val r.own) (s.arbSecure q r.own) addr (r.data.getD r.done 0)).2
    else
      let (w, s) := s.xferRead (arbReq q.val r.own) (s.arbSecure q r.own) addr
      s.updArb (fun a => { a with flight := a.flight ++ [(q.val, addr, w)] })
  let r := { r with done := r.done + 1 }
  let last := decide (r.len ≤ r.done)
  let burstEnd := last || r.done % 4 == 0
  let s := s.updArb (fun a => { a with
    reqs := a.reqs.set q (if last then none else some r)
    cur := if last then none else a.cur })
  if burstEnd && s.arb.refDue then
    (s.updArb (fun a => { a with refDue := false, refresh := true })).doIf (!last) (fun s => s.inc .arb ARB.ARB_STAT.SUSP)
  else s

/-- The requesters that wait count a dwell cycle, up to DWELL_LIMIT (R356). -/
def State.arbDwell (s : State) : State :=
  let lim := s.get .arb ARB.ARB_CFG.DWELL_LIMIT
  s.updArb (fun a => { a with dwell := Vector.ofFn (fun q : Fin 29 =>
    if a.reqs[q].isSome ∧ ¬ a.claims.contains q.val ∧ a.urgent ≠ some q.val ∧ a.cur ≠ some q then min (a.dwell[q] + 1) lim
    else a.dwell[q]) })

/-- ARB_CYCLE (R354): one FCLK cycle of the timetable walk, with the transfer the store carries in it (R347). -/
def execArbCycle (s : State) : Out :=
  if !s.rst.mgmtRel then .next s
  else
    let s := s.updArb (fun a => a.giveClaim s.arbSlot)
    let free := s.arb.cur.isNone && !s.arb.refresh && s.rst.storeRdy
    let s := match free, s.arb.pick with
      | true, some q => s.arbGrant q
      | _, _ => s
    let s := s.arbDwell
    let s := match s.arb.cur with
      | some q => match s.arb.reqs[q] with
        | some r => if s.arb.refresh then s else s.arbTransfer q r
        | none => s.updArb (fun a => { a with cur := none })
      | none => s
    .next (s.updArb (fun a => { a with cycle := a.cycle + 1 }))

/-- DWELL_PROMOTION (R356): a requester at the limit becomes urgent where none is. -/
def execDwellPromotion (s : State) : Out :=
  let a := s.arb
  let lim := s.get .arb ARB.ARB_CFG.DWELL_LIMIT
  let l := (List.finRange 29).filter (fun q => a.reqs[q].isSome && !a.claims.contains q.val && a.cur != some q && decide (lim ≤ a.dwell[q]))
  match a.urgent, l with
  | none, q0 :: rest =>
    let q := rest.foldl (fun b c => if a.lastUrg[c] < a.lastUrg[b] then c else b) q0
    let s := s.inc .arb (ARB.WSTAT.URGENT.nth q.val)
    .next (s.updArb (fun a => { a with
      urgent := some q.val
      dwell := Vector.replicate 29 0
      urgNo := a.urgNo + 1
      lastUrg := a.lastUrg.set q (a.urgNo + 1) }))
  | _, _ => .next s

/-- ECC_ADDR takes the first uncorrectable read, and counts later ones (R360). -/
def State.eccLatch (s : State) (q a : Nat) : State :=
  if s.raised .arb 0 then s.inc .arb ARB.ECC_ADDR.COUNT else s.setWord .arb 0x60 (BitVec.ofNat 36 (q <<< 27 ||| a))

/-- STORE_READ_RETURN (R347, R348): the oldest read in flight returns its word, corrected, or zero after a double error. -/
def execStoreReadReturn (ecc : EccFind) (s : State) : Out :=
  match s.arb.flight with
  | [] => .next s
  | (q, a, w) :: rest =>
    let back := fun (w : Word) (s : State) => s.updArb (fun x => { x with flight := rest, ret := x.ret ++ [(q, w)] })
    .next (match ecc with
      | .none => back w s
      | .single =>
        let s := back w (s.inc .arb ARB.ARB_STAT.ECC_CORR)
        if s.raised .arb 1 then s else s.fire .arb 1
      | .double => ((back 0 s).eccLatch q a).fire .arb 0)

/-- STORE_REFRESH (R355): a refresh falls due; it starts at once where the store is free, else at the end of
the burst, with the tablet's other bursts suspended. -/
def execStoreRefresh (s : State) : Out :=
  if !s.rst.mgmtRel then .next s
  else
    match s.arb.cur.bind (fun q => s.arb.reqs[q]) with
    | none => .next (s.updArb (fun a => { a with refresh := true }))
    | some r =>
      if r.done % 4 = 0 then .next ((s.updArb (fun a => { a with refresh := true })).inc .arb ARB.ARB_STAT.SUSP)
      else .next (s.updArb (fun a => { a with refDue := true }))

/-- ARB_CMD.COMMIT (R357): the staged table as it stands waits for slot 0. -/
def State.arbCommit (s : State) : State :=
  (s.updArb (fun a => { a with
    ttPend := some (Vector.ofFn (fun i => s.word .arb (0x80 + 8 * i.val)))
    ttAt := a.cycle })).put .arb ARB.ARB_STAT.TT_PEND 1

/-- TIMETABLE_TAKEUP (R357): at the next slot 0 after the COMMIT its table takes effect and TT_DONE fires. -/
def execTimetableTakeup (s : State) : Out :=
  match s.arb.ttPend with
  | some t =>
    if s.arb.cycle % 64 = 0 ∧ s.arb.ttAt < s.arb.cycle then
      .next (((s.updArb (fun a => { a with tt := t, ttPend := none })).put .arb ARB.ARB_STAT.TT_PEND 0).fire .arb 2)
    else .next s
  | none => .next s

/-- ARB_CMD.CLR (R359): the counters of WSTAT and ARB_STAT become 0. -/
def State.arbClr (s : State) : State :=
  let s := forEach (List.range 29) (fun r s => s.setWord .arb (0x200 + 8 * r) 0) s
  (s.put .arb ARB.ARB_STAT.SUSP 0).put .arb ARB.ARB_STAT.ECC_CORR 0

/-- A reset masks requesters: their requests and claims are dropped, and a tablet of theirs in progress ends at its burst (R66,
R353). -/
def State.arbMask (s : State) (gone : Nat → Bool) : State :=
  s.updArb (fun a =>
    let keeps := fun (q : Fin 29) =>
      (a.reqs[q].map (fun r => { r with len := min r.len ((r.done + 3) / 4 * 4) })).filter (fun r => r.done < r.len)
    { a with
    reqs := Vector.ofFn (fun q : Fin 29 =>
      if gone q.val then (if a.cur = some q then keeps q else none) else a.reqs[q])
    cur := a.cur.filter (fun q => !gone q.val || (keeps q).isSome)
    claims := a.claims.filter (fun c => !gone c)
    urgent := a.urgent.filter (fun u => !gone u)
    dwell := Vector.ofFn (fun q : Fin 29 => if gone q.val then 0 else a.dwell[q]) })

/-- A warm reset masks the requesters of the control and data planes (R66). -/
def State.arbWarm (s : State) : State := s.arbMask (fun q => q == 1 || (5 ≤ q && q ≤ 26))

/-- The soft reset of a block masks it (R37, R353). -/
def State.arbSoft (s : State) (p : Pg) : State :=
  s.arbMask (fun q => if h : q < 29 then q ∉ [0, 2, 3, 5, 6] && reqPage ⟨q, h⟩ == p else false)

end Sys2Proof.Machine
end

