-- ==== Sys2Proof/Machine/Doors.lean ====
section
/-! DEFINITION. What the doorway sequencer sees of the doorway table, of the field channels and of its axes' moves (R73, R179,
R182, R183, R192). -/

namespace Sys2Proof.Machine

/-- DW_STATd.STATE (R181). -/
def State.dwState (s : State) (d : Fin 32) : Nat := s.get .pe (PE.DW_STAT.STATE.nth d)

/-- Change a doorway's working values. -/
def State.updDoor (s : State) (d : Fin 32) (f : Door → Door) : State := { s with doors := s.doors.set d (f s.doors[d]) }

/-- A word of a doorway's entry as read. -/
def State.dwWord (s : State) (d : Fin 32) (i : Nat) : Word := s.doors[d].entry.getD i 0

/-- The axis a role field names: none where it reads 127 (R179). -/
def axisField (v : Nat) : Option (Fin 48) := if h : v < 48 then some ⟨v, h⟩ else none

/-- The axes of a doorway by role: LEAF0, LEAF1, LOCK, STEP. -/
def State.dwRole (s : State) (d : Fin 32) (i : Nat) : Option (Fin 48) :=
  axisField (fld (s.dwWord d 0) (34 - 7 * i) (28 - 7 * i))

/-- The leaves of a doorway, and its lock and step. -/
def State.dwLeaves (s : State) (d : Fin 32) : List (Fin 48) := [s.dwRole d 0, s.dwRole d 1].filterMap id
def State.dwLocks (s : State) (d : Fin 32) : List (Fin 48) := [s.dwRole d 2, s.dwRole d 3].filterMap id
def State.dwAxes (s : State) (d : Fin 32) : List (Fin 48) := s.dwLeaves d ++ s.dwLocks d

/-- The accepted level of a field channel (R335). -/
def State.fieldOn (s : State) (c : Nat) : Bool :=
  let b : Fin 4 := ⟨c / 32 % 4, by omega⟩
  bit (s.get (.fiob b) FIOB.IN.IN) (c % 32)

/-- Whether a field channel reads indeterminate (R70, R336). -/
def State.fieldIndet (s : State) (c : Nat) : Bool :=
  let b : Fin 4 := ⟨c / 32 % 4, by omega⟩
  bit (s.get (.fiob b) FIOB.IN_INDET.INDET) (c % 32)

/-- A channel field of word 1: whether present, and whether it reads on. -/
def State.dwChan (s : State) (d : Fin 32) (i : Nat) : Bool × Bool :=
  let v := fld (s.dwWord d 1) (31 - 8 * i) (24 - 8 * i)
  (bit v 7, s.fieldOn (v % 128))

/-- CLOSED reads on; LOCKED reads on, or off, an absent channel counting as both. -/
def State.dwClosed (s : State) (d : Fin 32) : Bool := (s.dwChan d 0).2
def State.dwLocked (s : State) (d : Fin 32) : Bool := !(s.dwChan d 1).1 || (s.dwChan d 1).2
def State.dwUnlocked (s : State) (d : Fin 32) : Bool := !(s.dwChan d 1).1 || !(s.dwChan d 1).2

/-- The field channels have changed: a doorway in CLOSING whose CLOSED reads on has closed (R192). -/
def State.closedSeen (s : State) : State :=
  forEach (List.finRange 32) (fun d s =>
    s.doIf (s.dwState d == 6 && s.doors[d].closedAt.isNone && s.dwClosed d) (fun s =>
      s.updDoor d (fun x => { x with closedAt := some s.now }))) s

/-- An axis takes up a START or REPLACE: a move that the sequencer sent it is now its own (R182). -/
def State.moveTaken (s : State) (n : Fin 48) : State :=
  forEach (List.finRange 32) (fun d s => s.updDoor d (fun x => { x with
    legs := x.legs.map (fun l => if l.axis = n ∧ (l.st = 1 ∨ l.st = 2) then { l with st := 3 } else l) })) s

/-- MOVE_DONE of an axis: the sequencer's move of that axis is done; unless a stop has ended it, it is a completed closing move where
a leaf has moved in CLOSING, or the lock or step in LOCKING (R182, R192). -/
def State.moveDone (s : State) (n : Fin 48) (stopped : Bool) : State :=
  forEach (List.finRange 32) (fun d s =>
    let mine := s.doors[d].legs.any (fun l => l.axis == n && l.st == 3)
    let closing := fun (i : Fin 4) => mine && !stopped && s.dwState d == (if i.val < 2 then 6 else 7) && s.dwRole d i.val == some n
    s.updDoor d (fun x => { x with
      legs := x.legs.filter (fun l => !(l.axis == n && l.st == 3))
      moves := Vector.ofFn (fun i => x.moves[i] + b2n (closing i)) })) s

/-- A geared axis has taken up the loss of its master: a doorway that opens by gearing it learns so (R183). -/
def State.leafLost (s : State) (n : Fin 48) : State :=
  forEach (List.finRange 32) (fun d s =>
    s.doIf (s.dwState d == 4 && s.doors[d].how == 1 && (s.dwLeaves d).contains n) (fun s =>
      s.updDoor d (fun x => { x with lost := true }))) s

/-- Whether the doorway sequencer accepts the axes of an engine again: no doorway that holds one of them stands in FAULTED (R73,
R182). -/
def State.seqAccepts (s : State) (k : Fin 12) : Bool :=
  (List.finRange 32).all (fun d => s.dwState d != 12 || !(s.dwAxes d).any (fun n => aeOf n == k))

end Sys2Proof.Machine
end

