-- ==== Sys2Proof/Machine/Trig.lean ====
section
/-! DEFINITION. Sine, cosine and square root for the rules that name them. The rules bound the error of an engine's sine and
cosine and state no rounding of a root, so each result is the exact value's neighbourhood with a free value inside it. -/

namespace Sys2Proof.Machine

/-- pi to 40 decimal places. -/
def piQ : Rat := 31415926535897932384626433832795028841972 / 10000000000000000000000000000000000000000

/-- Terms of the sine series from term `k` down: x(1 - x²/(2·3)(1 - x²/(4·5)(...))). -/
def sinSeries (x2 : Rat) : Nat → Nat → Rat
  | 0, _ => 1
  | k + 1, n => 1 - x2 / ((2 * n : Nat) * (2 * n + 1 : Nat)) * sinSeries x2 k (n + 1)

/-- sin 2*pi*t for t from -1/4 to 1/4, to within 2^-60, rounded to 2^-64. -/
def sinQuarter (t : Rat) : Rat :=
  let x := (((2 * piQ * t) * 2 ^ 80).floor : Rat) / 2 ^ 80
  (((x * sinSeries (x * x) 12 1) * 2 ^ 64).floor : Rat) / 2 ^ 64

/-- sin 2*pi*t for any t. -/
def sinTurn (t : Rat) : Rat :=
  let f := t - (t.floor : Rat)
  if f ≤ 1 / 4 then sinQuarter f
  else if f ≤ 3 / 4 then sinQuarter (1 / 2 - f)
  else sinQuarter (f - 1)

/-- cos 2*pi*t. -/
def cosTurn (t : Rat) : Rat := sinTurn (t + 1 / 4)

/-- A turn fraction as the engine's SINCOS operand. -/
def turnWord (t : Rat) : Word := BitVec.ofInt 36 ((t - (t.floor : Rat)) * 2 ^ 36).floor

/-- The engine's sine (or cosine) before saturation: within 2^-30 of the exact value, which value being free (R241). -/
def sinRaw (cos : Bool) (theta : Word) : Int :=
  let t : Rat := (theta.toNat : Rat) / 2 ^ 36
  let x := if cos then cosTurn t else sinTurn t
  let y := x * 2 ^ 35
  clamp (y - 32).ceil (y + 32).floor (roundQ y + Config.sincosErr cos theta)

/-- The engine's sine (or cosine) as a kernel takes it. -/
def engSin (cos : Bool) (theta : Word) : Int := satS 36 (sinRaw cos theta)

/-- Square root of a non-negative rational, rounded down to 2^-40. -/
def sqrtQ (q : Rat) : Rat := (isqrt (q * 2 ^ 80).floor.toNat : Rat) / 2 ^ 40

/-- 1 over the square root of 3, to 2^-40. -/
def invSqrt3 : Rat := sqrtQ (1 / 3)

end Sys2Proof.Machine
end

