-- ==== Sys2Proof/Machine/Governor.lean ====
section
/-! DEFINITION. The buffer stop: budgets, the governing mass, staged configuration, the time scale of a coupling group and the
force ceiling (R138-R149, R155), and the relation of a gear (R128-R131). -/

namespace Sys2Proof.Machine

/-- A model record's first word in the parameter region (R142). -/
def recordBase (n : Fin 48) : Nat := 0x3E000 + 0x80 * n.val

/-- The governing mass in kg, and the counts per mm (R139). -/
def State.mGov (s : State) (n : Fin 48) : Rat := (s.get (.ax n) AX.GOV_MGOV.VALUE : Rat) / 2 ^ 24
def State.cpmm (s : State) (n : Fin 48) : Rat := (s.get (.ax n) AX.GOV_CPMM.VALUE : Rat) / 2 ^ 20

/-- Kinetic energy in J at a velocity in counts/ms (R139). -/
def State.energy (s : State) (n : Fin 48) (v : Rat) : Rat := (1 / 2) * s.mGov n * (v / s.cpmm n) ^ 2

/-- The distance from a position to the end-of-stroke zone's entry, 0 inside the zone; none where there is no zone (R140). -/
def State.zoneDist (s : State) (n : Fin 48) (p : Rat) : Option Rat :=
  let dist : Rat := (s.getI (.ax n) AX.EOS_DIST.VALUE : Rat) / 4096
  let pos : Rat := (s.getI (.ax n) AX.EOS_POS.VALUE : Rat) / 4096
  if dist = 0 then none
  else if s.flag (.ax n) AX.GOV_CFG.CDIR then some (max 0 (pos - dist - p)) else some (max 0 (p - (pos + dist)))

/-- Whether a position lies inside the zone. -/
def State.inZone (s : State) (n : Fin 48) (p : Rat) : Bool :=
  match s.zoneDist n p with
  | some d => d == 0
  | none => false

/-- The budget at a planned state, in J (R139). -/
def State.budget (s : State) (n : Fin 48) (p v : Rat) : Rat :=
  let emax : Rat := (s.get (.ax n) AX.GOV_EMAX.VALUE : Rat) / 2 ^ 24
  let eeos : Rat := (s.get (.ax n) AX.EOS_EMAX.VALUE : Rat) / 2 ^ 24
  let dec : Rat := (s.getI (.ax n) AX.GOV_DEC.VALUE : Rat) / 4194304
  let closing := if s.flag (.ax n) AX.GOV_CFG.CDIR then decide (0 < v) else decide (v < 0)
  match s.zoneDist n p with
  | some d => if closing then min emax (min eeos emax + s.mGov n * dec * d / (s.cpmm n) ^ 2) else emax
  | none => emax

/-- Publish the velocity cap of a budget (R139). -/
def State.publishCap (s : State) (n : Fin 48) (b : Rat) : State :=
  s.putI (.ax n) AX.GOV_VCAP.VALUE (roundQ (s.cpmm n * sqrtQ (2 * b / s.mGov n) * 65536))

/-- Whether the buffer stop acts on an axis: TYPE 1, 2 or 3 in AX_STATE 1, 2 or 3 (R138). -/
def State.governed (s : State) (n : Fin 48) : Bool :=
  let t := s.axType n
  let x := s.axState n
  (t == 1 || t == 2 || t == 3) && (x == 1 || x == 2 || x == 3)

/-- The coupling group of an axis: the axes of its engine with its nonzero CGRP on which a buffer stop works, whatever their state,
or itself alone (R138, R146). -/
def State.couple (s : State) (n : Fin 48) : List (Fin 48) :=
  let g := s.get (.ax n) AX.GOV_CFG.CGRP
  if g = 0 then [n]
  else (axesOf (aeOf n)).filter (fun i => s.get (.ax i) AX.GOV_CFG.CGRP == g &&
    (i == n || (s.runs (.ax i) && inRange (s.axType i) 1 3)))

/-- The largest 2^-48 step at or below a rational in 0 .. 1 (R145: rounded toward zero). -/
def floor48 (q : Rat) : Nat := (q * 2 ^ 48).floor.toNat

/-- A factor in 2^-48 as a rational. -/
def sigmaQ (n : Nat) : Rat := (n : Rat) / 2 ^ 48

/-- Staged configuration and a waiting decrease of an axis take effect (R141, R143). -/
def State.takeGov (s : State) (n : Fin 48) : State :=
  let g := s.axes[n].gov
  let s := forEach g.staged (fun e s => s.setWord (.ax n) e.1 e.2) s
  let m := match g.lower with
    | some m => m
    | none => (s.get (.ax n) AX.GOV_MGOV.VALUE : Int)
  let s := s.put (.ax n) AX.GOV_MGOV.VALUE (max m (s.get (.ax n) AX.GOV_MFLOOR.VALUE : Int)).toNat
  let s := s.updAx n (fun a => { a with gov := { a.gov with staged := [], lower := none } })
  s.put (.ax n) AX.GOV_STAT.PEND 0

/-- Take-up of a fetched model record (R141, R151): m_gov rises at once, a verified decrease waits for standstill. -/
def State.takeRecord (s : State) (n : Fin 48) : State :=
  match s.axes[n].gov.rec_ with
  | none => s
  | some r =>
    let valid := (r.getD 2 0).msb
    let mNew := max (s.get (.ax n) AX.GOV_MFLOOR.VALUE)
      (satU 36 (((r.getD 0 0).toNat + (r.getD 1 0).toNat : Nat) : Int)).toNat
    let s := s.put (.ax n) AX.GOV_STAT.MVALID (b2n valid)
    let s := s.doIf (decide ((s.storeGet (recordBase n + 6)).toNat < mNew)) (fun s => s.fire (.ax n) 25)
    let set := fun (low : Option Int) (s : State) =>
      s.updAx n (fun a => { a with gov := { a.gov with rec_ := none, lower := low } })
    if s.get (.ax n) AX.GOV_MGOV.VALUE ≤ mNew then
      let s := (set none s).put (.ax n) AX.GOV_MGOV.VALUE mNew
      s.put (.ax n) AX.GOV_STAT.PEND (b2n (!s.axes[n].gov.staged.isEmpty))
    else if valid then (set (some mNew) s).put (.ax n) AX.GOV_STAT.PEND 1
    else
      let s := set none s
      s.put (.ax n) AX.GOV_STAT.PEND (b2n (!s.axes[n].gov.staged.isEmpty))

/-- The force ceiling of a setpoint position: inside the zone min(EOS_FMAX, GOV_FMAX), else GOV_FMAX (R149), in raw FRC36. -/
def State.fLim (s : State) (n : Fin 48) (p : Rat) : Int :=
  let f := s.getI (.ax n) AX.GOV_FMAX.VALUE
  if s.inZone n p then min (s.getI (.ax n) AX.EOS_FMAX.VALUE) f else f

/-- ILIM of a setpoint position (R149). -/
def State.ilim (s : State) (n : Fin 48) (p : Rat) : Nat :=
  min 2047 ((s.fLim n p : Rat) / (s.getI (.ax n) AX.GOV_FFS.VALUE : Rat) * 2048).floor.toNat

/-! ### The gear relation (R128-R131) -/

/-- The target ratio of a gear, its start ratio, its ramp distance and its start position. -/
def Gear.r1 (g : Gear) : Rat := (g.num : Rat) / (g.den : Rat)
def Gear.r0q (g : Gear) : Rat := (g.r0 : Rat) / 2 ^ 48
def Gear.lenQ (g : Gear) : Rat := (g.len : Rat) / 4096
def Gear.s0q (g : Gear) : Rat := (g.s0 : Rat) / 2 ^ 48

/-- |x| of a rational. -/
def absQ (x : Rat) : Rat := if x < 0 then -x else x

/-- The slope of the relation at a master position (R128). -/
def Gear.slope (g : Gear) (m : Rat) : Rat :=
  if g.len = 0 then g.r1 else g.r0q + (g.r1 - g.r0q) * min (absQ (m - g.m0)) g.lenQ / g.lenQ

/-- The slave position of the relation at a master position (R128). -/
def Gear.pos (g : Gear) (m : Rat) : Rat :=
  let d := m - g.m0
  let x := absQ d
  let sg : Rat := if d < 0 then -1 else if d = 0 then 0 else 1
  let gx := if g.len = 0 then x else if x ≤ g.lenQ then x ^ 2 / (2 * g.lenQ) else x - g.lenQ / 2
  g.s0q + g.r0q * d + (g.r1 - g.r0q) * sg * gx

/-- The geared setpoint at a master position, velocity and acceleration (R128). -/
def Gear.at (g : Gear) (m mv ma : Rat) : PVA :=
  let d := m - g.m0
  let sg : Rat := if d < 0 then -1 else if d = 0 then 0 else 1
  let extra : Rat := if absQ d < g.lenQ then (g.r1 - g.r0q) / g.lenQ * sg * mv ^ 2 else 0
  ⟨g.pos m, g.slope m * mv, g.slope m * ma + extra⟩

/-- A gear rebased at a master position onto a new target ratio and ramp distance (R129, R131). -/
def Gear.rebase (g : Gear) (m : Rat) (num : Int) (den : Nat) (len : Int) : Gear :=
  { g with m0 := m, s0 := roundQ (g.pos m * 2 ^ 48), r0 := roundQ (g.slope m * 2 ^ 48), num := num, den := den, len := len }

/-- Record on which side of the next station the master stands (R129). -/
def Gear.arm (g : Gear) (m : Rat) : Gear :=
  match g.stations[g.nextIdx]? with
  | some st => { g with below := decide (m < (st.mpos : Rat) / 4096) }
  | none => g

/-- Fire the stations the master has reached, in list order; answers how many fired (R129). A station that becomes next as its
predecessor fires records its side from the place `x` at which the master then stands, the predecessor's MPOS; where it lies
at that place itself it fires at once. -/
def Gear.fireStations (m : Rat) : Nat → Rat → Gear → Nat → Gear × Nat
  | 0, _, g, c => (g, c)
  | k + 1, x, g, c =>
    match g.stations[g.nextIdx]? with
    | none => (g, c)
    | some st =>
      let mp : Rat := (st.mpos : Rat) / 4096
      if m = mp ∨ x = mp ∨ (g.below ∧ mp ≤ m) ∨ (¬ g.below ∧ m ≤ mp) then
        let g' := g.rebase mp st.num st.den st.eng
        Gear.fireStations m k mp ({ g' with nextIdx := g.nextIdx + 1 }.arm mp) (c + 1)
      else (g, c)

end Sys2Proof.Machine
end

