-- ==== Sys2Proof/Machine/Motion.lean ====
section
/-! DEFINITION. Profile units: commands and their take-up, the cutoff, the servo-cycle boundary, limit switches, refill
(R94-R137, R138-R149, R170, R174). -/

namespace Sys2Proof.Machine

/-- Refuse a move command with a reason (R109). -/
def State.refuse (s : State) (n : Fin 48) (why : Nat) : State := (s.put (.ax n) AX.PROF_STAT.REFUSE why).fire (.ax n) 12

/-- Refuse a gear command or a gear configuration write with a reason (R127, R130). -/
def State.gearRefuse (s : State) (n : Fin 48) (why : Nat) : State :=
  (s.put (.ax n) AX.GEAR_STAT.REFUSE why).fire (.ax n) 16

/-- Whether an axis is geared (R131). -/
def State.geared (s : State) (n : Fin 48) : Bool := s.get (.ax n) AX.GEAR_STAT.GSTATE != 0

/-- QOCC and PEND follow the hardware queue and the pending list. -/
def State.showQ (s : State) (n : Fin 48) : State :=
  (s.put (.ax n) AX.PROF_STAT.QOCC s.axes[n].hwq.length).put (.ax n) AX.PROF_STAT.PEND (min 3 (s.axes[n].tabs.length - 1))

/-- Clear the staged push words (R109, R115). -/
def State.clearStaged (s : State) (n : Fin 48) : State :=
  forEach [0x90, 0x98, 0xA0, 0xA8] (fun o s => s.setWord (.ax n) o 0) s

/-- Freeze the setpoint at the one last landed in PQ: a hard stop (R114). -/
def State.hardStop (s : State) (n : Fin 48) : State :=
  let f : Setp := ⟨s.getI (.ax n) AX.SETP_POS.VALUE, 0, 0⟩
  (s.ungear n).updAx n (fun a => { a with
    mot := { Motion.idle with hard := true }
    held := f
    next := some f
    doneDue := true
    sup := { a.sup with rampDue := false } })

/-- Start a ramped stop at this boundary from the state there, as the profile unit has it before the buffer stop (R112, R113). -/
def State.startRamp (s : State) (n : Fin 48) (o : Setp) : State :=
  let r := mkRamp o (s.getI (.ax n) AX.STOP_DEC.DEC) (s.get (.ax n) AX.PROF_CFG.BLEND_T)
  let done := r.rest == 0
  (s.ungear n).updAx n (fun a => { a with
    mot := { Motion.idle with ramp := some r }
    held := if done then ⟨o.p, 0, 0⟩ else o
    doneDue := done
    sup := { a.sup with rampDue := false }
    gov := { a.gov with clamped := false } })

/-- Whether a stop runs on an axis (R110). -/
def State.stopping (s : State) (n : Fin 48) : Bool := s.axes[n].mot.ramp.isSome || s.axes[n].mot.hard

/-! ### Commands (R108-R111, R130, R174) -/

/-- A command waits for the next cutoff; START, APPEND and REPLACE with SRC = 0 also ask for their directory entry. -/
def State.queueCmd (s : State) (n : Fin 48) (kind : CmdKind) (op table : Nat) : State :=
  let src1 := s.flag (.ax n) AX.PROF_CFG.SRC
  let asks := kind == .move && (op == 1 || op == 2 || op == 3) && !src1
  let c : Cmd := { kind := kind, op := op, table := table, src1 := src1, entry := none, have_ := s.axes[n].pushNo }
  let s := s.updAx n (fun a => { a with cmds := a.cmds ++ [c] })
  s.doIf asks (fun s => { s with refillQ := s.refillQ ++ [(false, n)] })

/-- Whether the profile unit has a part in an axis: it is idle on a solenoid and on an unused axis (R86). -/
def State.profUnit (s : State) (n : Fin 48) : Bool := s.axType n == 1 || s.axType n == 2 || s.axType n == 3

/-- The effect of a MOVE_CMD write (R108, R109, R114). -/
def State.moveWrite (s : State) (n : Fin 48) (op table : Nat) : State :=
  if op = 0 then s
  else if op = 5 then
    if (s.axState n = 1 ∨ s.axState n = 2) ∧ s.profUnit n = true then s.hardStop n else s.refuse n 1
  else s.queueCmd n .move op table

/-- Give the first command of an axis that waits for one its directory entry (R103). -/
def giveEntry (w : Word) : List Cmd → List Cmd
  | [] => []
  | c :: r =>
    if c.kind == .move && (c.op == 1 || c.op == 2 || c.op == 3) && !c.src1 && c.entry.isNone then
      { c with entry := some w } :: r
    else c :: giveEntry w r

/-- The first command that waits for a directory entry. -/
def needsEntry (l : List Cmd) : Option Cmd :=
  l.find? (fun c => c.kind == .move && (c.op == 1 || c.op == 2 || c.op == 3) && !c.src1 && c.entry.isNone)

/-- Remove the first element equal to a value. -/
def dropFirst {α : Type} [BEq α] (x : α) : List α → List α
  | [] => []
  | y :: r => if x == y then r else y :: dropFirst x r

/-- A directory entry passes the check of R103. -/
def entryOk (w : Word) : Bool :=
  fld w 35 30 == 0 && fld w 29 18 != 0 && decide (fld w 17 0 + 4 * fld w 29 18 - 1 ≤ 0x3FBFF)

/-- The table a command names. -/
def Cmd.ref (c : Cmd) : TblRef :=
  let w := c.entry.getD 0
  { table := c.table, base := fld w 17 0, count := fld w 29 18, next := 0, ended := false }

/-- A START with its entry is one that the unit would accept as it stands (R109): its table is loaded as the entry arrives. -/
def State.startLoads (s : State) (n : Fin 48) (c : Cmd) : Bool :=
  c.op == 1 && entryOk (c.entry.getD 0) && s.axState n == 1 && s.get (.ax n) AX.PROF_STAT.PSTATE == 0 && !s.geared n &&
    s.profUnit n

/-- Load a table: the segments in the hardware queue go, and the refill engine fetches the table's (R109). -/
def State.loadTable (s : State) (n : Fin 48) (c : Cmd) : State :=
  (s.updAx n (fun a => { a with hwq := [], tabs := [c.ref] })).showQ n

/-- Whether the table that a START names is the one loaded. -/
def State.hasLoaded (s : State) (n : Fin 48) (c : Cmd) : Bool :=
  s.axes[n].tabs.map (fun t => (t.table, t.base, t.count)) == [(c.ref.table, c.ref.base, c.ref.count)]

/-- The directory entry of an axis's oldest waiting command arrives (R102, R103, R43, R46); a START's table is loaded (R109). -/
def State.dirArrive (s : State) (n : Fin 48) : State :=
  match needsEntry s.axes[n].cmds with
  | none => s
  | some c =>
    let (w, s) := s.xferRead .block (s.pageSecure (.ax n)) (0x3FC00 + c.table)
    let s := { s with refillQ := dropFirst (false, n) s.refillQ }
    let s := s.updAx n (fun a => { a with cmds := giveEntry w a.cmds })
    let c := { c with entry := some w }
    s.doIf (s.startLoads n c) (fun s => s.loadTable n c)

/-- DIRECTORY_ENTRY_ARRIVAL. -/
def execDirectoryEntryArrival (n : Fin 48) (s : State) : Out := .next (s.dirArrive n)

/-- Whether a command is ready for take-up: it waits for no directory entry (R108). -/
def Cmd.isReady (c : Cmd) : Bool :=
  !(c.kind == .move && (c.op == 1 || c.op == 2 || c.op == 3) && !c.src1 && c.entry.isNone)

/-- The field channel of a limit (R116). -/
def State.limChan (s : State) (n : Fin 48) (pos : Bool) : Fin 4 × Nat :=
  let c := s.get (.ax n) (if pos then AX.LIM_CFG.POS_CH else AX.LIM_CFG.NEG_CH)
  (Fin.ofNat 4 (c / 32), c % 32)

/-- A limit's channel is indeterminate or an output, and so counts as an active limit (R116). -/
def State.limForced (s : State) (n : Fin 48) (pos : Bool) : Bool :=
  let (b, i) := s.limChan n pos
  bit (s.get (.fiob b) FIOB.IN_INDET.INDET) i || s.flag (.fiob b) (FIOB.CH_CFG.DIR.nth i)

/-- The level of a limit now, after the bank's own filter: whether it asks for the limit (R116). -/
def State.limLevel (s : State) (n : Fin 48) (pos : Bool) : Bool :=
  let (b, i) := s.limChan n pos
  s.limForced n pos || (bit (s.get (.fiob b) FIOB.IN.IN) i != s.flag (.ax n) AX.LIM_CFG.POL)

/-- Whether a limit is enabled and active: its accepted level is, or its channel forces it (R116, R117). -/
def State.limOn (s : State) (n : Fin 48) (pos : Bool) : Bool :=
  s.flag (.ax n) (if pos then AX.LIM_CFG.POS_EN else AX.LIM_CFG.NEG_EN) &&
    ((if pos then s.axes[n].limPos else s.axes[n].limNeg) || s.limForced n pos)

/-- Whether a limit that is active stands in the way of a velocity (R117). -/
def State.limitHit (s : State) (n : Fin 48) (v : Int) : Bool :=
  (decide (0 < v) && s.limOn n true) || (decide (v < 0) && s.limOn n false)

/-- Whether the profile unit generates the setpoint: in states 1 and 2, and in the action of a cause 7 (R121). -/
def State.profRuns (s : State) (n : Fin 48) : Bool :=
  s.axState n == 1 || s.axState n == 2 || (s.axState n == 3 && s.get (.ax n) AX.AX_STATE.CAUSE == 7)

/-- A stop at the limit that a velocity runs toward holds (R109, R117). -/
def State.limitHeld (s : State) (n : Fin 48) (v : Int) : State :=
  s.updAx n (fun a => { a with holdPos := a.holdPos || decide (0 < v), holdNeg := a.holdNeg || decide (v < 0) })

/-- A limit stops a setpoint that moves toward it: the configured stop, and LIMIT_STOP (R117, R118). -/
def State.limitAct (s : State) (n : Fin 48) (o : Setp) : State :=
  if !s.limitHit n o.v || s.axes[n].mot.hard || !s.profRuns n then s
  else if s.get (.ax n) AX.LIM_CFG.ACTION = 0 then
    ((s.hardStop n).limitHeld n o.v).fire (.ax n) 11
  else if s.axes[n].mot.ramp.isSome then s
  else ((s.startRamp n o).limitHeld n o.v).fire (.ax n) 11

/-- A limit has become active between two cutoffs: a hard stop acts at once, a ramped stop at the next cutoff (R112, R114, R117). -/
def State.limitNow (s : State) (n : Fin 48) : State :=
  if s.runs (.ax n) && s.get (.ax n) AX.LIM_CFG.ACTION == 0 then s.limitAct n (s.axes[n].next.getD s.axes[n].held) else s

/-- A write to LIM_CFG commits: a limit that it enables, or gives another channel or polarity, starts from the level its channel
has (R116, R117). -/
def State.limCfgWritten (s : State) (n : Fin 48) (old : Word) : State :=
  let moved := fun (hi lo : Nat) => fld old hi lo != fld (s.word (.ax n) 0x80) hi lo
  let pol := moved 11 11
  let s := s.doIf (pol || moved 23 16) (fun s => s.updAx n (fun a => { a with limPos := s.limLevel n true }))
  let s := s.doIf (pol || moved 31 24) (fun s => s.updAx n (fun a => { a with limNeg := s.limLevel n false }))
  s.limitNow n

/-- PROF_STAT.TABLE shows the active table; a pushed segment has none, and TABLE stays as it was. -/
def State.showTable (s : State) (n : Fin 48) (t : Nat) : State :=
  if s.flag (.ax n) AX.PROF_CFG.SRC then s else s.put (.ax n) AX.PROF_STAT.TABLE t

/-- A fault of the profile unit at a boundary: its event, state 3, and the stop of R121 from the state `o` there (R96, R106,
R121). -/
def State.motionFault (s : State) (n : Fin 48) (ev : Nat) (o : Setp) : State :=
  let s := (s.fire (.ax n) ev).raiseFault n 7 (s.faultAct n)
  s.doIf (s.axState n == 3) (fun s => s.startRamp n o)

/-- SEG_IDX of a segment that becomes active: its index in its table, or 0 where a pushed segment begins a move (R107). -/
def State.showIdx (s : State) (n : Fin 48) (g : QSeg) : State :=
  s.put (.ax n) AX.PROF_STAT.SEG_IDX (if s.flag (.ax n) AX.PROF_CFG.SRC then 0 else g.idx)

/-- A move's first segment is there: the move starts at this boundary from the setpoint state `o` (R98, R109, R111); an invalid
one is a fault at this boundary (R96). -/
def State.beginMove (s : State) (n : Fin 48) (o : Setp) : State :=
  match s.axes[n].hwq with
  | [] => s
  | g :: r =>
    if g.invalid then
      (s.updAx n (fun a => { a with mot := { a.mot with startWait := false } })).motionFault n 8 o
    else
      let bt := s.get (.ax n) AX.PROF_CFG.BLEND_T
      let pre : Pre := { p := o.p, v := o.v, a := o.a, bt := bt, width := min bt g.dur, decay := false }
      let s := s.updAx n (fun a => { a with
        hwq := r
        mot := { Motion.idle with cur := some ⟨0, o.p, o.v, g⟩, pre := some pre }
        held := o
        holdPos := false
        holdNeg := false
        gov := { a.gov with clamped := false } })
      let s := (s.showTable n g.tbl).showIdx n g
      (s.doIf g.note (fun s => s.fire (.ax n) 13)).showQ n

/-- Whether a limit stop holds toward the first segment of a START, where that segment is there (R109, R117). -/
def State.limitStands (s : State) (n : Fin 48) (c : Cmd) : Bool :=
  (c.src1 || s.hasLoaded n c) &&
    (match s.axes[n].hwq.head? with
     | some g =>
       let d := g.endPos - s.axes[n].held.p
       s.limitHit n d && (if 0 < d then s.axes[n].holdPos else s.axes[n].holdNeg)
     | none => false)

/-- Why a move command taken up at a boundary is refused, if it is; `stop`: a stop is taken up there or runs (R103, R109,
R110). -/
def State.moveRefusal (s : State) (n : Fin 48) (c : Cmd) (stop : Bool) : Option Nat :=
  let p := s.get (.ax n) AX.PROF_STAT.PSTATE
  let running := p == 1 && !s.axes[n].doneDue
  let badTable := !c.src1 && !entryOk (c.entry.getD 0)
  if !(s.axState n == 1 || s.axState n == 2) || !s.profUnit n then some 1
  else if c.op = 4 then none
  else if s.geared n then some 4
  else if stop && c.op != 6 then some 3
  else match c.op with
    | 1 => if s.axState n ≠ 1 ∨ p ≠ 0 then some 1 else if s.limitStands n c then some 3 else if badTable then some 2 else none
    | 2 =>
      if !running then some 1
      else if c.src1 then some 6
      else if 4 ≤ s.axes[n].tabs.length then some 5
      else if badTable then some 2
      else none
    | 3 => if !running then some 1 else if badTable then some 2 else none
    | 6 => if p ≠ 0 then some 1 else none
    | _ => none

/-- Take up START, APPEND or CLEAR at a boundary (R109, R110). -/
def State.takeMove (s : State) (n : Fin 48) (c : Cmd) (stop : Bool) : State :=
  match s.moveRefusal n c stop with
  | some why => s.refuse n why
  | none =>
    match c.op with
    | 1 =>
      let s := s.put (.ax n) AX.GOV_EPEAK.VALUE 0
      let s := s.doIf (!c.src1 && !s.hasLoaded n c) (fun s => s.loadTable n c)
      ((s.updAx n (fun a => { a with
        tabs := if c.src1 then [] else a.tabs
        mot := { Motion.idle with startWait := true } })).showQ n).moveTaken n
    | 2 => (s.updAx n (fun a => { a with tabs := a.tabs ++ [c.ref] })).showQ n
    | 6 => ((s.updAx n (fun a => { a with hwq := [], tabs := [], mot := { a.mot with startWait := false } })).clearStaged n).showQ n
    | _ => s

/-- Take up the last REPLACE of a boundary with the state `o` there (R109-R111). -/
def State.takeReplace (s : State) (n : Fin 48) (c : Cmd) (stop : Bool) (o : Setp) : State :=
  match s.moveRefusal n c stop with
  | some why => s.refuse n why
  | none =>
    let bt := s.get (.ax n) AX.PROF_CFG.BLEND_T
    let s := (s.put (.ax n) AX.GOV_EPEAK.VALUE 0).moveTaken n
    if c.src1 then
      let s := s.updAx n (fun a => { a with hwq := a.hwq.filter (fun g => decide (c.have_ < g.idx)), tabs := [] })
      if s.axes[n].hwq.isEmpty then (s.startRamp n o).showQ n else s.beginMove n o
    else
      let pre : Pre := { p := o.p, v := o.v, a := o.a, bt := bt, width := 0, decay := false }
      (s.updAx n (fun a => { a with
        hwq := []
        tabs := [c.ref]
        mot := { Motion.idle with pre := some pre, replWait := true }
        held := o
        gov := { a.gov with clamped := false } })).showQ n

/-- The REPLACE commands of a boundary, in order: only the last takes effect, and an earlier one that is not refused fires
REPL_DROP (R110). -/
def State.takeReplaces (s : State) (n : Fin 48) (stop : Bool) (o : Setp) : List Cmd → State
  | [] => s
  | [c] => s.takeReplace n c stop o
  | c :: r =>
    (match s.moveRefusal n c stop with
     | some why => s.refuse n why
     | none => s.fire (.ax n) 15).takeReplaces n stop o r

/-- Follow the masters of geared axes back from an axis; true where the chain reaches `goal` (R130). -/
def State.chainReaches (s : State) (goal : Fin 48) : Nat → Fin 48 → Bool
  | 0, _ => false
  | k + 1, i =>
    i == goal ||
      (s.geared i && s.get (.ax i) AX.GEAR_CFG.MSRC == 2 &&
        (match Fin.ofNat 48 (s.get (.ax i) AX.GEAR_CFG.MIDX) with
         | j => State.chainReaches s goal k j))

/-- The stations an ENGAGE copies (R127, R129). -/
def State.stations (s : State) (n : Fin 48) : List Stn :=
  (List.range (s.get (.ax n) AX.GEAR_CFG.NSTN)).map (fun i =>
    { mpos := s.getI (.ax n) (AX.STN_MPOS.MPOS.nth i), num := s.getI (.ax n) (AX.STN_NUM.NUM.nth i),
      den := s.get (.ax n) (AX.STN_DEN.DEN.nth i), eng := s.getI (.ax n) (AX.STN_ENG.DIST.nth i) })

/-- Show the state of a gear in GEAR_STAT. -/
def State.showGear (s : State) (n : Fin 48) : State :=
  match s.axes[n].gear with
  | none => s.put (.ax n) AX.GEAR_STAT.RAMP 0
  | some g =>
    let left := g.nextIdx < g.stations.length
    let s := s.put (.ax n) AX.GEAR_STAT.NEXT (if left then g.nextIdx else 8)
    s.put (.ax n) AX.GEAR_STAT.RAMP (b2n (decide (absQ (s.axes[n].mNow - g.m0) < g.lenQ)))

/-- The geared setpoint the buffer stop moves toward (R128). -/
def State.gearAt (s : State) (n : Fin 48) (g : Gear) : PVA := g.at s.axes[n].mNow s.axes[n].mVel s.axes[n].mAcc

/-- Whether there is no master entry, or the newest carries LOST or STALE (R130). -/
def State.masterLost (s : State) (n : Fin 48) : Bool :=
  match s.axes[n].mEnt with
  | none => true
  | some e => fld (e.getD 3 0) 35 34 != 0

/-- Why ENGAGE or DISENGAGE is refused, if it is: the conditions of R130 in the order of the REFUSE codes, and a stop's rank
(R132). That order, and 6 for a DISENGAGE at the cutoff of a stop, are the model's (DESIGN CHOICE, log 47). -/
def State.gearRefusal (s : State) (n : Fin 48) (op : Nat) (stop : Bool) : Option Nat :=
  if op = 1 then
    if s.axState n ≠ 1 ∨ s.get (.ax n) AX.PROF_STAT.PSTATE ≠ 0 ∨ s.geared n ∨ s.axes[n].mot.cur.isSome ∨
        s.profUnit n = false then some 1
    else if s.get (.ax n) AX.GEAR_CFG.MSRC = 0 ∨ s.masterLost n = true then some 2
    else if s.get (.ax n) AX.GEAR_CFG.MSRC = 2 ∧
        s.chainReaches n 48 (Fin.ofNat 48 (s.get (.ax n) AX.GEAR_CFG.MIDX)) then some 3
    else if stop then some 4
    else none
  else if s.axes[n].gear.isNone || s.get (.ax n) AX.GEAR_STAT.GSTATE != 1 then some 6
  else if stop then some 4
  else none

/-- Take up ENGAGE or DISENGAGE at a boundary with the state `o` there (R130-R132). An ENGAGE ends a START that waits (DESIGN
CHOICE, log 47). -/
def State.takeGear (s : State) (n : Fin 48) (op : Nat) (stop : Bool) (o : Setp) : State :=
  match s.gearRefusal n op stop with
  | some why => s.gearRefuse n why
  | none =>
    if op = 1 then
      let m := s.axes[n].mNow
      let g : Gear := { m0 := m, s0 := roundQ ((o.p : Rat) / 4096 * 2 ^ 48), r0 := 0,
                        num := s.getI (.ax n) AX.GEAR_NUM.NUM, den := s.get (.ax n) AX.GEAR_DEN.DEN,
                        len := s.getI (.ax n) AX.GEAR_ENG.DIST, stations := s.stations n, nextIdx := 0, below := false,
                        dis := s.getI (.ax n) AX.GEAR_DIS.DIST, mEng := m }
      let (g, fired) := Gear.fireStations m 8 m (g.arm m) 0
      let s := s.put (.ax n) AX.GOV_EPEAK.VALUE 0
      let s := s.updAx n (fun a => { a with
        gear := some g, mot := Motion.idle, holdPos := false, holdNeg := false, gov := { a.gov with clamped := false } })
      let s := (s.put (.ax n) AX.GEAR_STAT.GSTATE 1).fire (.ax n) 17
      (s.doIf (fired != 0) (fun s => s.fire (.ax n) 18)).showGear n
    else match s.axes[n].gear with
      | none => s
      | some g =>
        if g.dis = 0 then s.startRamp n o
        else
          let g' := { g.rebase s.axes[n].mNow 0 1 g.dis with stations := [], nextIdx := 8 }
          ((s.updAx n (fun a => { a with gear := some g' })).put (.ax n) AX.GEAR_STAT.GSTATE 2).showGear n

/-! ### Dice and capture (R174) -/

/-- Refuse START or CAPTURE of dice: END 7 and DICE_DONE (R174, R178). -/
def State.diceRefuse (s : State) (n : Fin 48) : State := (s.put (.ax n) AX.CAP_STAT.END 7).fire (.ax n) 31

/-- Take up a DICE_CMD at a boundary; `busy`: a move, gear engagement, stop or fault is taken up with it (R174). Samples that the
writer has not yet emptied stay in the engine's buffer (R177). A START or CAPTURE over the axis's own running capture starts COUNT
anew, with no END and no DICE_DONE for the capture it replaces; over running dice, START starts the waveform anew, and CAPTURE
leaves it running (DESIGN CHOICE, log 50). -/
def State.takeDice (s : State) (n : Fin 48) (op : Nat) (busy : Bool) : State :=
  let others := (axesOf (aeOf n)).any (fun i => i != n && (s.axes[i].dice.run || s.axes[i].dice.capRun))
  let begin' := fun (dice : Bool) (s : State) =>
    let s := s.updAx n (fun a => { a with
      dice := { a.dice with
        run := dice || a.dice.run, n := if dice then 0 else a.dice.n, t0 := if dice then s.now else a.dice.t0
        lfsr := if dice then 0x7FFF else a.dice.lfsr, capRun := true, capN := 0 } })
    ((s.put (.ax n) AX.CAP_STAT.STATE 1).put (.ax n) AX.CAP_STAT.END 0).put (.ax n) AX.CAP_STAT.COUNT 0
  match op with
  | 1 =>
    if busy || others || s.axState n != 1 || s.get (.ax n) AX.PROF_STAT.PSTATE != 0 || s.geared n then s.diceRefuse n
    else begin' true s
  | 2 => if busy || others || !(s.axState n == 1 || s.axState n == 2) then s.diceRefuse n else begin' false s
  | 3 => (s.diceEnd n).capEnd n 2
  | _ => s

/-- The samples in the buffer of an engine, in words (R177). -/
def State.capHeld (s : State) (k : Fin 12) : Nat := ((axesOf k).map (fun i => s.axes[i].dice.buf.length)).foldl (· + ·) 0

/-- Whether the engine runs an axis's kernels now: its page is live, it runs or is in fault mode, and nothing is halted. -/
def State.engineLive (s : State) (n : Fin 48) : Bool :=
  let k := aeOf n
  let x := s.get (.ae k) AE.ENG_STAT.STATE
  s.runs (.ae k) && (x == 1 || x == 2) && !bit (s.get .dbg DBG.DBG_STAT.ENG) k.val && !s.flag .dbg DBG.DBG_STAT.HALTED

/-- A sample of the capture falls due at a rate (R176, R177): the engine's buffer holds 64 samples of four words. -/
def State.capSample (s : State) (n : Fin 48) (cur : Bool) : State :=
  let d := s.axes[n].dice
  if !d.capRun || s.flag (.ax n) AX.CAP_CFG.RATE != cur || !s.engineLive n then s
  else
    let keep := d.capN % (s.get (.ax n) AX.CAP_CFG.DEC + 1) == 0
    let j := s.get (.ax n) AX.CAP_STAT.COUNT
    let s := s.updAx n (fun a => { a with dice := { a.dice with capN := d.capN + 1 } })
    if !keep || decide (16384 ≤ j) then s
    else if 256 ≤ s.capHeld (aeOf n) then s.capEnd n 4
    else
      let base := 0x4000 * s.get (.ax n) AX.CAP_CFG.BLK + 4 * j
      let chs := [s.get (.ax n) AX.CAP_CFG.CH0, s.get (.ax n) AX.CAP_CFG.CH1, s.get (.ax n) AX.CAP_CFG.CH2,
        s.get (.ax n) AX.CAP_CFG.CH3]
      let ws := chs.zipIdx.map (fun x => (base + x.2, s.axes[n].kern.recd.toList.getD x.1 0))
      (s.updAx n (fun a => { a with dice := { a.dice with buf := a.dice.buf ++ ws } })).put (.ax n) AX.CAP_STAT.COUNT (j + 1)

/-! ### The cutoff (R108, R110, R126, R144, R158) -/

/-- A REPLACE whose first segment is in the hardware queue: the segment has run since the acting boundary (R111). -/
def Motion.entered (m : Motion) (q : List QSeg) : Motion × List QSeg :=
  match q, m.pre with
  | g :: r, some x =>
    if m.replWait && !g.invalid then
      ({ m with replWait := false, cur := some ⟨0, x.p, x.v, g⟩, pre := some { x with width := min x.bt g.dur } }, r)
    else (m, q)
  | _, _ => (m, q)

/-- The motion of an axis advanced to a profile time: what it will be, and what happens on the way. -/
def State.advanceTo (s : State) (n : Fin 48) (tau : Nat) : Motion × List QSeg × List PEv :=
  let a := s.axes[n]
  let (m, q) := a.mot.entered a.hwq
  walk (s.get (.ax n) AX.PROF_CFG.BLEND_T) (a.tabs.length - 1) tau (q.length + 2) m q

/-- The planned state of an axis at a profile time (R139, R144). -/
def State.planAt (s : State) (n : Fin 48) (tau : Nat) : PVA :=
  let a := s.axes[n]
  match a.gear with
  | some g => s.gearAt n g
  | none =>
    match a.mot.ramp with
    | some r => if r.rest ≤ tau then (Setp.mk r.restPos 0 0).pva else r.at (ticksOf tau)
    | none =>
      if a.mot.hard then a.held.pva
      else if a.mot.replWait && a.hwq.isEmpty then ((a.mot.pre.map (fun x => { x with decay := true }.at (ticksOf tau))).getD a.held.pva)
      else
        let (m, q, ev) := s.advanceTo n tau
        match ev.getLast? with
        | some (.done p) => (Setp.mk p 0 0).pva
        | some (.underrun o) => o.pva
        | some (.segFault o) => o.pva
        | _ =>
          if m.gap then (match m.prev with
            | some c => (Setp.mk c.seg.endPos c.seg.endVel 0).pva
            | none => a.held.pva)
          else (m.pathAt q.head? (ticksOf tau)).getD a.held.pva

/-- What the buffer stop works out for a coupling group at a cutoff (R144): σ of the last cutoff and σ, the largest rise d_up, all
in 2^-48, and the group's budget. -/
structure Scale where
  prev : Nat
  sigma : Nat
  up : Nat
  budget : Rat
deriving DecidableEq, Repr

/-- The time scale of a coupling group (R144-R146). Its σ_prev is the smallest its members have. -/
def State.groupSigma (s : State) (grp : List (Fin 48)) (per : Nat) : Scale :=
  let sig := (grp.filter (fun i => s.governed i)).map (fun i => s.axes[i].gov.sigma)
  let prev := sig.foldl min (sig.headD (2 ^ 48))
  let plan := grp.map (fun i =>
    (i, s.planAt i (s.axes[i].mot.tau + (roundQ (sigmaQ prev * per * 65536)).toNat)))
  let e := (plan.map (fun x => s.energy x.1 x.2.v)).foldl (· + ·) 0
  let bs := plan.map (fun x => s.budget x.1 x.2.p x.2.v)
  let b := bs.foldl min (bs.headD 0)
  let vmax := (plan.map (fun x => absQ x.2.v)).foldl max 0
  let decs := grp.map (fun i => (s.getI (.ax i) AX.GOV_DEC.VALUE : Rat) / 4194304)
  let dmin := decs.foldl min (decs.headD 0)
  let req := if e ≤ b then 2 ^ 48 else floor48 (sqrtQ (b / e))
  let up := if vmax = 0 then 2 ^ 48 else floor48 (min 1 (dmin * msOf per / vmax))
  { prev := prev, up := up, budget := b
    sigma := if grp.all (fun i => s.axes[i].gov.ready) then min (min req (prev + up)) (2 ^ 48) else 0 }

/-- σ_out of a group: σ, lowered so that the energy of the velocities put out keeps to the budget (R144, R145). -/
def State.groupOut (s : State) (grp : List (Fin 48)) (per : Nat) (g : Scale) : Nat :=
  let v := fun (i : Fin 48) => (s.planAt i (s.axes[i].mot.tau + (roundQ (sigmaQ g.sigma * per * 65536)).toNat)).v
  let e := (grp.map (fun i => s.energy i (sigmaQ g.sigma * v i))).foldl (· + ·) 0
  if e ≤ g.budget then g.sigma else floor48 (sigmaQ g.sigma * sqrtQ (g.budget / e))

/-- What the profile unit does with the events of the walk. -/
def State.walkEvents (s : State) (n : Fin 48) : List PEv → State
  | [] => s
  | .mark :: r => (s.fire (.ax n) 13).walkEvents n r
  | .done p :: r => (s.updAx n (fun a => { a with mot := Motion.idle, held := ⟨p, 0, 0⟩, doneDue := true })).walkEvents n r
  | .underrun o :: _ => s.motionFault n 9 o
  | .segFault o :: _ => s.motionFault n 8 o

/-- The geared setpoint after the buffer stop, and the lag (R147): from the setpoint put out last toward the relation's
position, no faster than the capped speed. -/
def State.gearOut (s : State) (n : Fin 48) (g : Gear) (per sigma : Nat) : Setp × Int :=
  let a := s.axes[n]
  let pms := msOf per
  let x := s.gearAt n g
  let pPrev : Rat := ((a.next.getD a.held).p : Rat) / 4096
  let lim := sigmaQ sigma * absQ x.v * pms
  let d := x.p - pPrev
  let d' := if d < -lim then -lim else if lim < d then lim else d
  let pOut := pPrev + d'
  ((PVA.mk pOut (d' / pms) (if pOut = x.p then sigmaQ sigma ^ 2 * x.a else 0)).setp, roundQ ((x.p - pOut) * 4096))

/-- A segment taken from the hardware queue becomes active (R95, R107). -/
def State.segBegins (s : State) (n : Fin 48) (g : QSeg) : State :=
  let s := s.doIf g.note (fun s => s.fire (.ax n) 13)
  ((s.showTable n g.tbl).showIdx n g).showQ n

/-- Advance a move that runs to a profile time, with what happens on the way (R98-R107). -/
def State.runOn (s : State) (n : Fin 48) (tau : Nat) : State :=
  let a := s.axes[n]
  let (m, q, ev) := s.advanceTo n tau
  let taken := a.hwq.length - q.length
  let crossed := (((a.mot.cur.map (fun c => [c.seg])).getD [] ++ a.hwq.take taken).dropLast.filter QSeg.last).length
  let o := if m.gap then (match m.prev with
      | some c => ⟨c.seg.endPos, c.seg.endVel, 0⟩
      | none => a.held)
    else (s.planAt n tau).setp
  let s := s.updAx n (fun a => { a with mot := { m with tau := tau }, hwq := q, tabs := a.tabs.drop crossed, held := o })
  let s := match m.cur with
    | some c => s.showTable n c.seg.tbl
    | none => s
  -- with SRC 1, the pushed segments completed; else the active segment's index
  let i := s.get (.ax n) AX.PROF_STAT.SEG_IDX
  let i := if s.flag (.ax n) AX.PROF_CFG.SRC then i + taken + b2n (ev.any (fun e => e != PEv.mark))
    else (m.cur.map (fun c => c.seg.idx)).getD i
  let s := s.put (.ax n) AX.PROF_STAT.SEG_IDX i
  (s.walkEvents n ev).showQ n

/-- Advance the motion of one axis by the time scale: its state at the coming boundary, before the buffer stop (R98, R105, R111,
R112, R144); the setpoint of a geared axis is the one of R147. Where the first segment of a REPLACE turns out invalid, the ramp of
R121 starts from the state that the constant-acceleration or decay path has at the boundary that finds it (DESIGN CHOICE, log 46). -/
def State.advanceAxis (s : State) (n : Fin 48) (per sigma : Nat) : State :=
  let a := s.axes[n]
  match a.gear with
  | some g => s.updAx n (fun a => { a with held := (s.gearOut n g per sigma).1 })
  | none =>
    if a.mot.hard then s
    else
      let tau := a.mot.tau + (roundQ (sigmaQ sigma * per * 65536)).toNat
      match a.mot.ramp with
      | some r =>
        let rest := decide (r.rest ≤ tau)
        let o : Setp := if rest then ⟨r.restPos, 0, 0⟩ else (r.at (ticksOf tau)).setp
        s.updAx n (fun a => { a with mot := { a.mot with tau := tau }, held := o, doneDue := rest })
      | none =>
        if a.mot.replWait then
          -- the first segment of a REPLACE: there, or still missing (R111)
          match a.hwq, a.mot.pre with
          | g :: r, some x =>
            if g.invalid then s.motionFault n 8 (x.at (ticksOf tau)).setp
            else
              let s := s.updAx n (fun a => { a with mot := (a.mot.entered a.hwq).1, hwq := r })
              (s.segBegins n g).runOn n tau
          | _, some x =>
            let x := { x with decay := true }
            let o := (x.at (ticksOf tau)).setp
            let s := s.updAx n (fun a => { a with mot := { a.mot with tau := tau, pre := some x }, held := o })
            if x.bt * 65536 ≤ tau then s.motionFault n 9 o else s
          | _, none => s
        else if a.mot.gap then
          match a.hwq with
          | g :: r =>
            if g.invalid then s.motionFault n 8 a.held
            else
              let m := { Motion.idle with tau := tau, cur := some ⟨tau, a.held.p, a.held.v, g⟩ }
              (s.updAx n (fun a => { a with hwq := r, mot := m, tabs := a.tabs.drop 1 })).segBegins n g
          | [] => s.updAx n (fun a => { a with mot := { a.mot with tau := tau } })
        else if a.mot.cur.isSome then s.runOn n tau
        else s

/-- The setpoint that the axis puts out at the coming boundary, after the buffer stop and after the commands of the cutoff (R138,
R144, R147, R158). -/
def State.limitOut (s : State) (n : Fin 48) (per : Nat) (g : Scale) (sigmaOut : Nat) : State :=
  let a := s.axes[n]
  match a.gear with
  | some gr =>
    let (o, lag) := s.gearOut n gr per g.sigma
    (s.updAx n (fun a => { a with held := o, next := some o })).putI (.ax n) AX.GOV_LAG.VALUE lag
  | none =>
    if a.mot.hard then s
    else
      let x := if a.mot.tau = 0 then a.held.pva else s.planAt n a.mot.tau
      let o := (PVA.mk x.p (sigmaQ sigmaOut * x.v)
        (sigmaQ g.sigma ^ 2 * x.a + (sigmaQ g.sigma - sigmaQ g.prev) / msOf per * x.v)).setp
      s.updAx n (fun a => { a with next := some o })

/-- Whether the newest master entry carries LOST, or none has come for MISS_LIM boundaries (R137). -/
def State.masterGone (s : State) (n : Fin 48) : Bool :=
  (match s.axes[n].mEnt with
   | some e => fld (e.getD 3 0) 35 35 == 1
   | none => false) ||
  decide (s.get (.ax n) AX.GEAR_CFG.MISS_LIM ≤ s.get (.ax n) AX.GEAR_STAT.MISS_RUN)

/-- A geared axis that has lost its master decouples with a ramped stop (R137). -/
def State.masterStop (s : State) (n : Fin 48) (o : Setp) : State :=
  s.doIf (s.geared n && s.masterGone n) (fun s => ((s.leafLost n).fire (.ax n) 19).startRamp n o)

/-- The commands of an axis at its cutoff, in the order of R110, after the loss of its master and with the stop of a fault and
of a limit; then a waiting start, and dice (R174). -/
def State.takeCmds (s : State) (n : Fin 48) : State :=
  let ready := s.axes[n].cmds.filter Cmd.isReady
  let s := s.updAx n (fun a => { a with cmds := a.cmds.filter (fun c => !c.isReady) })
  let o := s.axes[n].held
  let before := s.axes[n].mot.ramp
  let s := s.masterStop n o
  let s := s.doIf s.axes[n].sup.rampDue (fun s =>
    if s.stopping n then s.updAx n (fun a => { a with sup := { a.sup with rampDue := false } }) else s.startRamp n o)
  let s := forEach (ready.filter (fun c => c.kind == .move && c.op == 4)) (fun c s =>
    match s.moveRefusal n c false with
    | some why => s.refuse n why
    | none => if s.stopping n then s else s.startRamp n o) s
  let s := s.limitAct n o
  let stop := s.stopping n
  let newStop := s.axes[n].mot.hard || (s.axes[n].mot.ramp.isSome && before.isNone)
  let repls := ready.filter (fun c => c.kind == .move && c.op == 3)
  let repl := repls.any (fun c => (s.moveRefusal n c stop).isNone)
  let s := s.takeReplaces n stop o repls
  let rest := ready.filter (fun c => (c.kind == .move && (c.op == 1 || c.op == 2 || c.op == 6)) || c.kind == .gear)
  let (s, moved) := rest.foldl (fun (x : State × Bool) c =>
    if c.kind == .gear then
      (x.1.takeGear n c.op stop x.1.axes[n].held, x.2 || (c.op == 1 && (x.1.gearRefusal n c.op stop).isNone))
    else (x.1.takeMove n c stop, x.2 || (c.op != 6 && (x.1.moveRefusal n c stop).isNone))) (s, repl)
  let begins := s.axes[n].mot.startWait && !s.axes[n].hwq.isEmpty
  let s := s.doIf s.axes[n].mot.startWait (fun s => s.beginMove n s.axes[n].held)
  let busy := moved || begins || newStop || s.axState n == 3
  forEach (ready.filter (fun c => c.kind == .dice)) (fun c s => s.takeDice n c.op busy) s

/-- Take the newest entry of MQ and extrapolate it to the boundary 64 ticks ahead; a geared axis whose master is not lost passes
its stations (R126, R129, R131, R132). MISS_RUN stays at 15 (DESIGN CHOICE, log 48). -/
def State.takeMaster (s : State) (n : Fin 48) : State :=
  let (e, s) := s.qPopAll (.mq n)
  let s := match e with
    | some x => (s.updAx n (fun a => { a with mEnt := some x.1 })).put (.ax n) AX.GEAR_STAT.MISS_RUN 0
    | none => s.inc (.ax n) AX.GEAR_STAT.MISS_RUN
  match s.axes[n].mEnt with
  | none => s
  | some x =>
    let tau : Nat := (s.timeC + 64 + 2 ^ 32 - fld (x.getD 3 0) 31 0) % 2 ^ 32
    let t := msOf tau
    let q := (Setp.mk (x.getD 0 0).toInt (x.getD 1 0).toInt (x.getD 2 0).toInt).pva
    let m := q.p + q.v * t + q.a * t ^ 2 / 2
    let s := s.updAx n (fun a => { a with mNow := m, mVel := q.v + q.a * t, mAcc := q.a })
    let s := s.putI (.ax n) AX.GEAR_MPOS.VALUE (roundQ (m * 4096))
    match s.axes[n].gear with
    | none => s
    | some g =>
      if s.get (.ax n) AX.GEAR_STAT.GSTATE = 1 ∧ s.masterGone n = false then
        let (g', fired) := Gear.fireStations m 8 m g 0
        ((s.updAx n (fun a => { a with gear := some g' })).doIf (fired != 0) (fun s => s.fire (.ax n) 18)).showGear n
      else s.showGear n

/-- The encoder's origin of a stepper is taken on every entry to AX_STATE 1, so that the encoder reads the setpoint there
(R169). -/
def State.takeEnc0 (s : State) (n : Fin 48) (scale : Rat) (p : Setp) : State :=
  s.updAx n (fun a => { a with kern := { a.kern with enc0 := (a.fbNew.1 : Rat) / 4096 - p.pva.p / scale } })

/-- A loop parameter's word in force: what it held before the first write not yet taken up (R168). -/
def State.parW (s : State) (n : Fin 48) (off : Nat) : Word :=
  match s.axes[n].params.find? (fun p => p.off == off) with
  | some p => p.old
  | none => s.word (.ax n) off

/-- A field of a loop parameter in force. -/
def State.par (s : State) (n : Fin 48) (f : Fld) : Nat := fld (s.parW n f.off) f.hi f.lo

/-- A signed field of a loop parameter in force. -/
def State.parI (s : State) (n : Fin 48) (f : Fld) : Int := sx (f.hi + 1 - f.lo) (s.par n f)

/-- An unsigned 8.28 parameter in force. -/
def State.par28 (s : State) (n : Fin 48) (f : Fld) : Rat := (s.par n f : Rat) / 2 ^ 28

/-- An axis returns from state 2 to state 1 at standstill, at the setpoint `p` (R88, R169). -/
def State.toReady (s : State) (n : Fin 48) (p : Setp) : State :=
  if s.axState n = 2 then
    (s.put (.ax n) AX.AX_STATE.STATE 1).takeEnc0 n (s.par28 n AX.ENC_SCALE.VALUE) p
  else s

/-- A disengagement ramp that has run its distance: the slave stands, the gear is done (R131). -/
def State.endDisengage (s : State) (n : Fin 48) : State :=
  match s.axes[n].gear with
  | some g =>
    if s.get (.ax n) AX.GEAR_STAT.GSTATE = 2 ∧ g.lenQ ≤ absQ (s.axes[n].mNow - g.m0) then
      let o : Setp := { s.axes[n].held with v := 0, a := 0 }
      (((s.updAx n (fun a => { a with held := o, next := some o })).ungear n).toReady n o).fire (.ax n) 20
    else s
  | none => s

/-- Whether a move, a gear or a ramp is in progress at the coming boundary (R157). -/
def State.inMotion (s : State) (n : Fin 48) : Bool :=
  let m := s.axes[n].mot
  s.get (.ax n) AX.PROF_STAT.PSTATE != 0 || s.geared n || m.ramp.isSome || m.cur.isSome || m.replWait || m.gap

/-- Publish what the buffer stop shows of a setpoint (R139, R144, R145, R157). -/
def State.showGov (s : State) (n : Fin 48) (g : Scale) (sigmaOut : Nat) : State :=
  let o := (s.axes[n].next.getD s.axes[n].held).pva
  let s := s.put (.ax n) AX.GOV_STAT.ZONE (b2n (s.inZone n o.p))
  let s := s.put (.ax n) AX.GOV_STAT.CLAMP (b2n (decide (sigmaOut < 2 ^ 48)))
  let s := s.put (.ax n) AX.GOV_STAT.SIGMA (sigmaOut / 2 ^ 33)
  let s := s.publishCap n (s.budget n o.p o.v)
  let e := (satU 36 (roundQ (s.energy n o.v * 2 ^ 24))).toNat
  let s := s.put (.ax n) AX.GOV_EPEAK.VALUE (max e (s.get (.ax n) AX.GOV_EPEAK.VALUE))
  let s := s.doIf (decide (g.sigma + g.up < g.prev)) (fun s => (s.inc (.ax n) AX.GOV_STAT.CAPSTEPS).fire (.ax n) 23)
  let clampNow := decide (sigmaOut < 2 ^ 48) && s.inMotion n && !s.axes[n].gov.clamped
  let s := s.doIf clampNow (fun s => s.fire (.ax n) 24)
  s.updAx n (fun a => { a with gov := { a.gov with sigma := g.sigma, clamped := a.gov.clamped || clampNow } })

/-- A stepper setpoint that moves a full step or more is not pushed, and the stop of R121 starts from the setpoint last landed
(R120), limited at this boundary like any other (R138, R158). Where that stop would itself move so far, it ends at once at the place
last landed. -/
def State.stepCheck (s : State) (n : Fin 48) (per : Nat) (g : Scale) (sigmaOut : Nat) : State :=
  match s.axes[n].next with
  | none => s
  | some o =>
    let micro := 2 ^ s.get (.ax n) AX.STEP_CFG.MICRO
    let last := s.setp n
    if s.axType n = 2 ∧ s.profRuns n = true ∧ (micro * 4096 : Nat) ≤ (o.p - last.p).natAbs then
      let again := s.axState n == 3
      let o' : Setp := if again then ⟨last.p, 0, 0⟩ else last
      let s := s.motionFault n 10 o'
      s.doIf (s.axState n == 3) (fun s => s.limitOut n per g sigmaOut)
    else s

/-- The loop parameters written at least 64 ticks before the coming boundary are the ones it takes up (R168). -/
def State.cutParams (s : State) (n : Fin 48) : State :=
  s.updAx n (fun a => { a with params := a.params.map (fun p => { p with cut := true }) })

/-- Whether the setpoints of an axis and of its coupling group stand, for the take-up of R143. -/
def State.groupStill (s : State) (n : Fin 48) : Bool :=
  let g := s.get (.ax n) AX.GOV_CFG.CGRP
  (axesOf (aeOf n)).all (fun i =>
    (s.getI (.ax i) AX.SETP_VEL.VALUE == 0) || (i != n && (g == 0 || s.get (.ax i) AX.GOV_CFG.CGRP != g)))

/-- Step 1 of R158 for one axis: staged configuration and a waiting decrease are taken up at standstill (R141, R143). -/
def State.takeStaged (s : State) (n : Fin 48) (still : Bool) : State :=
  s.doIf (still && (!s.axes[n].gov.staged.isEmpty || s.axes[n].gov.lower.isSome)) (fun s => s.takeGov n)

/-- The cutoff of one axis group (R108): masters, then the order of R158: staged configuration, fetched records, σ of each
coupling group, and the commands on the resulting motion; then the setpoints. -/
def State.cutoff (s : State) (k : Fin 12) : State :=
  let axes := (axesOf k).filter (fun n => s.runs (.ax n))
  let per := s.groupP k
  let s := forEach (axesOf k) (fun n s => s.cutParams n) s
  let still := axes.filter (fun n => s.groupStill n)
  let s := forEach axes (fun n s => s.takeStaged n (still.contains n)) s
  let s := forEach axes (fun n s => s.takeRecord n) s
  let s := forEach axes (fun n s => s.takeMaster n) s
  let gov := axes.filter (fun n => s.governed n)
  let sig := gov.map (fun n =>
    let grp := s.couple n
    let g := s.groupSigma grp per
    (n, g, s.groupOut grp per g))
  let s := forEach sig (fun x s => s.advanceAxis x.1 per x.2.1.sigma) s
  let s := forEach axes (fun n s => s.takeCmds n) s
  forEach sig (fun x s =>
    (((s.limitOut x.1 per x.2.1 x.2.2).endDisengage x.1).stepCheck x.1 per x.2.1 x.2.2).showGov x.1 x.2.1 x.2.2) s

end Sys2Proof.Machine
end

