-- ==== Sys2Proof/Machine/Boundary.lean ====
section
/-! DEFINITION. The servo-cycle boundary of an axis group, and the commands and events of profile units, buffer stops and
supervision (R87-R94, R99, R105-R123, R127-R137, R141-R143, R155, R166-R174). -/

namespace Sys2Proof.Machine

/-! ### Parameters of the loops (R168) -/

/-- A write to a loop parameter commits: the word before it stays in force until its take-up (R168); a write in the tick of a
cutoff is in time for its boundary (R191). -/
def State.parWrite (s : State) (n : Fin 48) (off : Nat) (old : Word) : State :=
  let l := s.axes[n].params
  let cut := s.cars[aeOf n].cutAt == some s.now
  if (l.filter (fun p => p.off == off && !p.cut)).isEmpty then
    s.updAx n (fun a => { a with params := a.params ++ [{ off := off, old := old, cut := cut }] })
  else s

/-! ### The boundary (R88, R94, R99, R155, R170) -/

/-- The microstep table address of a setpoint position (R119). -/
def State.stepAddr (s : State) (n : Fin 48) (p : Rat) : Nat :=
  ((p * 64 / (2 ^ s.get (.ax n) AX.STEP_CFG.MICRO : Nat)).floor % 256).toNat

/-- The flag word of a PQ entry (R77, R119, R149). -/
def State.pqFlag (s : State) (n : Fin 48) (o : Setp) : Word :=
  let cyc := s.axes[n].kern.cycle % 65536
  if s.axType n = 2 then BitVec.ofNat 36 (s.stepAddr n o.pva.p <<< 16 ||| cyc)
  else BitVec.ofNat 36 (s.get (.ax n) AX.GOV_CFG.CDIR <<< 35 ||| s.ilim n o.pva.p <<< 24 ||| cyc)

/-- The setpoint that is pushed at this boundary, if any (R89, R99, R114, R121). -/
def State.toPush (s : State) (n : Fin 48) : Option Setp :=
  let t := s.axType n
  let prof := s.get (.ax n) AX.AX_STATE.CAUSE == 7
  if !(t == 1 || t == 2 || t == 3) then none
  else match s.axState n with
    | 1 | 2 => s.axes[n].next
    | 3 => if prof then s.axes[n].next else none
    | 4 =>
      if !prof then none
      else if s.axHold n then some ⟨s.axes[n].held.p, 0, 0⟩ else some ⟨(s.setp n).p, 0, 0⟩
    | _ => none

/-- Push a setpoint into PQ: landed, it shows in SETP_POS, SETP_VEL and SETP_ACC and passes to slaves; refused, QFULL fires
(R90, R94, R124). -/
def State.pushSetp (s : State) (n : Fin 48) (o : Setp) : State :=
  let e : List Word := [BitVec.ofInt 36 o.p, BitVec.ofInt 36 o.v, BitVec.ofInt 36 o.a, s.pqFlag n o]
  let was := s.raised (.ax n) 4
  let (ok, s) := s.qPush (.pq n) e
  if ok then s.doIf (!s.qFlushing (.pq n)) (fun s => s.qLanded (.pq n) e)
  else (s.qNote { s.qCyc (.pq n) with evWas := was }).fire (.ax n) 4

/-- Whether an axis's feedback is valid for its type (R88). -/
def State.fbValid (s : State) (n : Fin 48) : Bool :=
  let t := s.axType n
  t == 4 || (t == 2 && s.get (.ax n) AX.AX_CFG.FB_MODE == 0) ||
  (match s.fbPort n with
   | some m => s.runs (.fb m) && decide (1 ≤ s.get (.fb m) FB.FB_CFG.MODE) && decide (s.get (.fb m) FB.FB_CFG.MODE ≤ 4) &&
      s.axes[n].sup.fbOk.contains m
   | none => false)

/-- Every condition of R88 for the move from state 0 to state 1 but the feedback's. A port is enabled where its page runs and
OSTATE is not 0 (DESIGN CHOICE, log 44). -/
def State.readyBut (s : State) (n : Fin 48) : Bool :=
  let k := aeOf n
  s.runs (.ax n) && s.axType n != 0 && s.runs (.ae k) && s.get (.ae k) AE.ENG_STAT.STATE == 1 &&
    !s.engs[engOf k].failed && s.runs (.dp n) && s.ostate n != 0 && s.flag (.dp n) DP.DP_STAT.PEN

/-- The move from state 0 to state 1 where its conditions hold, and CFG_INVALID (R87, R88, R99, R164, R167, R169, R170); the axis
sees a tripped port as cause 5 (R251). -/
def State.tryReady (s : State) (n : Fin 48) : State :=
  if s.axState n ≠ 0 then s.updAx n (fun a => { a with sup := { a.sup with cfgBad := false } })
  else
    let bad := (s.axType n == 1 || s.axType n == 3) && s.get (.ax n) AX.AX_CFG.FB_MODE == 0 && s.readyBut n
    let was := s.axes[n].sup.cfgBad
    let s := s.updAx n (fun a => { a with sup := { a.sup with cfgBad := bad } })
    let s := s.doIf (bad && !was) (fun s => s.fire (.ax n) 7)
    if !bad && s.readyBut n && s.fbValid n then
      let s := (s.put (.ax n) AX.AX_STATE.STATE 1).put (.ax n) AX.AX_STATE.HOLD 0
      let h : Setp := match s.fbPort n with
        | some _ => ⟨s.axes[n].fbNew.1, 0, 0⟩
        | none => ⟨(s.setp n).p, 0, 0⟩
      let s := (s.clearInteg n).takeEnc0 n (s.par28 n AX.ENC_SCALE.VALUE) h
      (s.updAx n (fun a => { a with
        held := h
        next := some h
        mot := Motion.idle
        doneDue := false
        kern := { a.kern with starvedOnce := false, engRamp := none, engHold := false, mode := 0, e := 0 }
        sup := { a.sup with feTimer := 0, overCnt := 0, rampDue := false, act := 0, feAt := none }
        gov := { a.gov with sigma := 2 ^ 48, clamped := false }
        sol := 0 })).doIf (s.ostate n == 3) (fun s => s.axCause5 n)
    else s

/-- PSTATE of the motion in force (R105, R115, R132). -/
def Motion.pstate (m : Motion) : Nat :=
  if m.ramp.isSome then 2 else if m.cur.isSome || m.replWait || m.gap then 1 else 0

/-- The end of a move or stop at this boundary (R105, R115, R121), and PSTATE and the states 1 and 2 that follow it. -/
def State.settle (s : State) (n : Fin 48) : State :=
  let a := s.axes[n]
  let s := if a.doneDue then
      let stop := a.mot.ramp.isSome || a.mot.hard
      let s := s.updAx n (fun a => { a with doneDue := false, mot := Motion.idle, tabs := [] })
      let s := s.doIf stop (fun s => (s.updAx n (fun a => { a with hwq := [] })).clearStaged n)
      let s := ((s.showQ n).fire (.ax n) 14).moveDone n stop
      if s.axState n = 3 ∧ s.get (.ax n) AX.AX_STATE.CAUSE = 7 then s.faultRested n
      else s.toReady n s.axes[n].held
    else s
  let m := s.axes[n].mot
  let s := s.put (.ax n) AX.PROF_STAT.PSTATE m.pstate
  s.doIf (s.axState n == 1 && (m.pstate == 1 || s.axes[n].gear.isSome)) (fun s => s.put (.ax n) AX.AX_STATE.STATE 2)

/-- The watch of R155 at a boundary, in every axis state; what it finds is due in GOV_OVERSPEED. -/
def State.watchSpeed (s : State) (n : Fin 48) : State :=
  match s.fbPort n with
  | some _ =>
    if inRange (s.axType n) 1 3 then
      let p : Rat := (s.axes[n].fbNew.1 : Rat) / 4096
      let v : Rat := (s.axes[n].fbNew.2 : Rat) / 65536
      let lim := s.budget n p v * (1 + (s.get (.ax n) AX.GOV_WATCH.OVER : Rat) / 256)
      let c := if lim < s.energy n v then s.axes[n].sup.overCnt + 1 else 0
      let due := decide (s.get (.ax n) AX.GOV_WATCH.OVER_N ≤ c)
      s.updAx n (fun a => { a with
        sup := { a.sup with overCnt := if due then 0 else c, overDue := a.sup.overDue || due } })
    else s
  | none => s

/-- Whether an axis's servo or stepper kernel runs against a setpoint (R88, R89). -/
def State.axKernel (s : State) (n : Fin 48) : Bool :=
  let x := s.axState n
  x == 1 || x == 2 || x == 3 || (x == 4 && s.axHold n)

/-- The following-error supervision of R170 and R171, on the error of the cycle that the boundary begins; a fault found is due in
FE_FAULT. -/
def State.watchError (s : State) (n : Fin 48) : State :=
  let t := s.axType n
  if (s.fbPort n).isSome && (t == 1 || t == 2 || t == 3) then
    let e := (s.getI (.ax n) AX.FE_VALUE.VALUE).natAbs
    let beyond := decide (s.par n AX.FE_DIST.VALUE < e)
    let warnAt := s.par n AX.FE_WARN.VALUE
    let a := s.axes[n]
    let warn := warnAt != 0 && decide (warnAt < e)
    let s := s.doIf (warn && !a.sup.feWarned) (fun s => s.fire (.ax n) 28)
    let s := s.updAx n (fun a => { a with sup := { a.sup with feWarned := warn } })
    if !a.kern.fbFresh || a.kern.fbStale then s
    else
      let timer := if beyond then a.sup.feTimer + s.servoP n else 0
      let hit := beyond && !a.sup.feFired && decide (s.par n AX.FE_LIMIT.TIME ≤ timer)
      s.updAx n (fun a => { a with
        sup := { a.sup with feTimer := timer, feFired := beyond && (a.sup.feFired || hit), feDue := a.sup.feDue || hit } })
  else s

/-- Dice and capture end with the axis's states (R174). -/
def State.diceStates (s : State) (n : Fin 48) : State :=
  let x := s.axState n
  let s := s.doIf (x != 1 || s.get (.ax n) AX.PROF_STAT.PSTATE != 0 || s.geared n) (fun s => s.diceEnd n)
  s.doIf (x == 0 || x == 3 || x == 4) (fun s => s.capEnd n 3)

/-- The loop parameters due at this boundary are taken up, on every axis of the group; a current pass that was dispatched before
it keeps the words it began with (R168). -/
def State.takeParams (s : State) (n : Fin 48) : State :=
  s.updAx n (fun a => { a with
    params := a.params.filter (fun p => !p.cut)
    kern := { a.kern with
      passOld := if a.kern.cqWait then a.kern.passOld ++ a.params.filter (fun p => p.cut) else [] } })

/-- What this servo cycle is given is kept for PE, with its number, as long as an entry of the cycle may still come or wait in OQ
(R151-R153, R156). -/
def State.notePlan (s : State) (n : Fin 48) : State :=
  let o := s.setp n
  let plan := match s.axes[n].gear with
    | some g => (s.gearAt n g).setp
    | none => s.axes[n].held
  let c : CycPlan := { cyc := s.axes[n].kern.cycle % 65536, plan := plan, out := o, fLim := s.fLim n o.pva.p,
                       zone := s.inZone n o.pva.p }
  let waits := (s.qGet (.oq n)).map (fun e => fld (e.getD 3 0) 15 0)
  s.updAx n (fun a => { a with
    plans := c :: (a.plans.zipIdx.filter (fun x => decide (x.2 < 7) || waits.contains x.1.cyc)).map (fun x => x.1) })

/-- The boundary of one axis. -/
def State.boundaryAx (s : State) (n : Fin 48) : State :=
  let s := s.updAx n (fun a => { a with kern := { a.kern with cycle := (a.kern.cycle + 1) % 65536 } })
  let s := s.tryReady n
  let s := match s.toPush n with
    | some o => s.pushSetp n o
    | none => s
  let s := ((((s.notePlan n).settle n).watchSpeed n).diceStates n)
  s.doIf (s.axType n == 4) (fun s => (s.updAx n (fun a => { a with
    kern := { a.kern with recd := a.kern.recd.set 14 (BitVec.ofNat 36 (s.get (.ax n) AX.GOV_STAT.SIGMA)) } })).capSample n false)

/-- SERVO_BOUNDARY: the setpoints computed at the cutoff are pushed, states change, supervision runs (R88, R94). -/
def execServoBoundary (k : Fin 12) (s : State) : Out :=
  .next (if s.rst.periRel && !s.flag .dbg DBG.DBG_STAT.HALTED then
    forEach (axesOf k) (fun n s => (s.takeParams n).doIf (s.runs (.ax n)) (fun s => s.boundaryAx n)) s else s)

/-! ### Faults whose limit has been reached (R92, R155, R156, R163, R171) -/

/-- STARVE: STARVE_RUN has reached STARVE_LIM (R92). -/
def execStarve (n : Fin 48) (s : State) : Out :=
  .next (if s.axes[n].sup.starveDue then
    let s := s.updAx n (fun a => { a with sup := { a.sup with starveDue := false } })
    (s.fire (.ax n) 0).raiseFault n 1 (s.faultAct n) else s)

/-- CUR_MISS: CUR_MISS_RUN has reached CUR_MISS_LIM; the port is disabled at once (R92). -/
def execCurMiss (n : Fin 48) (s : State) : Out :=
  .next (if s.axes[n].sup.curMissDue then
    let s := s.updAx n (fun a => { a with sup := { a.sup with curMissDue := false } })
    (s.fire (.ax n) 1).raiseFault n 2 2 else s)

/-- FB_LOSS: FB_MISS_RUN has reached FB_MISS_LIM; a stepper takes FAULT_ACT open-loop, other types lose drive (R92). -/
def execFbLoss (n : Fin 48) (s : State) : Out :=
  .next (if s.axes[n].sup.fbLossDue then
    let s := s.updAx n (fun a => { a with
      sup := { a.sup with fbLossDue := false }
      kern := if s.axType n == 2 then { a.kern with mode := 1 } else a.kern })
    (s.fire (.ax n) 2).raiseFault n 3 (if s.axType n = 2 then s.faultAct n else 2) else s)

/-- GOV_OVERSPEED: feedback energy over the budget's margin for OVER_N boundaries (R155). -/
def execGovOverspeed (n : Fin 48) (s : State) : Out :=
  .next (if s.axes[n].sup.overDue then
    let s := s.updAx n (fun a => { a with sup := { a.sup with overDue := false } })
    (s.fire (.ax n) 21).raiseFault n 7 (s.faultAct n) else s)

/-- GOV_FORCE: closing force over the ceiling in FORCE_N entries; PE disables the port (R156). -/
def execGovForce (n : Fin 48) (s : State) : Out :=
  .next (if s.axes[n].sup.forceDue then
    let s := s.updAx n (fun a => { a with sup := { a.sup with forceDue := false } })
    (s.fire (.ax n) 22).raiseFault n 7 2 else s)

/-- FE_FAULT: the following-error timer has reached FE_LIMIT.TIME (R170, R171). -/
def execFeFault (n : Fin 48) (s : State) : Out :=
  .next (if s.axes[n].sup.feDue then
    let s := s.updAx n (fun a => { a with sup := { a.sup with feDue := false } })
    let s := s.fire (.ax n) 27
    let act1 := s.par n AX.FE_LIMIT.ACT == 1
    match s.axState n with
    | 1 | 2 =>
      (s.raiseFault n 7 (if act1 then 2 else s.faultAct n)).updAx n (fun a => { a with
        sup := { a.sup with feAt := some a.kern.cycle } })
    | 3 => s.doIf act1 (fun s => s.raiseFault n 7 2)
    | 4 => s.doIf (s.axHold n) (fun s => s.dpDisable n)
    | _ => s
    else s)

/-- VSAT: the voltage circle has clamped uq in 16 consecutive passes (R163). -/
def execVsat (n : Fin 48) (s : State) : Out :=
  .next (if s.axes[n].sup.vsatDue then
    (s.updAx n (fun a => { a with sup := { a.sup with vsatDue := false } })).fire (.ax n) 30 else s)

/-! ### Commands of the profile unit -/

/-- AXIS_ACK's effect: in state 4 the axis returns to state 0 and CAUSE clears; its queues keep their entries, for no end of them
is reset or disabled (R84, R88). -/
def State.axisAck (s : State) (n : Fin 48) : State := if s.axState n = 4 then s.axOff n else s

/-- The effect of a SEG_W3 commit: the staged segment joins the queue, or is refused (R107). -/
def State.segPush (s : State) (n : Fin 48) : State :=
  if ¬ s.flag (.ax n) AX.PROF_CFG.SRC then s.refuse n 6
  else if 32 ≤ s.axes[n].hwq.length then s.refuse n 7
  else
    let no := s.axes[n].pushNo + 1
    let g : QSeg := ⟨s.word (.ax n) 0x90, s.word (.ax n) 0x98, s.word (.ax n) 0xA0, s.word (.ax n) 0xA8, 0, no⟩
    (s.updAx n (fun a => { a with hwq := a.hwq ++ [g], pushNo := no })).showQ n

/-- LIMIT_DEBOUNCE_ACCEPT: a limit channel's new level, the one its bank shows now, has held for DEB_US; a hard stop acts on
motion toward it at once (R116-R118). -/
def execLimitDebounceAccept (n : Fin 48) (pos active : Bool) (s : State) : Out :=
  let en := s.flag (.ax n) (if pos then AX.LIM_CFG.POS_EN else AX.LIM_CFG.NEG_EN)
  if s.runs (.ax n) && en && s.limLevel n pos == active then
    let s := s.updAx n (fun a => { a with
      limPos := if pos then active else a.limPos
      limNeg := if pos then a.limNeg else active
      holdPos := a.holdPos && (!pos || active)
      holdNeg := a.holdNeg && (pos || active) })
    .next (s.limitNow n)
  else .next s

/-- MASTER_LOST: the newest entry carries LOST, or MISS_RUN has reached MISS_LIM (R137). The cutoff that finds it acts at once
(R132); this row acts where none has. -/
def execMasterLost (n : Fin 48) (s : State) : Out := .next (s.masterStop n s.axes[n].held)

/-! ### The refill engine and model records (R104, R142) -/

/-- Fetch up to `c` words from a store address as one tablet of a page's world. -/
def State.fetchWords (s : State) (n : Fin 48) (a c : Nat) : List Word × State :=
  s.tabletRead .block (s.pageSecure (.ax n)) ((List.range c).map (fun i => a + i))

/-- The table an axis still fetches from: the first with unfetched segments. -/
def openTab (l : List TblRef) : Option (Nat × TblRef) :=
  (l.zipIdx.find? (fun x => !x.1.ended && x.1.next < x.1.count)).map (fun x => (x.2, x.1))

/-- Whether the refill engine serves a unit (R104). -/
def State.wantsRefill (s : State) (n : Fin 48) : Bool :=
  s.runs (.ax n) && (openTab s.axes[n].tabs).isSome &&
    decide (s.axes[n].hwq.length ≤ s.get (.ax n) AX.PROF_CFG.REFILL_LVL)

/-- Fetch up to `c` segments of a table from index `i` on; none after one with LAST (R104, R105). -/
def State.fetchSegs (s : State) (n : Fin 48) (t : TblRef) : Nat → Nat → List QSeg × State
  | 0, _ => ([], s)
  | c + 1, i =>
    let (ws, s) := s.fetchWords n (t.base + 4 * i) 4
    let g : QSeg := ⟨ws.getD 0 0, ws.getD 1 0, ws.getD 2 0, ws.getD 3 0, t.table, i⟩
    if g.last then ([g], s)
    else
      let (gs, s) := s.fetchSegs n t c (i + 1)
      (g :: gs, s)

/-- One tablet of segments for a unit (R104, R105). -/
def State.refillSegs (s : State) (n : Fin 48) : State :=
  match openTab s.axes[n].tabs with
  | none => s
  | some (i, t) =>
    let room := 32 - s.axes[n].hwq.length
    let (gs, s) := s.fetchSegs n t (min 4 (min room (t.count - t.next))) t.next
    let t' := { t with next := t.next + gs.length, ended := gs.any QSeg.last }
    (s.updAx n (fun a => { a with hwq := a.hwq ++ gs, tabs := a.tabs.set i t' })).showQ n

/-- The unit with the lowest occupancy among those that want a refill, lower numbers first (R104). -/
def State.refillPick (s : State) : Option (Fin 48) :=
  ((List.finRange 48).filter (fun n => s.wantsRefill n)).foldl (fun b n =>
    match b with
    | none => some n
    | some m => if s.axes[n].hwq.length < s.axes[m].hwq.length then some n else some m) none

/-- REFILL_TABLET: one tablet of the refill engine: the first waiting directory read or record fetch, else segments (R104). -/
def execRefillTablet (s : State) : Out :=
  if !s.rst.periRel || !s.rst.storeRdy then .next s
  else match s.refillQ with
    | (true, n) :: r =>
      let s := { s with refillQ := r }
      let (ws, s) := s.fetchWords n (recordBase n) 3
      .next (s.updAx n (fun a => { a with gov := { a.gov with rec_ := some ws, ready := true } }))
    | (false, n) :: r => .next ({ (s.dirArrive n) with refillQ := r })
    | [] => match s.refillPick with
      | some n => .next (s.refillSegs n)
      | none => .next s

/-- MODEL_PUBLISH's effect: the record is asked for (R142). -/
def State.modelPublish (s : State) (n : Fin 48) : State := { s with refillQ := s.refillQ ++ [(true, n)] }

/-- MODEL_RECORD_TAKEUP: at a cutoff a fetched record is taken up, after what is staged (R141, R158). The cutoff itself does so;
this row does it where none has. -/
def execModelRecordTakeup (n : Fin 48) (s : State) : Out :=
  .next (if s.axes[n].gov.rec_.isSome then (s.takeStaged n (s.groupStill n)).takeRecord n else s)

/-! ### Solenoids and dice -/

/-- SOL_CMD's effect on a TYPE 4 axis in AX_STATE 1 (R166). An ON written while ON's own sequence runs starts PULL anew (DESIGN CHOICE,
log 49). -/
def State.solCmd (s : State) (n : Fin 48) (op : Nat) : State :=
  if s.axType n = 4 ∧ s.axState n = 1 ∧ (op = 1 ∨ op = 2) then
    s.updAx n (fun a => { a with sol := if op = 1 then 1 else 3, solSince := s.now })
  else s

/-- SOLENOID_PULL_END: PULL_MS after ON the reference becomes HOLD (R166). -/
def execSolenoidPullEnd (n : Fin 48) (s : State) : Out :=
  .next (if s.axes[n].sol = 1 then s.updAx n (fun a => { a with sol := 2 }) else s)

/-- DICE_END: the waveform has run its time: it ends, or restarts with REPEAT (R173). -/
def execDiceEnd (n : Fin 48) (s : State) : Out :=
  let endless := s.get (.ax n) AX.DICE_T.DUR == 0 && s.get (.ax n) AX.DICE_CFG.WAVE != 0
  if s.axes[n].dice.run && !endless then
    if s.flag (.ax n) AX.DICE_CFG.REPEAT then
      .next (s.updAx n (fun a => { a with dice := { a.dice with n := 0, t0 := s.now, lfsr := 0x7FFF } }))
    else .next (s.diceEnd n)
  else .next s

/-- CAPTURE_COMPLETE: 16,384 samples have been taken (R176). -/
def execCaptureComplete (n : Fin 48) (s : State) : Out :=
  .next (if s.get (.ax n) AX.CAP_STAT.COUNT = 16384 then s.capEnd n 1 else s)

/-- CAPTURE_WRITER_TABLET: the writer empties up to 16 words of an engine's buffer; a denied write ends the capture (R177). -/
def execCaptureWriterTablet (k : Fin 12) (s : State) : Out :=
  match (axesOf k).find? (fun n => !s.axes[n].dice.buf.isEmpty) with
  | none => .next s
  | some n =>
    let ws := s.axes[n].dice.buf.take 16
    let s := s.updAx n (fun a => { a with dice := { a.dice with buf := a.dice.buf.drop 16 } })
    let (ok, s) := s.tabletWrite .block false ws
    .next (s.doIf (!ok) (fun s => s.capEnd n 5))

end Sys2Proof.Machine
end

