-- ==== Sys2Proof/Machine/Dma.lean ====
section
/-! DEFINITION. The host DMA channels and the endpoint's link (R427-R430). -/

namespace Sys2Proof.Machine

/-- Change the host port's working state. -/
def State.updHost (s : State) (f : HostPart → HostPart) : State := { s with host := f s.host }

/-- STATE and ERR of a channel. -/
def State.dmaState (s : State) (c : Fin 9) : Nat := s.get .sys (SYS.DMA_STAT.STATE.nth c.val)

/-- A channel's place: the next slot, or the words left on channel 8. -/
def State.dmaPos (s : State) (c : Fin 9) : Nat := s.get .sys (SYS.DMA_STAT.POS.nth c.val)

/-- Put STATE and ERR of a channel. -/
def State.dmaSet (s : State) (c : Fin 9) (st err : Nat) : State :=
  (s.put .sys (SYS.DMA_STAT.STATE.nth c.val) st).put .sys (SYS.DMA_STAT.ERR.nth c.val) err

/-- Put the place of a channel. -/
def State.dmaPutPos (s : State) (c : Fin 9) (v : Nat) : State := s.put .sys (SYS.DMA_STAT.POS.nth c.val) v

/-- The Ethernet port of a channel. -/
def dmaPort (c : Fin 9) : Fin 2 := ⟨c.val % 2, Nat.mod_lt _ (by decide)⟩

/-- A channel's slots that it has moved are no longer waited for. -/
def State.dmaForget (s : State) (c : Fin 9) : State :=
  if c.val = 6 ∨ c.val = 7 then
    s.updHost (fun h => { h with txMoved := h.txMoved.filter (fun x => x.1 != dmaPort c), txBack := h.txBack.filter (fun x => x.1 != dmaPort c) })
  else s

/-- A channel ends in ERROR, and DMA_ERR fires (R430). -/
def State.dmaFail (s : State) (c : Fin 9) (err : Nat) : State := ((s.dmaSet c 2 err).dmaForget c).fire .dbg 1

/-- Whether channels can reach the host: the link is up, the endpoint in D0 and a bus master; else they wait (R427). -/
def State.dmaReady (s : State) : Bool := s.host.linkUp && !s.host.d3hot && s.host.busMaster

/-- The base of a channel's host area. -/
def State.hostBase (s : State) (c : Fin 9) : Nat :=
  s.get .sys (SYS.DMA_HHI.ADDR.nth c.val) * 2 ^ 32 + s.get .sys (SYS.DMA_HLO.ADDR.nth c.val)

/-- A word as a slot gives it to a 64-bit read: bit 35 copied into bits 63:36 (R32). -/
def wide (w : Word) : BitVec 64 := w.signExtend 64

/-- A posted write of a word to host memory. -/
def State.post (s : State) (addr : Nat) (w : Word) : State := s.updHost (fun h => { h with posted := h.posted ++ [(addr, wide w)] })

/-- Posted writes of words at consecutive addresses. -/
def State.postAll (s : State) (addr : Nat) (ws : List Word) : State :=
  (ws.zipIdx).foldl (fun s x => s.post (addr + 8 * x.2) x.1) s

/-- Store words read one by one up to the first denied transfer; answers whether none was denied (R430). -/
def State.dmaRead (s : State) : List Nat → List Word × Bool × State
  | [] => ([], true, s)
  | a :: l =>
    let a := a % storeWords
    if worldAllows (s.storeWorld a) (s.secure .dma) false then
      let (ws, ok, t) := State.dmaRead s l
      (s.storeGet a :: ws, ok, t)
    else ([], false, s.secDeny .dma true a false)

/-- A ring's base, words of a slot and slots, by channel (R428, R429). -/
def dmaRing (c : Fin 9) : Nat × Nat × Nat :=
  if c.val < 4 then (0x70000 + 0x2000 * c.val, 32, 256)
  else if c.val < 6 then (0x80000 + 0x20000 * (c.val - 4), 512, 128)
  else (0x80000 + 0x20000 * (c.val - 6) + 0x10000, 512, 128)

/-- The last data word of a receive slot, by its word 0 (R389, R411). -/
def lastWord (c : Fin 9) (w0 : Word) : Nat :=
  if c.val < 4 then min 31 (4 + (fld w0 6 0 + 3) / 4) else min 511 (7 + (fld w0 10 0 + 3) / 4)

/-- The receive ring's next slot and the SEQ of its next record. -/
def State.ringHead (s : State) (c : Fin 9) : Nat × Nat :=
  if h : c.val < 4 then
    (s.get (.can ⟨c.val, h⟩) CAN.RX_STAT.WIDX, s.get (.can ⟨c.val, h⟩) CAN.RX_STAT.SEQ)
  else
    let p : Fin 2 := ⟨(c.val - 4) % 2, Nat.mod_lt _ (by decide)⟩
    (s.get (.eth p) ETH.RX_STAT.WIDX, s.get (.eth p) ETH.RX_STAT.SEQ)

/-- Whether the ring writer has overtaken a channel at a slot: the slot's SEQ `q` lies after the expected one and not after the last
that the ring has written (R428). -/
def State.overtaken (s : State) (c : Fin 9) (q : Nat) : Bool :=
  let e := s.host.dmaSeq[c]
  q != e && decide ((q + 65536 - e % 65536) % 65536 < 32768) && decide (((s.ringHead c).2 + 131071 - q) % 65536 < 32768)

/-- A write of DMA_CTL has committed; `old` is the word before it (R428-R430). EN stops a channel after its present slot; channel 8 has
no slots and runs to the end of its copy (DEDUCED, log 71). -/
def State.dmaCtl (s : State) (c : Fin 9) (old : Word) (go : Bool) : State :=
  let en := s.flag .sys (SYS.DMA_CTL.EN.nth c.val)
  let was := fld old 35 35 == 1
  let s := if en && !was && c.val < 8 then
      if c.val < 6 then
        let h := s.ringHead c
        ((s.dmaSet c 1 0).dmaPutPos c h.1).updHost (fun x => { x with dmaSeq := x.dmaSeq.set c h.2 })
      else (s.dmaSet c 1 0).dmaPutPos c (s.get (.eth (dmaPort c)) ETH.TX_CONS.CONS)
    else if !en && was && c.val < 8 then s.put .sys (SYS.DMA_STAT.STATE.nth c.val) 0
    else s
  if go && c == 8 then
    if s.dmaState 8 = 1 then (s.put .sys (SYS.DMA_STAT.ERR.nth 8) 3).fire .dbg 1
    else (s.dmaSet 8 1 0).dmaPutPos 8 (s.get .sys (SYS.DMA_CTL.COUNT.nth 8))
  else s

/-- DMA_RX_SLOT_COPY (R428): the slot's word 0 carries the expected SEQ, or a later one where the ring writer has overtaken the
channel, which then goes on after the record it copied (DEDUCED, log 71). -/
def execDmaRxSlotCopy (c : Fin 9) (s : State) : Out :=
  if decide (6 ≤ c.val) || s.dmaState c != 1 || !s.dmaReady then .next s
  else
    let (base, wps, slots) := dmaRing c
    let i := s.dmaPos c
    let a := base + wps * i
    let host := s.hostBase c + wps * 8 * i
    match s.dmaRead [a] with
    | ([w0], true, s) =>
      let q := fld w0 31 16
      if !(q == s.host.dmaSeq[c] || s.overtaken c q) then .next s
      else
        let n := lastWord c w0
        match s.dmaRead ((List.range n).map (fun k => a + 1 + k)) with
        | (ws, true, s) =>
          let next := (i + 1) % slots
          let s := (s.postAll (host + 8) ws).post host w0
          let s := s.post (s.hostBase c + wps * 8 * slots) (BitVec.ofNat 36 (next <<< 16 ||| q))
          .next ((s.dmaPutPos c next).updHost (fun x => { x with dmaSeq := x.dmaSeq.set c ((q + 1) % 65536) }))
        | (ws, false, s) => .next ((s.postAll (host + 8) ws).dmaFail c 2)
    | (_, _, s) => .next (s.dmaFail c 2)

/-- DMA_TX_SLOT (R429): the words of the host's next slot go to the store slot, and the port's TX_PROD advances. -/
def execDmaTxSlot (c : Fin 9) (slot : List Word) (s : State) : Out :=
  let i := s.dmaPos c
  if !(c.val == 6 || c.val == 7) || s.dmaState c != 1 || !s.dmaReady || i == s.get .sys (SYS.DMA_CTL.COUNT.nth c.val) % 128 then .next s
  else
    let (base, wps, slots) := dmaRing c
    let a := base + wps * i
    let w0 := slot.getD 0 0
    let n := min 504 ((fld w0 10 0 + 3) / 4)
    let (ok, s) := s.tabletWrite .dma (s.secure .dma) ((a, w0) :: (List.range n).map (fun k => (a + 8 + k, slot.getD (8 + k) 0)))
    if !ok then .next (s.dmaFail c 2)
    else
      let next := (i + 1) % slots
      let s := s.updHost (fun h => { h with txMoved := h.txMoved.filter (· != (dmaPort c, i)) ++ [(dmaPort c, i)] })
      .next ((s.put (.eth (dmaPort c)) ETH.TX_PROD.PROD next).dmaPutPos c next)

/-- Write-back of a transmitted slot: words 0 to 2 to the host slot, TX_CONS to the write-back word (R429); a channel in ERROR makes
none. -/
def State.dmaBack (s : State) (p : Fin 2) (i : Nat) : State :=
  let c : Fin 9 := ⟨6 + p.val, by omega⟩
  if s.dmaState c = 2 then s
  else
    let (base, wps, slots) := dmaRing c
    match s.dmaRead ((List.range 3).map (fun k => base + wps * i + k)) with
    | (ws, true, s) =>
      (s.postAll (s.hostBase c + wps * 8 * i) ws).post (s.hostBase c + wps * 8 * slots) (BitVec.ofNat 36 (s.get (.eth p) ETH.TX_CONS.CONS))
    | (ws, false, s) => (s.postAll (s.hostBase c + wps * 8 * i) ws).dmaFail c 2

/-- The write-backs that wait are made where the host can be reached (R427, R429). -/
def State.dmaBacks (s : State) : State :=
  if s.dmaReady then
    forEach s.host.txBack (fun x s => s.dmaBack x.1 x.2) (s.updHost (fun h => { h with txBack := [] }))
  else s

/-- A port has set DONE in a transmit slot: the channel that moved it writes back, also where EN has fallen since (R429). -/
def State.dmaDone (s : State) (p : Fin 2) (i : Nat) : State :=
  if s.host.txMoved.contains (p, i) then
    (s.updHost (fun h => { h with txMoved := h.txMoved.filter (· != (p, i)), txBack := h.txBack ++ [(p, i)] })).dmaBacks
  else s

/-- DMA_COPY_DONE (R430): channel 8 has copied its words, wrapping in the store, and writes COUNT back. -/
def execDmaCopyDone (s : State) : Out :=
  if s.dmaState 8 != 1 || !s.dmaReady then .next s
  else
    let n := s.dmaPos 8
    let src := s.get .sys SYS.DMA_SRC8.SRC
    match s.dmaRead ((List.range n).map (fun k => src + k)) with
    | (ws, true, s) =>
      let s := (s.postAll (s.hostBase 8) ws).post (s.hostBase 8 + 8 * n) (BitVec.ofNat 36 n)
      .next ((s.dmaSet 8 3 0).dmaPutPos 8 0)
    | (ws, false, s) => .next (((s.postAll (s.hostBase 8) ws).dmaPutPos 8 (n - ws.length)).dmaFail 8 2)

/-- The store words that a channel's present slot or copy takes. -/
def State.dmaWords (s : State) (c : Fin 9) : List Nat :=
  if c.val = 8 then (List.range (s.dmaPos 8)).map (fun k => (s.get .sys SYS.DMA_SRC8.SRC + k) % storeWords)
  else (List.range (dmaRing c).2.1).map (fun k => (dmaRing c).1 + (dmaRing c).2.1 * s.dmaPos c + k)

/-- DMA_ERR (R430): a transfer of a running channel that can reach the host is denied (a word that the world of the SYS page may not
access, R46), or a completion faults. -/
def execDmaErr (c : Fin 9) (denied : Bool) (s : State) : Out :=
  let wr := c.val == 6 || c.val == 7
  .next (if s.dmaState c != 1 || !s.dmaReady then s
  else if denied then
    match (s.dmaWords c).find? (fun a => !worldAllows (s.storeWorld a) (s.secure .dma) wr) with
    | some a => (s.secDeny .dma true a wr).dmaFail c 2
    | none => s
  else s.dmaFail c 1)

/-- PERST_ASSERT (R427): the endpoint, its link and its configuration space reset, and every channel ends with ERR 4. -/
def execPerstAssert (s : State) : Out :=
  let s := s.updHost (fun h => { h with linkUp := false, d3hot := false, busMaster := false, msiEnable := false, msiMask := 0, cfg := CfgSpace.reset })
  let s := forEach (List.finRange 9) (fun c s => (s.dmaSet c 2 4).dmaForget c) s
  .next (s.fire .dbg 3)

/-- PCIE_LINK_DOWN (R427): channels wait; LINK_DOWN fires. -/
def execPcieLinkDown (s : State) : Out :=
  .next (if s.host.linkUp then (s.updHost (fun h => { h with linkUp := false })).fire .dbg 0 else s)

end Sys2Proof.Machine
end

