-- ==== Sys2Proof/Machine/DrivePort.lean ====
section
/-! DEFINITION. Drive ports: output levels, the carrier, edge placement, immediate update, trips and the chopper (R249-R269). -/

namespace Sys2Proof.Machine

/-- Whether DBG halts the module (R268, R435). -/
def State.dbgHalted (s : State) : Bool := s.flag .dbg DBG.DBG_STAT.HALTED

/-- Whether a port's counters run at all: it is released and not halted (R268). -/
def State.dpOn (s : State) : Bool := s.rst.dpRel && !s.dbgHalted

/-- Whether a drive port works: released, not OFF, and not frozen by a debug halt (R252, R268). -/
def State.dpLive (s : State) (n : Fin 48) : Bool := s.dpOn && s.ostate n != 0

/-- How many half-bridges an axis type switches from duty words (R86, R253). -/
def dutyWords (ty : Nat) : Nat := if ty = 1 then 3 else if ty = 3 || ty = 4 then 2 else 0

/-- How many half-bridges an axis type uses (R86). -/
def usedOutputs (ty : Nat) : Nat := if ty = 2 then 4 else dutyWords ty

/-! ### The output levels (R249, R250, R259, R268) -/

/-- The dead time in force, in 1/64 tick (R259). -/
def DrivePort.dead (d : DrivePort) : Nat := if fld d.cfgW 3 3 = 1 then fld d.deadW 15 0 else 0

/-- The dead time of a transition: the one in force at it (R259). -/
def DrivePort.deadOf (d : DrivePort) (e : Nat) : Nat := if e < d.carStart * 64 then d.deadWas else d.dead

/-- An edge position, rounded to a tick while the delay lines are bypassed (R256). -/
def edgePos (bypass : Bool) (x : Nat) : Nat := if bypass then (x + 32) / 64 * 64 else x

/-- Where the dead time of a transition ends, the edge to the new level (R256, R259). -/
def DrivePort.deadEnd (d : DrivePort) (bypass : Bool) (e : Nat) : Nat :=
  if d.deadOf e = 0 then e else edgePos bypass (e + d.deadOf e)

/-- The level of a switched output at a place in 1/64 tick: high impedance for the dead time after each transition, so that a
pulse or gap no longer than it never reaches its level (R249, R259). -/
def DrivePort.levelAt (d : DrivePort) (bypass : Bool) (i : Fin 4) (x : Nat) : Lvl :=
  let b := d.waves[i].before (x + 1)
  match b.2 with
  | some e => if x < d.deadEnd bypass e then .z else if b.1 then .high else .low
  | none => if b.1 then .high else .low

/-- The tick at which the ports' counters stand: a debug halt freezes them (R268). -/
def State.dpTick (s : State) : Nat := s.host.haltAt.getD s.now

/-- The level at HBnn_i, `tap` sixty-fourths into the present tick (R249, R250); low after a loss of lock (R52). -/
def State.hbLevel (s : State) (n : Fin 48) (i : Fin 4) (tap : Nat) : Lvl :=
  if s.rst.lossHold then .low
  else match s.ostate n with
  | 0 => fuseState 0
  | 2 =>
    if s.ports[n].forced || decide (usedOutputs (s.axType n) ≤ i.val) then .low
    else s.ports[n].levelAt (s.flag (.dp n) DP.CAL_STAT.CAL_FAULT) i (s.dpTick * 64 + tap)
  | _ => .low

/-- The transitions that an output's present command makes or follows, in 1/64 tick. -/
def Wave.edges (w : Wave) : List Nat :=
  let s0 := w.start * 64
  let joined := w.rise = 0 ∧ w.was = true
  w.edge.toList ++
    (if w.rise < w.fall then (if joined then [] else (if w.was then [s0] else []) ++ [s0 + w.rise]) ++ [s0 + w.fall]
     else if w.was then [s0] else [])

/-- The edges of a port's outputs, both ends of each dead time among them. -/
def DrivePort.edgeList (d : DrivePort) (bypass : Bool) : List Nat :=
  let l := d.waves.toList.flatMap Wave.edges
  l ++ (l.map (d.deadEnd bypass)).filter (fun e => !l.contains e)

/-- The ticks with an edge of one of a port's outputs, so far (R260). -/
def State.edgeTicks (s : State) (n : Fin 48) : List Nat :=
  let d := s.ports[n]
  let l := ((d.edgeList (s.flag (.dp n) DP.CAL_STAT.CAL_FAULT)).map (fun e => e / 64)).filter (fun t => decide (t ≤ s.dpTick))
  d.cutAt.toList ++ l.map (fun t => if t < d.resumed.1 then t - d.resumed.2 else t)

/-- Whether a blanking interval of the trip input runs (R260). -/
def State.blanking (s : State) (n : Fin 48) : Bool :=
  (s.edgeTicks n).any (fun t => decide (s.now < t + fld s.ports[n].tripW 23 14))

/-- Whether no edge of a port is pending within the next 2 ticks (R255). -/
def State.edgeFree (s : State) (n : Fin 48) : Bool :=
  (s.ports[n].edgeList (s.flag (.dp n) DP.CAL_STAT.CAL_FAULT)).all (fun e => decide (e < s.now * 64) || decide ((s.now + 2) * 64 < e))

/-! ### Duty words and edges (R253-R258) -/

/-- A duty word in 2^-35 of the period: 1.0 or more is 1.0 (R253). -/
def dutyOf (w : Word) : Nat := if w.msb then 2 ^ 35 else w.toNat

/-- Rise and fall of the centred pulse of a duty in a period of `t` ticks, in 1/64 tick (R254). -/
def place (t minPulse d : Nat) : Nat × Nat :=
  let h := (divRound ((d * t * 64 : Nat) : Int) (2 ^ 35)).toNat
  let h := if h < minPulse * 64 then 0 else h
  let h := if t * 64 - h < minPulse * 64 then t * 64 else h
  let rise := (t * 64 - h) / 2
  (rise, rise + h)

/-- The edges of a duty under the words in force, on whole ticks while the delay lines are bypassed. -/
def DrivePort.edges (d : DrivePort) (bypass : Bool) (w : Word) : Nat × Nat :=
  let e := place d.carLen (fld d.cfgW 19 10) (dutyOf w)
  (edgePos bypass e.1, edgePos bypass e.2)

/-- The new edges of a pulse after an immediate update `tp` ticks into the period (R258). -/
def immEdges (tp : Nat) (old new : Nat × Nat) : Nat × Nat :=
  let seen := (tp + 2) * 64
  let lim := (tp + 4) * 64
  if old.1 = old.2 ∨ seen < old.1 then
    if lim ≤ new.1 then new else if lim ≤ new.2 then (lim, new.2) else (0, 0)
  else if seen < old.2 then (if lim ≤ new.2 then (old.1, new.2) else (old.1, lim))
  else old

/-- The edges of the present period for each output by the active duty words. -/
def State.dutyEdges (s : State) (n : Fin 48) (i : Nat) : Nat × Nat :=
  if i < dutyWords (s.axType n) then
    s.ports[n].edges (s.flag (.dp n) DP.CAL_STAT.CAL_FAULT) (s.word (.dp n) (DP.DUTY.VALUE.nth i).off)
  else (0, 0)

/-- The shadow words become the active duty; words that the axis type does not use are ignored (R253, R257). -/
def State.activate (s : State) (n : Fin 48) : State :=
  let used := dutyWords (s.axType n)
  forEach [0, 1, 2, 3] (fun i s =>
    s.put (.dp n) (DP.DUTY.VALUE.nth i) (if i < used then (s.ports[n].shadow.toList.getD i 0).toNat else 0)) s

/-- Whether a port's outputs are commanded: not while a cycle-by-cycle trip forces them low (R261). -/
def State.dpFree (s : State) (n : Fin 48) : Bool := s.ostate n == 2 && !s.ports[n].forced

/-- The active duty commands the outputs from a carrier start on (R254). -/
def State.placeEdges (s : State) (n : Fin 48) : State :=
  s.updDp n (fun d => { d with waves := Vector.ofFn (fun i => d.waves[i].next s.now (s.dutyEdges n i.val)) })

/-! ### The chopper's coils (R264-R266) -/

/-- The reference of a coil as a fraction of AMPS_FS (R264). -/
def coilRef (v : Int) (scale : Nat) : Rat := (v : Rat) / 2047 * ((scale : Rat) / 4096)

/-- A coil takes up a reference: a sign change while ON reverses the drive at once and restarts the blanking (R265). -/
def Coil.take (c : Coil) (now : Nat) (switching : Bool) (r : Rat) : Coil :=
  if !switching then { c with ref := r }
  else if r = 0 then { c with ref := 0, phase := .offDone }
  else match c.phase with
    | .offDone => { c with ref := r, phase := .on, since := now, blank := now, neg := r < 0 }
    | .on => if decide (r < 0) = c.neg then { c with ref := r } else { c with ref := r, blank := now, neg := r < 0 }
    | .off => { c with ref := r }

/-- A coil as SWITCHING begins: ON, or both outputs low while its reference is 0 (R265). -/
def Coil.begin (c : Coil) (now : Nat) : Coil :=
  if c.ref = 0 then { c with phase := .offDone }
  else { c with phase := .on, since := now, blank := now, neg := c.ref < 0, openRun := 0 }

/-- Longer than any chopper phase (R269), in 1/64 tick. -/
def wholePhase : Nat := 2 ^ 48

/-- The pulses of a coil's two outputs from a tick on: driven toward the sign of the reference while ON; against it for the fast
decay of an off-time, FAST/16 of TOFF, then both low (R265). -/
def Coil.pulses (c : Coil) (chopW : Word) (now : Nat) : (Nat × Nat) × (Nat × Nat) :=
  let toward := fun (e : Nat × Nat) => if c.neg then ((0, 0), e) else (e, (0, 0))
  match c.phase with
  | .on => toward (0, wholePhase)
  | .off =>
    let fast := (fld chopW 19 15 * fld chopW 33 20 + 15) / 16
    let e := (0, (fast - (now - c.since)) * 64)
    if c.neg then (e, (0, 0)) else ((0, 0), e)
  | .offDone => ((0, 0), (0, 0))

/-- The coils command their outputs from this tick on, on a TYPE 2 axis in SWITCHING (R265). -/
def State.coilOuts (s : State) (n : Fin 48) : State :=
  s.doIf (s.dpFree n && s.axType n == 2) (fun s => s.updDp n (fun d =>
    let a := d.coilA.pulses d.chopW s.now
    let b := d.coilB.pulses d.chopW s.now
    { d with waves := #v[d.waves[0].next s.now a.1, d.waves[1].next s.now a.2,
                         d.waves[2].next s.now b.1, d.waves[3].next s.now b.2] }))

/-- Both coils take the references of the table entries they hold, under the present SCALE (R264). -/
def State.setRefs (s : State) (n : Fin 48) : State :=
  let sc := s.get (.dp n) DP.CHOP_REF.SCALE
  let sw := s.ostate n == 2
  (s.updDp n (fun d => { d with
    coilA := d.coilA.take s.now sw (coilRef d.coilA.raw sc)
    coilB := d.coilB.take s.now sw (coilRef d.coilB.raw sc) })).coilOuts n

/-- A write of CHOP_REF: SCALE acts on the references at once (R264). -/
def State.scaleWritten (s : State) (n : Fin 48) : State := s.doIf (s.axType n == 2) (fun s => s.setRefs n)

/-- Both coils take up the table entry at the address in force (R264). -/
def State.takeStep (s : State) (n : Fin 48) : State :=
  let i := s.get (.dp n) DP.DP_STAT.ADDR
  (s.updDp n (fun d => { d with
    coilA := { d.coilA with raw := s.getI (.dp n) (DP.USTEP.IA.nth i) }
    coilB := { d.coilB with raw := s.getI (.dp n) (DP.USTEP.IB.nth i) } })).setRefs n

/-! ### The trip input (R260-R263) -/

/-- Whether the synchronised TRIPnn is active, by the POL in force (R260). -/
def DrivePort.tripActive (d : DrivePort) : Bool := d.tripPin == (fld d.tripW 1 1 == 1)

/-- What DP_STAT shows of the port's inputs and of a debug halt. -/
def State.dpPins (s : State) (n : Fin 48) : State :=
  (s.put (.dp n) DP.DP_STAT.TRIP_IN (b2n s.ports[n].tripActive)).put (.dp n) DP.DP_STAT.HALTED (b2n s.dbgHalted)

/-- A latched trip: TRIPPED, and cause 5 for the axis (R261, R251). -/
def State.latchTrip (s : State) (n : Fin 48) : State :=
  let was := s.raised (.dp n) 0
  let s := s.updDp n (fun d => { d with latched := some (s.now, was) })
  ((s.dpEnter n 3).fire (.dp n) 0).axCause5 n

/-- CBC_RUN has changed; at CBC_LIM the latch is due (R261). -/
def State.cbcSet (s : State) (n : Fin 48) (run : Nat) : State :=
  (s.put (.dp n) DP.DP_STAT.CBC_RUN run).updDp n (fun d => { d with
    cbcHit := true, cbcDue := decide (fld d.tripW 13 10 ≤ run) })

/-- A validated trip (R261): latched under ACT 0, during a debug halt (R268), and beside a PENnn low of the same cycle (R263);
else the outputs are low until the next carrier start. A re-arm accepted in the same cycle is refused after all, and the port stays
TRIPPED (R263). -/
def State.tripValid (s : State) (n : Fin 48) : State :=
  let s := s.inc (.dp n) DP.DP_STAT.TRIPS
  let s := s.doIf (s.ports[n].rearmAt == some s.now && s.ostate n == 1) (fun s => (s.put (.dp n) DP.DP_STAT.OSTATE 3).fire (.dp n) 10)
  let s := s.updDp n (fun d => { d with tripDone := true, tripAt := some s.now })
  let d := s.ports[n]
  if fld d.tripW 2 2 = 0 ∨ s.dbgHalted ∨ d.penAt = some s.now then s.latchTrip n
  else
    let run := s.get (.dp n) DP.DP_STAT.CBC_RUN
    let s := s.updDp n (fun d => { d.cut s.now with forced := true, cbcPrev := d.cbcHit })
    (s.cbcSet n (if d.cbcHit then run else satInc 4 run)).fire (.dp n) 8

/-- The trip input at an FCLK edge (R260): validated with EN 1 once it has been active at FILT + 1 edges, unless blanking runs;
ignored in OFF; once in an activation. -/
def State.tripCheck (s : State) (n : Fin 48) : State :=
  let d := s.ports[n]
  let ok := s.rst.dpRel && s.ostate n != 0 && fld d.tripW 0 0 == 1 && d.tripActive && !d.tripDone &&
    decide (d.tripSince + fld d.tripW 7 4 ≤ s.now) && !s.blanking n
  s.doIf ok (fun s => s.tripValid n)

/-- TRIP: at this FCLK edge the synchronised TRIPnn has the given level, and the trip is validated where R260 says (R260, R261,
R263, R268). -/
def execTrip (n : Fin 48) (level : Bool) (s : State) : Out :=
  let s := s.updDp n (fun d =>
    if d.tripPin = level then d else { d with tripPin := level, tripSince := s.now, tripDone := false })
  .next ((s.doIf s.rst.dpRel (fun s => s.dpPins n)).tripCheck n)

/-- CBC_LIMIT_LATCH: CBC_RUN has reached CBC_LIM, and the trip is latched as under ACT 0 (R261). -/
def execCbcLimitLatch (n : Fin 48) (s : State) : Out :=
  if s.ports[n].cbcDue && s.ostate n != 0 && s.ostate n != 3 then
    .next ((s.updDp n (fun d => { d with cbcDue := false })).latchTrip n)
  else .next s

/-- The effect of TRIP_CMD.REARM: to HOLD_LOW where R262 accepts it, else REARM_REFUSED. -/
def State.rearm (s : State) (n : Fin 48) : State :=
  if s.ostate n = 3 ∧ s.ports[n].tripActive = false ∧ (s.axState n = 0 ∨ s.axState n = 4) then
    (s.dpEnter n 1).updDp n (fun d => { d with rearmAt := some s.now, cbcDue := false })
  else s.fire (.dp n) 10

/-! ### The carrier (R250-R257, R261) -/

/-- Whether the axis lets its port switch: states 1 to 3, or state 4 with HOLD (R251). -/
def State.axLetsSwitch (s : State) (n : Fin 48) : Bool :=
  let x := s.axState n
  x == 1 || x == 2 || x == 3 || (x == 4 && s.axHold n)

/-- The end of a carrier period for the cycle-by-cycle trip (R261, R263): the port is re-armed and CBC_RUN returns to 0 after a
period without such a trip; one that falls on this very start holds the outputs for the new period and counts in it. -/
def State.cbcPeriod (s : State) (n : Fin 48) : State :=
  let d := s.ports[n]
  if d.forced && d.tripAt == some s.now then
    s.cbcSet n (if d.cbcPrev then satInc 4 (s.get (.dp n) DP.DP_STAT.CBC_RUN) else 1)
  else
    (s.doIf (!d.cbcHit) (fun s => s.put (.dp n) DP.DP_STAT.CBC_RUN 0)).updDp n (fun d => { d with
      forced := false, cbcHit := false, cbcPrev := false, cbcDue := d.cbcDue && d.cbcHit,
      tripDone := d.tripDone && (fld d.tripW 2 2 == 0 || s.ostate n == 3) })

/-- A port takes up the words written since its last carrier start. With EN 0 the trip input is ignored, and under a new POL no edge
has been active yet (R260). -/
def State.takeWords (s : State) (n : Fin 48) (len : Nat) : State :=
  s.updDp n (fun d =>
    let w := s.word (.dp n) 0x50
    let anew := fld w 0 0 == 0 || fld d.tripW 0 0 == 0 || fld w 1 1 != fld d.tripW 1 1
    { d with
      cfgW := s.word (.dp n) 0x40, deadW := s.word (.dp n) 0x48, tripW := w, chopW := s.word (.dp n) 0x60
      deadWas := d.dead
      tripSince := if anew then s.now else d.tripSince
      tripDone := d.tripDone && !anew
      carStart := s.now, carLen := len })

/-- A carrier start of a port in HOLD_LOW, SWITCHING or TRIPPED: the words written since the last one are taken up, the
cycle-by-cycle trip re-arms, HOLD_LOW becomes SWITCHING where R251 allows, and the shadow words become active (R250-R257). -/
def State.carrierStart (s : State) (n : Fin 48) (len : Nat) : State :=
  let s := s.takeWords n len
  let s := ((s.cbcPeriod n).dpPins n).tripCheck n
  let go := s.ostate n == 1 && s.flag (.dp n) DP.DP_STAT.PEN && s.axLetsSwitch n && s.ports[n].popped
  let s := s.doIf go (fun s =>
    (s.put (.dp n) DP.DP_STAT.OSTATE 2).updDp n
      (fun d => { d with coilA := d.coilA.begin s.now, coilB := d.coilB.begin s.now }))
  let s := s.activate n
  let s := s.doIf (s.dpFree n && s.axType n != 2) (fun s => s.placeEdges n)
  s.coilOuts n

/-- Whether a port is in double-update mode (R252). -/
def State.dblMode (s : State) (n : Fin 48) : Bool := s.ostate n != 0 && fld s.ports[n].cfgW 2 2 == 1

/-- A port's share of its group's carrier start, and its converter entries' (R252, R294, R295): in single-update mode a period
lasts CUR_PER, in double-update mode the first half of it rounded down and the second rounded up. In OFF the port runs no
carrier. -/
def State.portStart (s : State) (n : Fin 48) (mid : Bool) : State :=
  let per := s.curPer (aeOf n)
  let dbl := fld (s.word (.dp n) 0x40) 2 2 == 1
  if s.ostate n = 0 then s
  else (s.adcCarrier n).carrierStart n (if mid then per - per / 2 else if dbl then per / 2 else per)

/-- The PWM sync of a group (R159, R160, R252): a LOOP_RATE word accepted since the last one comes into force, and the four
carriers start together. A stepper's capture at the current rate samples here (R176). -/
def State.pwmSync (s : State) (k : Fin 12) : State :=
  let s := { s with cars := s.cars.set k { s.cars[k] with rate := s.word (.ae k) 0x40, sync := s.now, half := false } }
  let s := forEach (axesOf k) (fun n s => s.portStart n false) s
  forEach (axesOf k) (fun n s => s.doIf (s.axType n == 2) (fun s => s.capSample n true)) s

/-- CARRIER_START: the next carrier start of an axis group falls now: the middle of the loop period for the ports in
double-update mode, else the PWM sync for all four (R252). -/
def execCarrierStart (k : Fin 12) (s : State) : Out :=
  let mid := (axesOf k).filter s.dblMode
  .next (if !s.dpOn then s
  else if s.cars[k].half || mid.isEmpty then s.pwmSync k
  else forEach mid (fun n s => s.portStart n true) { s with cars := s.cars.set k { s.cars[k] with half := true } })

/-- A port takes one entry from its DQ (R251, R253, R257, R258, R264), in every output state; with UPD 1 the word becomes active
in this period. -/
def State.dqTake (s : State) (n : Fin 48) (e : List Word) : State :=
  let s := s.updDp n (fun d => { d with popped := true })
  if s.axType n = 2 then (s.put (.dp n) DP.DP_STAT.ADDR ((e.getD 0 0).toNat % 256)).takeStep n
  else
    let s := s.updDp n (fun d => { d with shadow := #v[e.getD 0 0, e.getD 1 0, e.getD 2 0, e.getD 3 0] })
    s.doIf (s.flag (.dp n) DP.DP_CFG.UPD) (fun s =>
      let s := s.activate n
      let tp := s.now - s.ports[n].carStart
      s.doIf (s.dpFree n) (fun s => s.updDp n (fun d => { d with
        waves := Vector.ofFn (fun i =>
          let w := d.waves[i]
          let e := immEdges tp (w.rise, w.fall) (s.dutyEdges n i.val)
          { w with rise := e.1, fall := e.2 }) })))

/-- The port pops its DQ, where the cycle began with an entry in it. -/
def State.dqPop (s : State) (n : Fin 48) : State :=
  match s.qOld (.dq n) with
  | [] => s
  | e :: _ => (s.qPop (.dq n)).2.dqTake n e

/-- DRIVE_PORT_DQ_POP: at a tick at which its DQ holds an entry the port pops it, once (R83); an unused axis's port pops none. -/
def execDrivePortDqPop (n : Fin 48) (s : State) : Out :=
  if s.dpLive n && s.axType n != 0 && (s.qCyc (.dq n)).popped == 0 then .next (s.dqPop n) else .next s

/-- Whether a PEN ball is high, as the island shows it (R312). -/
def State.penBall (s : State) (n : Fin 48) : Bool :=
  if n.val < 36 then bit (s.get (.si 0) SI0.PEN_BALL0.BALL) n.val
  else bit (s.get (.si 0) SI0.PEN_BALL1.BALL) (n.val - 36)

/-- PEN_LOW: a low PENnn has crossed into the port: SWITCHING becomes HOLD_LOW, and the axis sees cause 5 (R27, R250, R251); a
cycle-by-cycle trip of the same cycle is latched (R263). A port enable that is high leaves the port as it is. -/
def execPenLow (n : Fin 48) (s : State) : Out :=
  if s.penBall n then .next s
  else
    let s := (s.put (.dp n) DP.DP_STAT.PEN 0).updDp n (fun d => { d with penAt := some s.now })
    let both := s.ports[n].forced && s.ports[n].tripAt == some s.now
    let s := if both then s.latchTrip n else s.doIf (s.ostate n == 2) (fun s => (s.dpEnter n 1).fire (.dp n) 9)
    .next (s.axCause5 n)

/-- A port that is OFF and enabled enters HOLD_LOW; its trip input is heeded from here on (R250, R260). -/
def State.dpLeaveOff (s : State) (n : Fin 48) : State :=
  s.doIf (s.rst.dpRel && s.ostate n == 0) (fun s =>
    (((s.put (.dp n) DP.DP_STAT.OSTATE 1).put (.dp n) DP.DP_STAT.PEN (b2n (s.penBall n))).updDp n
      (fun d => { d with tripSince := s.now })).dpPins n)

/-! ### The delay lines (R255, R256) -/

/-- The edges of the period in progress that are still to come, placed anew for a change of the bypass (R256). -/
def State.replace (s : State) (n : Fin 48) : State :=
  s.doIf (s.dpFree n && s.axType n != 2) (fun s => s.updDp n (fun d => { d with
    waves := Vector.ofFn (fun i =>
      let w := d.waves[i]
      let e := if s.flag (.dp n) DP.CAL_STAT.CAL_FAULT then (edgePos true w.rise, edgePos true w.fall) else s.dutyEdges n i.val
      let later := fun (old new : Nat) => if w.start * 64 + old < s.now * 64 then old else new
      { w with rise := later w.rise e.1, fall := later w.fall e.2 }) }))

/-- Whether a measurement lies in the range of R256. -/
def fineTaps (ntap : Nat) : Bool := decide (40 ≤ ntap ∧ ntap ≤ 120)

/-- DELAY_LINE_CALIBRATION: a measurement of NTAP elements per tick, in every output state, builds a new map; one outside the range
bypasses the delay lines (R255, R256). -/
def execDelayLineCalibration (n : Fin 48) (ntap : Nat) (s : State) : Out :=
  if s.dpOn then
    let s := (s.put (.dp n) DP.CAL_STAT.NTAP ntap).updDp n (fun d => { d with calNew := some ntap })
    .next (if fineTaps ntap then s else ((s.put (.dp n) DP.CAL_STAT.CAL_FAULT 1).replace n).fire (.dp n) 11)
  else .next s

/-- CALIBRATION_MAP_TAKEUP: the new map comes into force at a carrier start with no edge pending within 2 ticks; until then the
old one stays. The map of a measurement inside the range ends a bypass (R255, R256). -/
def execCalibrationMapTakeup (n : Fin 48) (s : State) : Out :=
  if s.dpLive n && s.ports[n].calNew.isSome && s.ports[n].carStart == s.now && s.edgeFree n then
    let s := s.updDp n (fun d => { d with calMap := d.calNew, calNew := none })
    let s := s.put (.dp n) DP.CAL_STAT.CAL_CNT (s.get (.dp n) DP.CAL_STAT.CAL_CNT + 1)
    let ends := s.flag (.dp n) DP.CAL_STAT.CAL_FAULT && s.ports[n].calMap.any fineTaps
    .next (s.doIf ends (fun s => (s.put (.dp n) DP.CAL_STAT.CAL_FAULT 0).replace n))
  else .next s

/-! ### The chopper's phases (R265, R266) -/

/-- A coil of a port. -/
def DrivePort.coil (d : DrivePort) (b : Bool) : Coil := if b then d.coilB else d.coilA

/-- Change a coil of a port. -/
def DrivePort.updCoil (d : DrivePort) (b : Bool) (f : Coil → Coil) : DrivePort :=
  if b then { d with coilB := f d.coilB } else { d with coilA := f d.coilA }

/-- Whether a coil of a port is chopped: a TYPE 2 axis in SWITCHING, not halted. -/
def State.chops (s : State) (n : Fin 48) : Bool := s.dpLive n && s.axType n == 2 && s.ostate n == 2

/-- The 10-bit setting of a coil's comparator DAC, and whether current in the direction driven raises the code: the code at which
R292 would give |res| = |ref| (R298). The rounding to 10 bits is not stated: a free value (log 66). -/
def State.cmpDac (s : State) (n : Fin 48) (coilB : Bool) : Bool × Int :=
  let c := s.ports[n].coil coilB
  let j := 2 * (n.val % 8) + b2n coilB
  let w := s.word (.adc (adcOf n)) (ADC.IN_CAL.OFS.nth j).off
  let up := c.neg == (fld w 35 35 == 1)
  let g := fld w 23 0
  if g = 0 then (up, if up then 1024 else -1)
  else
    let x : Rat := (if c.ref < 0 then -c.ref else c.ref) * 8192 * 2 ^ 20 / g
    let k : Rat := ((8192 : Int) + sx 11 (fld w 34 24) + (if up then x else -x)) / 16
    let r := if k = k.floor ∨ ¬ Config.roundsUp 298 (BitVec.ofNat 36 n.val) w then k.floor else k.floor + 1
    (up, clamp 0 1023 r)

/-- Whether a coil's comparator shows the reference reached, at a voltage on ISnn given as the code it would convert to (R298). -/
def State.cmpReached (s : State) (n : Fin 48) (coilB : Bool) (volt : Nat) : Bool :=
  let d := s.cmpDac n coilB
  if d.1 then decide (16 * d.2 ≤ (volt : Int)) else decide ((volt : Int) ≤ 16 * d.2)

/-- CHOPPER_COMPARATOR_TRIP: where the comparator shows the reference reached, past CBLANK, an on-phase ends (R265, R266, R298). -/
def execChopperComparatorTrip (n : Fin 48) (coilB : Bool) (volt : Nat) (s : State) : Out :=
  let c := s.ports[n].coil coilB
  if s.chops n && s.cmpReached n coilB volt && c.phase == .on && decide (c.blank + fld s.ports[n].chopW 9 0 ≤ s.now) then
    .next ((s.updDp n (fun d => d.updCoil coilB (fun c => { c with phase := .off, since := s.now, openRun := 0 }))).coilOuts n)
  else .next s

/-- CHOPPER_TON_MAX_EXPIRY: an on-phase reaches TON_MAX (R265, R266). -/
def execChopperTonMaxExpiry (n : Fin 48) (coilB : Bool) (s : State) : Out :=
  let c := s.ports[n].coil coilB
  if s.chops n && c.phase == .on && decide (c.since + s.get (.dp n) DP.CHOP_REF.TON_MAX_US * 300 ≤ s.now) then
    .next ((s.updDp n (fun d => d.updCoil coilB (fun c =>
      { c with phase := .off, since := s.now, openRun := c.openRun + 1, openDue := c.openDue || c.openRun + 1 == 16 }))).coilOuts n)
  else .next s

/-- CHOPPER_OFF_TIME_END: an off-phase has lasted TOFF (R265). -/
def execChopperOffTimeEnd (n : Fin 48) (coilB : Bool) (s : State) : Out :=
  let c := s.ports[n].coil coilB
  if s.chops n && c.phase == .off && decide (c.since + fld s.ports[n].chopW 33 20 ≤ s.now) then
    .next ((s.updDp n (fun d => d.updCoil coilB (fun c =>
      { c with phase := .on, since := s.now, blank := s.now, neg := c.ref < 0 }))).coilOuts n)
  else .next s

/-- OPEN_LOAD: sixteen on-phases in a row have reached TON_MAX; the port fires OPEN_LOAD and goes on chopping (R266). -/
def execOpenLoad (n : Fin 48) (coilB : Bool) (s : State) : Out :=
  if (s.ports[n].coil coilB).openDue then
    .next ((s.updDp n (fun d => d.updCoil coilB (fun c => { c with openDue := false }))).fire (.dp n) 12)
  else .next s

end Sys2Proof.Machine
end

