-- ==== Sys2Proof/Machine/Masters.lean ====
section
/-! DEFINITION. Virtual masters: frames, the alpha-beta filter, and the pushes to slaves (R134-R136). -/

namespace Sys2Proof.Machine

/-- VMv_STAT.STATE. -/
def State.vmState (s : State) (v : Fin 8) : Nat := s.get .pe (PE.VM_STAT.STATE.nth v)

/-- Change a virtual master's working values. -/
def State.updVm (s : State) (v : Fin 8) (f : VMast → VMast) : State := { s with vms := s.vms.set v (f s.vms[v]) }

/-- PE's programs run: its page is live and it is neither trapped nor halted. -/
def State.peLive (s : State) : Bool :=
  s.runs .pe && !s.engs[peIx].dead && !bit (s.get .dbg DBG.DBG_STAT.ENG) 12 && !s.flag .dbg DBG.DBG_STAT.HALTED

/-- A virtual master is lost: LOSSES counts and VMv_LOST fires (R135, R136). -/
def State.vmLose (s : State) (v : Fin 8) : State :=
  let s := (s.put .pe (PE.VM_STAT.STATE.nth v) 3).inc .pe (PE.VM_STAT.LOSSES.nth v)
  (s.updVm v (fun m => { m with nOut := 0 })).fire .pe (8 + v.val)

/-- A frame in a receive ring as PE examines it for a virtual master (R134): CAN identifier with IDE, or EtherType; the data field
(Ethernet: the payload after the EtherType); receive stamp in 1/64 ns. -/
structure VmFrame where
  ide : Bool
  ident : Nat
  data : List (BitVec 8)
  stamp : Nat
deriving DecidableEq, Repr

/-- The receive ring of a link (R389, R411): its first word, the words of a slot, the number of slots, the next slot and the next
sequence number to be written. Links 0 to 3 are CAN, 4 and 5 Ethernet. -/
structure RxRing where
  base : Nat
  size : Nat
  slots : Nat
  widx : Nat
  seq : Nat

/-- The ring of a virtual master's link. -/
def State.vmRing (s : State) (v : Fin 8) : RxRing :=
  let l := s.get .pe (PE.VM_SRC.LINK.nth v)
  if h : l < 4 then
    ⟨0x70000 + 0x2000 * l, 32, 256, s.get (.can ⟨l, h⟩) CAN.RX_STAT.WIDX, s.get (.can ⟨l, h⟩) CAN.RX_STAT.SEQ⟩
  else
    let q : Fin 2 := Fin.ofNat 2 l
    ⟨0x80000 + 0x20000 * q.val, 512, 128, s.get (.eth q) ETH.RX_STAT.WIDX, s.get (.eth q) ETH.RX_STAT.SEQ⟩

/-- EN and LINK of a virtual master after a write to VMv_SRC over `old` (R135, R136): EN rising, it acquires; falling, it is idle.
PE examines the frames recorded from then on (R134). -/
def State.vmEnable (s : State) (v : Fin 8) (old : Word) : State :=
  let now := s.flag .pe (PE.VM_SRC.EN.nth v)
  let fresh := (now && !old.msb) || s.get .pe (PE.VM_SRC.LINK.nth v) != fld old 34 32
  let s := s.doIf fresh (fun s => s.updVm v (fun m => { m with seq := (s.vmRing v).seq }))
  if now ∧ ¬ old.msb then
    ((s.updVm v (fun m => { m with nAcq := 0, nOut := 0 })).put .pe (PE.VM_STAT.STATE.nth v) 1).put .pe (PE.VM_LAT.LAT_MAX_US.nth v) 0
  else if ¬ now then s.put .pe (PE.VM_STAT.STATE.nth v) 0
  else s

/-- `k` bytes at an offset, big-endian. -/
def beBytes (d : List (BitVec 8)) (o k : Nat) : Nat := ((d.drop o).take k).foldl (fun a b => a * 256 + b.toNat) 0

/-- The bytes of words that hold four each, the first in bits 31:24. -/
def bytesOf (l : List Word) : List (BitVec 8) :=
  l.flatMap (fun w => [24, 16, 8, 0].map (fun k => BitVec.ofNat 8 (w.toNat >>> k)))

/-- The frame that a slot of a virtual master's ring records (R389, R411); an 802.1Q tag comes before the EtherType. -/
def State.ringFrame (s : State) (v : Fin 8) (slot : Nat) : VmFrame :=
  let r := s.vmRing v
  let can := decide (s.get .pe (PE.VM_SRC.LINK.nth v) < 4)
  let at' := fun i => s.storeGet (r.base + r.size * slot + i)
  let len := if can then fld (at' 0) 6 0 else fld (at' 0) 10 0
  let first := if can then 5 else 8
  let stamp := if can then (at' 2, at' 3) else (at' 1, at' 2)
  let b := (bytesOf ((List.range ((len + 3) / 4)).map (fun i => at' (first + i)))).take len
  let o := if beBytes b 12 2 = 0x8100 then 16 else 12
  { ide := can && (at' 1).msb
    ident := if can then fld (at' 1) 28 0 else beBytes b o 2
    data := if can then b else b.drop (o + 2)
    stamp := stamp.2.toNat * 64000000000 + stamp.1.toNat }

/-- Whether a frame matches a virtual master (R134). -/
def State.vmMatch (s : State) (v : Fin 8) (f : VmFrame) : Bool :=
  let mt := s.get .pe (PE.VM_SRC.MATCH.nth v)
  if s.get .pe (PE.VM_SRC.LINK.nth v) < 4 then f.ident == mt && f.ide == s.flag .pe (PE.VM_SRC.IDE.nth v)
  else f.ident == mt % 65536 && (match f.data.head? with
     | some b => b.toNat == mt / 65536 % 256
     | none => false)

/-- The next matching frame in the ring from a sequence number on, and the number after it; frames that are no longer there are
passed over (R134, R390). -/
def State.nextFrame (s : State) (v : Fin 8) : Nat → Nat → Option VmFrame × Nat
  | 0, q => (none, q)
  | k + 1, q =>
    let r := s.vmRing v
    if q = r.seq then (none, q)
    else
      let slot := (r.widx + 65536 - (r.seq + 65536 - q) % 65536) % r.slots
      let f := s.ringFrame v slot
      if fld (s.storeGet (r.base + r.size * slot)) 31 16 = q ∧ s.vmMatch v f = true then (some f, (q + 1) % 65536)
      else s.nextFrame v k ((q + 1) % 65536)

/-- What PE finds as it examines the ring of a virtual master's link: the frames not examined yet that the ring still holds. -/
def State.vmLook (s : State) (v : Fin 8) : Option VmFrame × Nat :=
  let r := s.vmRing v
  let behind := (r.seq + 65536 - s.vms[v].seq) % 65536
  s.nextFrame v r.slots (if r.slots < behind then (r.seq + 65536 - r.slots) % 65536 else s.vms[v].seq)

/-- The sample instant of a frame, where it is good: not too short, nanoseconds in range, not after the receive stamp (R134). -/
def State.vmInstant (s : State) (v : Fin 8) (f : VmFrame) : Option Int :=
  let po := s.get .pe (PE.VM_FMT.POS_OFS.nth v)
  let ts := s.get .pe (PE.VM_FMT.TS_OFS.nth v)
  let stamped := s.flag .pe (PE.VM_FMT.LAT_MODE.nth v)
  let ns := beBytes f.data (ts + 4) 4
  if f.data.length < po + 4 then none
  else if stamped then
    if f.data.length < ts + 8 ∨ 999999999 < ns then none
    else
      let t : Int := ((beBytes f.data ts 4 * 1000000000 + ns) * 64 : Nat)
      if (f.stamp : Int) < t then none else some t
  else some ((f.stamp : Int) - (s.get .pe (PE.VM_FMT.LAT_US.nth v) * 64000 : Nat))

/-- A duration in 1/64 ns, in ms. -/
def msOf64 (d : Int) : Rat := (d : Rat) / 64000000

/-- A frame is accepted with new filter values: the registers that show them follow (R135). The latency is rounded down and
held at 65,535, and LAT_MAX_US follows it in either LAT_MODE (DESIGN CHOICE, log 48). -/
def State.vmAccept (s : State) (v : Fin 8) (f : VmFrame) (tf : Int) (p vel : Rat) (nAcq st : Nat) : State :=
  let s := s.updVm v (fun m => { m with p := p, v := vel, tLast := tf, rxLast := f.stamp, nAcq := nAcq, nOut := 0 })
  let s := s.put .pe (PE.VM_STAT.STATE.nth v) st
  let lat := if s.flag .pe (PE.VM_FMT.LAT_MODE.nth v) then min 65535 (((f.stamp : Int) - tf) / 64000).toNat
    else s.get .pe (PE.VM_FMT.LAT_US.nth v)
  let s := s.put .pe (PE.VM_LAT.LAT_US.nth v) lat
  let s := s.put .pe (PE.VM_LAT.LAT_MAX_US.nth v) (max lat (s.get .pe (PE.VM_LAT.LAT_MAX_US.nth v)))
  let s := s.putI .pe (PE.VM_POS.VALUE.nth v) (roundQ (p * 4096))
  s.putI .pe (PE.VM_VEL.VALUE.nth v) (roundQ (vel * 65536))

/-- The filter of R135 on a matching frame with a good sample instant. -/
def State.vmFilter (s : State) (v : Fin 8) (f : VmFrame) (tf : Int) : State :=
  let m := s.vms[v]
  let st := s.vmState v
  let y : Rat := sx 32 (beBytes f.data (s.get .pe (PE.VM_FMT.POS_OFS.nth v)) 4)
  if st = 1 ∧ m.nAcq = 0 then s.vmAccept v f tf y 0 1 1
  else if tf ≤ m.tLast then s.inc .pe (PE.VM_STAT.OLD.nth v)
  else if st = 3 then s.vmAccept v f tf y 0 1 1
  else
    let d := msOf64 (tf - m.tLast)
    let pHat := m.p + m.v * d
    let res := y - pHat
    let gate := s.get .pe (PE.VM_TO.GATE.nth v)
    if st = 1 then s.vmAccept v f tf y ((y - m.p) / d) 2 2
    else if gate ≠ 0 ∧ ((gate : Rat) < res ∨ res < -(gate : Rat)) then
      (s.inc .pe (PE.VM_STAT.OUTLIERS.nth v)).updVm v (fun m => { m with nOut := m.nOut + 1 })
    else
      let al : Rat := (s.get .pe (PE.VM_FILT.ALPHA.nth v) : Rat) / 4096
      let be : Rat := (s.get .pe (PE.VM_FILT.BETA.nth v) : Rat) / 4096
      s.vmAccept v f tf (pHat + al * res) (m.v + be * res / d) m.nAcq 2

/-- A third consecutive outlier has been counted (R135). -/
def State.vmOutlier (s : State) (v : Fin 8) : State :=
  if 3 ≤ s.vms[v].nOut ∧ s.vmState v = 2 then s.vmLose v else s

/-- VM_OUTLIER_LOSS: the third consecutive outlier puts the virtual master in LOST (R135), while PE runs (R217). -/
def execVmOutlierLoss (v : Fin 8) (s : State) : Out := .next (s.doIf s.peLive (fun s => s.vmOutlier v))

/-- VM_FRAME_RECEIVED: PE examines the receive ring of its link for a virtual master and takes the next matching frame (R134,
R135). -/
def execVmFrameReceived (v : Fin 8) (s : State) : Out :=
  if s.peLive && s.flag .pe (PE.VM_SRC.EN.nth v) then
    let x := s.vmLook v
    let s := s.updVm v (fun m => { m with seq := x.2 })
    match x.1 with
    | none => .next s
    | some f =>
      let s := s.vmOutlier v
      match s.vmInstant v f with
      | none => .next (s.inc .pe (PE.VM_STAT.BAD.nth v))
      | some tf => .next (s.vmFilter v f tf)
  else .next s

/-- VM_MASTER_PUSH: PE pushes its master's value, extrapolated to the slave's boundary `dt` ticks ahead, into the slave's MQ
(R124, R136). -/
def execVmMasterPush (n : Fin 48) (dt : Nat) (s : State) : Out :=
  let i := s.get (.ax n) AX.GEAR_CFG.MIDX
  if h : i < 8 then
    let v : Fin 8 := ⟨i, h⟩
    if s.peLive && s.runs (.ax n) && s.get (.ax n) AX.GEAR_CFG.MSRC == 3 && s.flag .pe (PE.VM_SRC.EN.nth v) then
      let t := s.timeAt (s.timeC + dt)
      let m := s.vms[v]
      let late := decide ((s.get .pe (PE.VM_TO.TO_MS.nth v) * 64000000 : Nat) < t - m.rxLast)
      let s := s.doIf (s.vmState v == 2 && late) (fun s => s.vmLose v)
      let st := s.vmState v
      let x := m.p + m.v * msOf64 (t - m.tLast)
      let none' := st == 1 && m.nAcq == 0
      let (w, s) := if none' then s.fresh else (wordS (roundQ (x * 4096)), s)
      let vel := if none' then 0 else satS 36 (roundQ (m.v * 65536))
      .next (s.qPush (.mq n) [w, BitVec.ofInt 36 vel, 0,
        BitVec.ofNat 36 (b2n (st == 3) <<< 35 ||| b2n (st == 1) <<< 34 ||| (s.timeC + dt) % 2 ^ 32)]).2
    else .next s
  else .next s

end Sys2Proof.Machine
end

