-- ==== Sys2Proof/Machine/EngineCtl.lean ====
section
/-! DEFINITION. The engines outside their instruction set: tasks and the scheduler, traps and fault mode, heartbeats, start,
halt, reset and reload (R73, R206-R220). Engine cycles are counted two to a tick. -/

namespace Sys2Proof.Machine

/-- ENG_STAT.STATE of an axis engine. -/
def State.engState (s : State) (k : Fin 12) : Nat := s.get (.ae k) AE.ENG_STAT.STATE

/-- Whether an engine is halted by DBG (R435). -/
def State.engHalted (s : State) (e : Fin 13) : Bool := bit (s.get .dbg DBG.DBG_STAT.ENG) e.val || s.flag .dbg DBG.DBG_STAT.HALTED

/-- Whether an engine executes: an axis engine in STATE 1 or 2, PE outside its fault handler; not halted by DBG. -/
def State.engRuns (s : State) (e : Fin 13) : Bool :=
  s.runs (engPg e) && !s.engHalted e &&
  (if h : e.val < 12 then s.engState ⟨e.val, h⟩ == 1 || s.engState ⟨e.val, h⟩ == 2 else !s.engs[e].dead)

/-! ### Program and task words -/

/-- The word of a task (R209): in fault mode the ROM fault table's (R215). -/
def State.taskW (s : State) (e : Fin 13) (i : Nat) : Word :=
  if h : e.val < 12 then
    if s.engState ⟨e.val, h⟩ == 2 then Config.faultTask i else s.word (.ae ⟨e.val, h⟩) (AE.TASK.EN.nth i).off
  else if i < 24 then s.word .pe (PE.TASK.EN.nth i).off else s.word .pe (PE.UTASK.EN.nth (i - 24)).off

/-- How many task entries an engine has. -/
def taskCount (e : Fin 13) : Nat := if e.val < 12 then 16 else 32

/-- The scheduler's counters: a miss, with the lateness of a task that ended late (R209). -/
def State.deadlineMiss (s : State) (e : Fin 13) (late : Nat) : State :=
  let p := engPg e
  let m : Fld := AE.SCHED_STAT.MISSES
  let l : Fld := AE.SCHED_STAT.LATE_MAX
  let s := s.inc p m
  let s := s.put p l (max (s.get p l) (min 4095 late))
  s.fire p 3

/-- A task's trigger: it becomes ready, or the trigger is lost while it is ready or running (R209). -/
def State.taskTrigger (s : State) (e : Fin 13) (i : Nat) : State :=
  let w := s.taskW e i
  let en := s.engs[e]
  if !s.engRuns e || decide (taskCount e ≤ i) || !w.msb then s
  else if en.ready.any (fun r => r.task == i) || (en.running.map (·.task)) == some i ||
      (match en.saved with
        | some v => (v.task.map (·.task)) == some i
        | none => false) then s.deadlineMiss e 0
  else s.updEng e (fun x => { x with ready := x.ready ++ [{ deadline := 2 * s.now + 64 * fld w 28 17, task := i }] })

/-- The ready task with the earliest deadline, the lower number breaking ties (R209). -/
def earliest (l : List Ready) : Option Ready :=
  l.foldl (fun b r => match b with
    | none => some r
    | some x => if r.deadline < x.deadline ∨ (r.deadline = x.deadline ∧ r.task < x.task) then some r else b) none

/-- Start a ready task at its entry. -/
def State.startTask (s : State) (e : Fin 13) (r : Ready) : State :=
  let pc := fld (s.taskW e r.task) 16 0
  s.updEng e (fun x => { x with running := some r, ready := x.ready.filter (fun y => y.task != r.task), pc := pc, stack := [] })

/-- TASK_DISPATCH: with no task running, the ready task of the earliest deadline starts (R209), unless the engine is to halt
(R219). -/
def execTaskDispatch (e : Fin 13) (s : State) : Out :=
  if s.engRuns e && s.engs[e].running.isNone && !s.engs[e].haltReq then
    match earliest s.engs[e].ready with
    | some r => .next (s.startTask e r)
    | none => .next s
  else .next s

/-- Whether a PE task is urgent (R207). -/
def State.urgent (s : State) (i : Nat) : Bool := fld (s.taskW peIx i) 34 33 == 3

/-- URGENT_TASK_PREEMPT: a ready urgent task of PE pre-empts the running task; program counter, flags and loop state are saved
(R207). Urgent tasks do not pre-empt one another, and of several that are ready the one of the earliest deadline goes first. -/
def execUrgentTaskPreempt (i : Fin 32) (s : State) : Out :=
  let en := s.engs[peIx]
  match earliest (en.ready.filter (fun r => s.urgent r.task)) with
  | some r =>
    if !s.engRuns peIx || r.task != i.val || en.saved.isSome || en.waiting.isSome then .next s
    else match en.running with
      | some t =>
        if s.urgent t.task then .next s
        else
          let v : Saved := { pc := en.pc, flags := en.flags, stack := en.stack, task := some t }
          .next ((s.startTask peIx r).updEng peIx (fun x => { x with saved := some v }))
      | none => .next (s.startTask peIx r)
  | none => .next s

/-- A task ends: TEND empties the loop stack, a late end is counted, and a pre-empted task goes on (R207, R209, R243). -/
def State.taskEnd (s : State) (e : Fin 13) : State :=
  let en := s.engs[e]
  let s := match en.running with
    | some r => s.doIf (decide (r.deadline < 2 * s.now)) (fun s => s.deadlineMiss e (2 * s.now - r.deadline))
    | none => s
  match en.saved with
  | some v => s.updEng e (fun x => { x with
      running := v.task
      pc := v.pc
      flags := v.flags
      stack := v.stack
      saved := none })
  | none => s.updEng e (fun x => { x with running := none, stack := [] })

/-! ### Traps (R210, R214-R217, R224) -/

/-- An engine traps with a cause at a program address: TRAP_INFO holds the first trap since TRAP was cleared; an axis engine
enters fault mode at its fault vector, or stops at a second trap; PE enters its ROM fault handler (R215, R217, R220). -/
def State.trap (s : State) (e : Fin 13) (cause pc : Nat) : State :=
  let p := engPg e
  let task := (s.engs[e].running.map (·.task)).getD 0
  let s := s.doIf (!s.raised p 0) (fun s =>
    s.setWord p 0x60 (BitVec.ofNat 36 (cause <<< 32 ||| task <<< 22 ||| pc % 2 ^ 20)))
  let s := s.fire p 0
  if h : e.val < 12 then
    let k : Fin 12 := ⟨e.val, h⟩
    let twice := s.engState k == 2
    let s := s.updEng e (fun x => { x with running := none, ready := [], stack := [], cache := [], waiting := none,
                                            pc := if twice then x.pc else 0x8008,
                                            trapAt := if twice then x.trapAt else s.now, trapDue := true })
    let s := s.put p AE.ENG_STAT.STATE (if twice then 3 else 2)
    s.doIf twice (fun s => s.fire p 2)
  else s.updEng e (fun x => { x with running := none, stack := [], cache := [], waiting := none, saved := none,
                                            pc := 0x10008, dead := true })

/-- TASK_LIMIT_EXCEEDED: a task has run longer than its limit (R210, R214). -/
def execTaskLimitExceeded (e : Fin 13) (s : State) : Out :=
  .next (if s.engRuns e && s.engs[e].running.isSome then s.trap e 3 s.engs[e].pc else s)

/-- ENGINE_TRAP: an axis engine traps with a cause of R214 (cause 7 is PE's). -/
def execEngineTrap (k : Fin 12) (cause : Fin 8) (s : State) : Out :=
  .next (if s.engRuns (engOf k) && cause != 0 && cause != 7 then s.trap (engOf k) cause.val s.engs[engOf k].pc else s)

/-- PE_TRAP (R217). -/
def execPeTrap (cause : Fin 8) (s : State) : Out :=
  .next (if s.engRuns peIx && cause != 0 then s.trap peIx cause.val s.engs[peIx].pc else s)

/-- ENGINE_FAILURE_HANDLING: PE takes an engine's trap up: the engine is failed, which is cause 6 for its axes, and ports are
disabled at once on DOUBLE_TRAP or for an axis whose FAULT_ACT is 2 (R89, R216, R460). -/
def execEngineFailureHandling (k : Fin 12) (s : State) : Out :=
  if s.peLive && s.engs[engOf k].trapDue then
    let s := s.updEng (engOf k) (fun x => { x with trapDue := false, failed := true, hbGood := 0 })
    .next (forEach (axesOf k) (fun n s =>
      let s := (s.capEnd n 6).raiseFault n 6 (s.faultAct n)
      s.doIf (s.engState k == 3 || s.get (.ax n) AX.CHAIN_LIM.FAULT_ACT == 2) (fun s => s.dpDisable n)) s)
  else .next s

/-- TRAP_AXIS_TIMEOUT: an axis not in state 4 within 2 s of its engine's trap loses its drive port (R216). -/
def execTrapAxisTimeout (n : Fin 48) (s : State) : Out :=
  let k := aeOf n
  .next (if s.peLive && s.engs[engOf k].failed && (s.engState k == 2 || s.engState k == 3) && s.axState n != 4 then
    s.dpDisable n else s)

/-! ### Heartbeats (R73, R218) -/

/-- HEARTBEAT_CHECK: PE compares HB_CNT with its value at the previous boundary (R218, R73). -/
def execHeartbeatCheck (k : Fin 12) (s : State) : Out :=
  if !s.peLive then .next s
  else
    let e := engOf k
    let cnt := s.get (.ae k) AE.ENG_STAT.HB_CNT
    let x := s.engs[e]
    let beat := cnt != x.hbSeen
    let watched := bit (s.get .pe PE.HB_CFG.EN) k.val && s.engState k == 1
    let miss := if beat || !watched then 0 else x.hbMiss + 1
    let due := watched && !beat && decide (s.get .pe PE.HB_CFG.LIM ≤ miss) && !x.reloadDue
    .next (s.updEng e (fun x => { x with
      hbSeen := cnt
      hbMiss := miss
      hbDue := x.hbDue || due
      hbGood := if beat then x.hbGood + 1 else 0 }))

/-- HB_FAIL: LIM misses in a row declare the engine failed, which is cause 6 for its axes; PE disables its four drive ports
(R73, R88, R218). -/
def execHbFail (k : Fin 12) (s : State) : Out :=
  if s.peLive && s.engs[engOf k].hbDue then
    let s := s.updEng (engOf k) (fun x => { x with hbDue := false, hbGood := 0, failed := true, reloadDue := true })
    let s := forEach (axesOf k) (fun n s => ((s.capEnd n 6).raiseFault n 6 2).dpDisable n) s
    .next (s.fire (.ae k) 1)
  else .next s

/-! ### Start, halt, reset, reload (R211, R219, R220) -/

/-- The engine resets, its RAMs kept; the queues that end at it are flushed (R84). -/
def State.engReset (s : State) (e : Fin 13) : State :=
  let s := if h : e.val < 12 then (s.setWord (.ae ⟨e.val, h⟩) 0x58 0).flushBlock (.ae ⟨e.val, h⟩) else s.flushBlock .pe
  let s := s.arbMask (fun q => q == (if e.val < 12 then 7 + e.val else 1))
  s.updEng e (fun x => { Engine.reset with
    pmem := x.pmem, xmem := x.xmem, ymem := x.ymem, failed := x.failed, trapAt := x.trapAt, trapDue := x.trapDue,
    reloadDue := x.reloadDue })

/-- Whether every axis of an engine is in AX_STATE 0 or 4 (R216, R219). -/
def State.axesStill (s : State) (k : Fin 12) : Bool := (axesOf k).all (fun n => s.axState n == 0 || s.axState n == 4)

/-- The place in the converter sequence of an axis's final current entry, counted from the entry the sequence restarts at (R211,
R293): the last entry that pushes a current of the axis; 32 for none. -/
def State.lastEntry (s : State) (n : Fin 48) : Nat :=
  let p := .adc (adcOf n)
  let first := if s.get p ADC.ADC_CFG.SYNC = 2 then 0 else s.get p ADC.ADC_CFG.RESTART
  let hits := (List.range 32).filter (fun i =>
    let j := (first + i) % 32
    let x := s.get p (ADC.SEQ.INPUT.nth j)
    s.flag p (ADC.SEQ.PUSH.nth j) && x < 16 && x / 2 == n.val % 8)
  hits.getLast?.getD 32

/-- Insert a slot behind those whose final entry is not later. -/
def slotIns (key : Fin 4 → Nat) (a : Fin 4) : List (Fin 4) → List (Fin 4)
  | [] => [a]
  | b :: r => if key a < key b then a :: b :: r else b :: slotIns key a r

/-- Slots of an engine ordered by their final current entries (R211). -/
def State.slotOrder (s : State) (k : Fin 12) : List (Fin 4) :=
  ([0, 1, 2, 3] : List (Fin 4)).foldl (fun l a => slotIns (fun i => s.lastEntry (axOf k i)) a l) []

/-- A task word. -/
def taskWord (trig sel deadline entry : Nat) : Word :=
  BitVec.ofNat 36 (1 <<< 35 ||| trig <<< 33 ||| sel <<< 29 ||| (deadline % 4096) <<< 17 ||| entry % 2 ^ 17)

/-- PE writes the ROM task table of an axis engine (R211). -/
def State.romTable (s : State) (k : Fin 12) : State :=
  let per := s.get (.ae k) AE.LOOP_RATE.SRV_N * s.get (.ae k) AE.LOOP_RATE.CUR_PER
  let ent := fun i => (Config.romEntry i).toNat
  let ord := s.slotOrder k
  let put := fun i w (s : State) => s.setWord (.ae k) (AE.TASK.EN.nth i).off w
  let s := forEach (ord.zipIdx) (fun x s => put x.2 (taskWord 0 x.1.val 8 (ent x.2)) s) s
  let s := forEach [4, 5, 6, 7] (fun i s => put i (taskWord 1 0 (per / 64) (ent i)) s) s
  let s := put 8 (taskWord 1 0 ((2 * per - 64) / 64) (ent 8)) s
  forEach [9, 10, 11, 12, 13, 14, 15] (fun i s => put i 0 s) s

/-- PE copies an engine's image to its program RAM (R220). -/
def State.engLoad (s : State) (k : Fin 12) : State :=
  let base := s.get (.ae k) AE.ENG_IMG.BASE
  let n := s.get (.ae k) AE.ENG_IMG.COUNT
  s.updEng (engOf k) (fun x => { x with
    pmem := (List.range n).foldl (fun m i => Cells.put m i (s.storeGet (base + i))) x.pmem })

/-- START: PE copies the engine's image and writes the ROM task table unless CUSTOM; the engine runs from the ROM reset code at
0x8000, STATE 1 (R211, R219, R220). -/
def State.engStart (s : State) (k : Fin 12) : State :=
  let s := s.engLoad k
  let s := s.doIf (!s.flag (.ae k) AE.ENG_CFG.CUSTOM) (fun s => s.romTable k)
  let s := s.updEng (engOf k) (fun x => { x with pc := 0x8000, running := none, ready := [], stack := [], cache := [], waiting := none,
                                                  haltReq := false, hbMiss := 0, hbDue := false })
  s.put (.ae k) AE.ENG_STAT.STATE 1

/-- The effect of an ENG_CTRL write (R219); PE's firmware honours it only from PE, the service SPI port and BAR2. -/
def State.engCtrl (s : State) (r : Req) (k : Fin 12) (op : Nat) : State :=
  let from' := r == .pe || r == .spi || r == .bar2
  if op = 0 then s
  else if !from' || !s.peLive then s.fire (.ae k) 6
  else match op with
    | 1 => if s.engState k = 0 then s.engStart k else s.fire (.ae k) 6
    | 2 => if s.axesStill k then s.updEng (engOf k) (fun x => { x with haltReq := true }) else s.fire (.ae k) 6
    | 3 => if s.axesStill k then s.engReset (engOf k) else s.fire (.ae k) 6
    | _ => s

/-- ENGINE_HALT_COMPLETE: the running task has ended, and the halted engine's STATE becomes 0 (R219). -/
def execEngineHaltComplete (k : Fin 12) (s : State) : Out :=
  let x := s.engs[engOf k]
  .next (if x.haltReq && x.running.isNone then
    (s.updEng (engOf k) (fun x => { x with haltReq := false, ready := [] })).put (.ae k) AE.ENG_STAT.STATE 0
  else s)

/-- ENGINE_RELOAD: every axis of a failed engine in state 0 or 4: PE disables the ports that still hold, resets the engine,
copies its image, writes its task table and starts it (R73, R216, R220). -/
def execEngineReload (k : Fin 12) (s : State) : Out :=
  let e := engOf k
  if s.peLive && s.engs[e].failed && s.axesStill k then
    let s := forEach (axesOf k) (fun n s => s.doIf (s.axState n == 4 && s.axHold n) (fun s => s.dpDisable n)) s
    let s := s.engReset e
    let s := s.updEng e (fun x => { x with trapDue := false, reloadDue := false, hbGood := 0 })
    .next (s.engStart k)
  else .next s

/-- Whether an axis is at standstill: by its feedback, or without one by its setpoint (R73). -/
def State.standsStill (s : State) (n : Fin 48) : Bool :=
  match s.fbPort n with
  | some _ => s.axes[n].fbNew.2 == 0
  | none => s.getI (.ax n) AX.SETP_VEL.VALUE == 0

/-- ENGINE_READMIT: after 16 heartbeats in a row, with the axes at standstill and accepted by the doorway sequencer, PE re-admits
them and enables their ports (R73): all four, a port that was not enabled before the failure too (DESIGN CHOICE, log 64). -/
def execEngineReadmit (k : Fin 12) (s : State) : Out :=
  let x := s.engs[engOf k]
  if s.peLive && x.failed && decide (16 ≤ x.hbGood) && (axesOf k).all (fun n => s.standsStill n) && s.seqAccepts k &&
      s.engState k == 1 then
    let s := s.updEng (engOf k) (fun x => { x with failed := false })
    .next (forEach (axesOf k) (fun n s =>
      s.doIf (s.rst.dpRel && s.ostate n == 0) (fun s => (s.put (.dp n) HDR.CTRL.EN 1).dpLeaveOff n)) s)
  else .next s

end Sys2Proof.Machine
end

