-- ==== Sys2Proof/Machine/Evt.lean ====
section
/-! DEFINITION. The event router: global events, MSI vectors, interrupt pins, inputs and the log (R418-R425). -/

namespace Sys2Proof.Machine

/-- Change the router. -/
def State.updEvt (s : State) (f : EvtPart → EvtPart) : State := { s with evt := f s.evt }

/-- The fault bits of a page for an even event of a pair, its other bits for an odd one (R418). -/
def pairMask (p : Pg) (e : Nat) : Nat := if e % 2 = 0 then pgFaultMask p else 0xFFFFFFFF - pgFaultMask p

/-- The page and the page event bits that feed a global event (R418). -/
def sourceOf (e : Nat) : Option (Pg × Nat) :=
  if e < 64 then (pgOfNum (e / 8)).map (fun p => (p, 1 <<< (e % 8)))
  else if e < 160 then (nthPg Pg.ax ((e - 64) / 2)).map (fun p => (p, pairMask p e))
  else if e < 256 then (nthPg Pg.dp ((e - 160) / 2)).map (fun p => (p, pairMask p e))
  else if e < 352 then (nthPg Pg.fb ((e - 256) / 2)).map (fun p => (p, pairMask p e))
  else if e < 376 then (nthPg Pg.ae ((e - 352) / 2)).map (fun p => (p, pairMask p e))
  else if e < 378 then some (.pe, pairMask .pe e)
  else if e < 384 then none
  else if e < 396 then (nthPg Pg.adc ((e - 384) / 2)).map (fun p => (p, pairMask p e))
  else if e < 416 then none
  else if e < 432 then some (.si 0, 1 <<< (e - 416))
  else if e < 448 then none
  else if e < 464 then if e % 4 < 2 then (nthPg Pg.fiob ((e - 448) / 4)).map (fun p => (p, pairMask p e)) else none
  else if e < 480 then some (.recorder 0, 1 <<< (e - 464))
  else if e < 496 then (nthPg Pg.can ((e - 480) / 4)).map (fun p => (p, 0xFF <<< (8 * (e % 4))))
  else if e < 500 then (nthPg Pg.eth ((e - 496) / 2)).map (fun p => (p, pairMask p e))
  else if e < 502 then some (.ptp, 1 <<< (e - 500))
  else if 504 ≤ e && e < 510 then some (.dbg, 1 <<< (e - 504))
  else none

/-- Whether a global event is pending: a mapped bit is 1 in EV_RAW and in EV_MASK (R419). -/
def State.pendingEv (s : State) (e : Nat) : Bool :=
  match sourceOf e with
  | some (p, m) => (s.get p HDR.EV_RAW.RAW &&& s.get p HDR.EV_MASK.MASK &&& m) != 0
  | none => false

/-- The word of a route, selector or vector that is in force at a tick: a write takes effect in the tick after it commits (R423). -/
def State.evtWord (s : State) (off tick : Nat) : Word :=
  match s.evt.prior.find? (fun e => e.1 == off && decide (tick ≤ e.2.2)) with
  | some e => e.2.1
  | none => s.word .evt off

/-- A write has replaced the word of a route, selector or vector. -/
def State.evtWritten (s : State) (off : Nat) (old : Word) : State :=
  s.updEvt (fun x => { x with prior := x.prior.filter (fun e => decide (s.now < e.2.2 + 64)) ++ [(off, old, s.now)] })

/-- The route of an event in force at a tick: 18 bits (R421). -/
def State.route (s : State) (e tick : Nat) : Nat :=
  let w := s.evtWord (0x800 + 8 * (e / 2)) tick
  if e % 2 = 0 then fld w 17 0 else fld w 35 18

/-- IRQ0 and IRQ1: driven low while any event routed to the pin is pending (R421), and never by a disabled router (R36). -/
def State.irqUpdate (s : State) : State :=
  let low := fun (b : Nat) => s.runs .evt && (List.range 512).any (fun e => bit (s.route e s.now) b && s.pendingEv e)
  s.updEvt (fun x => { x with irq0 := low 12, irq1 := low 11 })

/-! ### MSI vectors (R422, R423, R427) -/

/-- Whether the endpoint can send a message for a vector: its link is up, it is in D0, and the host has enabled it as a bus
master and MSI, and has not masked the vector. -/
def State.msiReady (s : State) (v : Nat) : Bool :=
  s.host.linkUp && !s.host.d3hot && s.host.busMaster && s.host.msiEnable && !s.host.msiMask.getLsbD v

/-- VEC_PEND follows the counts. -/
def State.vecPend (s : State) : State :=
  s.put .evt EVT.VEC_PEND.PEND ((List.finRange 16).foldl (fun a v => if s.evt.count[v] != 0 then setBit a v.val else a) 0)

/-- A vector sends one message; its count returns to 0 (R422). -/
def State.msiSend (s : State) (v : Fin 16) : State :=
  (s.updEvt (fun x => { x with sent := x.sent ++ [v.val], count := x.count.set v 0 })).vecPend

/-- A vector's configuration in force at a tick (R423). -/
def State.vecCfg (s : State) (v : Fin 16) (tick : Nat) : Word := s.evtWord (0x100 + 8 * v.val) tick

/-- The count of a vector has reached COAL_N. -/
def State.coalFull (s : State) (v : Fin 16) (tick : Nat) : Bool :=
  s.evt.count[v] != 0 && decide (fld (s.vecCfg v tick) 23 16 ≤ s.evt.count[v])

/-- The vectors in the order in which ready ones send: descending PRIO, then ascending number (R422). -/
def State.vecOrder (s : State) (tick : Nat) : List (Fin 16) :=
  ([3, 2, 1, 0] : List Nat).flatMap (fun pr => (List.finRange 16).filter (fun v => fld (s.vecCfg v tick) 25 24 == pr))

/-- Every vector whose count alone is due sends, by the configuration of the tick of its firings (R422, R423). -/
def State.msiCounts (s : State) (tick : Nat) : State :=
  forEach (s.vecOrder tick) (fun v s => s.doIf (s.coalFull v tick && s.msiReady v.val) (fun s => s.msiSend v)) s

/-- A firing counts at the vector its route names (R421, R422). -/
def State.countFiring (s : State) (f : Firing) : State :=
  let r := s.route f.ev f.tick
  if bit r 17 then
    let v : Fin 16 := ⟨fld (BitVec.ofNat 36 r) 16 13 % 16, Nat.mod_lt _ (by decide)⟩
    (s.updEvt (fun x => { x with
      since := if x.count[v] = 0 then x.since.set v f.tick else x.since
      count := x.count.set v (x.count[v] + 1) })).vecPend
  else s

/-! ### The log (R424, R425) -/

/-- Put a firing at its place: by tick, then by event number. -/
def firingIns (f : Firing) : List Firing → List Firing
  | [] => [f]
  | g :: r => if f.tick < g.tick ∨ (f.tick = g.tick ∧ f.ev < g.ev) then f :: g :: r else g :: firingIns f r

/-- A firing waits for the log at its place in order: 16 places; one more is lost and counted, and LOG_LOST fires. Event 40 is never logged (R424). -/
def State.logFiring (s : State) (f : Firing) : State :=
  if f.ev != 40 && bit (s.get .evt (EVT.LOG_EN.EN.nth (f.ev / 32))) (f.ev % 32) then
    if s.evt.logQ.length < 16 then s.updEvt (fun x => { x with logQ := firingIns f x.logQ })
    else (s.inc .evt EVT.LOG_LOST.LOST).fire .evt 0
  else s

/-- EVENT_FIRE (R419, R422, R424): the firings of the masked page events count at their vectors, ready vectors send, chosen
firings take a place for the log, and all wait for their delivery; a router that is disabled or in reset takes none (R36). -/
def execEventFire (s : State) : Out :=
  if !s.runs .evt then .next (s.updEvt (fun x => { x with fired := [] }))
  else
    let l := s.evt.fired.foldl (fun a f => firingIns f a) []
    let s := s.updEvt (fun x => { x with fired := [], delivering := x.delivering ++ l })
    let s := forEach (l.map (·.tick)).eraseDups (fun t s =>
      State.msiCounts (forEach (l.filter (fun f => f.tick == t)) (fun f s => s.countFiring f) s) t) s
    .next (forEach l (fun f s => s.logFiring f) s)

/-- The selectors of EVT, by slot offset (R421). -/
def selOffs : List Nat :=
  (List.range 96).map (fun i => 0x400 + 8 * i) ++ (List.range 16).map (fun i => 0x700 + 8 * i) ++
    (List.range 8).map (fun i => 0x780 + 8 * i)

/-- EVENT_DELIVERY (R420): the inputs that select a delivered event are pulsed and the pins follow. -/
def execEventDelivery (s : State) : Out :=
  let hit := selOffs.filter (fun o => s.evt.delivering.any (fun f =>
    let w := s.evtWord o f.tick
    fld w 9 9 == 1 && fld w 8 0 == f.ev))
  .next (s.updEvt (fun x => { x with delivering := [], pulsed := hit, pulsedAt := s.timeC })).irqUpdate

/-- Whether COAL_US has passed since a vector's first unsent firing (R422). -/
def State.coalOver (s : State) (v : Fin 16) : Bool :=
  let us := fld (s.vecCfg v s.now) 13 0
  us != 0 && decide (s.evt.since[v] + 300 * us ≤ s.now)

/-- A vector sends by its time: it holds unsent firings, COAL_US has passed since the first, and it can send. -/
def State.coalDue (s : State) (v : Fin 16) : Bool := s.evt.count[v] != 0 && s.coalOver v && s.msiReady v.val

/-- MSI_COALESCE_TIMEOUT (R422): COAL_US has passed since the first unsent firing; of all vectors ready by their time in this tick
the ones of higher PRIO send first. -/
def execMsiCoalesceTimeout (v : Fin 16) (s : State) : Out :=
  .next (if s.coalDue v then forEach (s.vecOrder s.now) (fun u t => t.doIf (t.coalDue u) (fun t => t.msiSend u)) s else s)

/-- A vector that could not send and holds unsent firings sends one message (R422). -/
def State.msiRelease (s : State) (v : Fin 16) : State :=
  if s.evt.count[v] != 0 && s.msiReady v.val then s.msiSend v else s

/-- MSI_UNMASK (R422): the host unmasks a vector in the MSI capability. -/
def execMsiUnmask (v : Fin 16) (s : State) : Out :=
  if s.host.msiMask.getLsbD v.val then
    .next (State.msiRelease { s with host := { s.host with msiMask := BitVec.ofNat 16 (clrBit s.host.msiMask.toNat v.val) } } v)
  else .next s

/-- EVENT_LOG_WRITE (R424): the oldest waiting record is written once ARB is free for it, word 0 last, and the position advances. -/
def execEventLogWrite (s : State) : Out :=
  match s.evt.logQ with
  | [] => .next s
  | f :: r =>
    if !s.rst.storeRdy || s.storeBusy then .next s else
    let i := s.get .evt EVT.LOG_STAT.WIDX
    let sq := s.get .evt EVT.LOG_STAT.SEQ
    let w0 : Word := BitVec.ofNat 36 (sq <<< 16 ||| b2n s.evt.logRestart <<< 15 ||| f.ev)
    let a := 0xC0000 + 4 * i
    let s := s.updEvt (fun x => { x with logQ := r, logRestart := false })
    let (_, s) := s.tabletWrite .block (s.pageSecure .evt) [(a + 1, f.w0), (a + 2, f.w1), (a + 3, f.raw.setWidth 36), (a, w0)]
    let s := s.put .evt EVT.LOG_STAT.SEQ ((sq + 1) % 65536)
    let s := s.put .evt EVT.LOG_STAT.WIDX ((i + 1) % 16384)
    .next (s.doIf (i == 16383) (fun s => s.fire .evt 1))

/-- The word RD_DATA of EVT gives; ADDR advances (R424). -/
def State.logRead (s : State) : Word × State :=
  let a := s.get .evt EVT.RD_ADDR.ADDR
  let (w, s) := s.xferRead .block (s.pageSecure .evt) (0xC0000 + a)
  (w, s.put .evt EVT.RD_ADDR.ADDR ((a + 1) % 65536))

/-! ### Inputs of engines and recorder (R207, R209, R368, R420) -/

/-- The selector of the event input that triggers a task, if its TRIG names one (R209). -/
def State.taskSel (s : State) (e : Fin 13) (i : Nat) : Option Nat :=
  let w := s.taskW e i
  if e.val < 12 then (if fld w 34 33 = 2 then some (0x400 + 8 * (8 * e.val + fld w 32 29 % 8)) else none)
  else if 2 ≤ fld w 34 33 then some (0x700 + 8 * fld w 32 29) else none

/-- TASK_TRIGGER (R209): a task's trigger falls; one of an event input falls where the latest delivery pulsed the input. -/
def execTaskTrigger (e : Fin 13) (i : Fin 32) (s : State) : Out :=
  match s.taskSel e i.val with
  | some o => if s.evt.pulsed.contains o then .next (s.taskTrigger e i.val) else .next s
  | none => .next (s.taskTrigger e i.val)

/-! ### Probes and trigger units of the recorder (R361, R368-R373) -/

/-- The level that a probe's source has as the model holds it, `tap` sixty-fourths into this tick; CAN lines and BAON_TRIG are
outside it, and a probe of a global event can toggle at a firing of this tick (R361). -/
def State.probeSource (s : State) (i : Fin 32) (tap : Nat) : Option Bool :=
  let ix := s.get (.recorder 1) (REC1.PROBE.INDEX.nth i.val)
  let event := fun (e : Nat) =>
    let fresh := (s.evt.fired ++ s.evt.delivering).any (fun f => f.ev == e && f.tick == s.now) &&
      (s.recd.lastChg[i].map (fun t => t / 64)) != some s.timeC
    some (s.recd.lvl.getLsbD i.val != fresh)
  match s.get (.recorder 1) (REC1.PROBE.GROUP.nth i.val) with
  | 0 => some false
  | 1 => if h : ix < 144 then some (s.fbs[ix / 3].inp[ix % 3]'(Nat.mod_lt _ (by decide))) else none
  | 2 => if h : ix < 192 then some (s.hbLevel ⟨ix / 4, by omega⟩ ⟨ix % 4, Nat.mod_lt _ (by decide)⟩ tap == .high) else none
  | 3 => if h : ix < 48 then some (s.penBall ⟨ix, h⟩) else none
  | 4 => if h : ix < 48 then some s.ports[ix].tripPin else none
  | 5 => if h : ix < 128 then some (s.flag (.fiob ⟨ix / 32, by omega⟩) ⟨0x68, ix % 32, ix % 32, 0, 0⟩) else none
  | 6 => some (bit (s.get (.si 1) SI1.SIN_LEVEL.LEVEL) ix)
  | 7 => some (bit (s.get (.si 2) SI2.SOUT_STAT.READ) ix)
  | 9 => event ix
  | 10 => event (256 + ix)
  | _ => none

/-- Whether a probe's instants carry a tap: those a TDC times and those of half-bridge outputs (R361). -/
def State.probeTap (s : State) (i : Fin 32) : Bool :=
  ([1, 2, 3, 4, 8, 11] : List Nat).contains (s.get (.recorder 1) (REC1.PROBE.GROUP.nth i.val))

/-- PROBE_CHANGE (R361, R365): probe `i` changes to its source's level at tap `tap` of this tick. -/
def execProbeChange (i : Fin 32) (level : Bool) (tap : Nat) (s : State) : Out :=
  let tap := if s.probeTap i then tap % 64 else 0
  if !s.runs (.recorder 0) || s.recd.lvl.getLsbD i.val == level || (s.probeSource i tap).getD level != level then .next s
  else
    let s := s.updRec (fun r => r.change i s.timeC (s.timeC * 64 + tap) level)
    let mode := s.get (.recorder 1) REC1.MEAS_CFG.MODE
    .next (s.doIf (mode != 0 && s.get (.recorder 1) REC1.MEAS_CFG.CH == i.val) (fun s => s.updRec (fun r => r.measure i mode)))

/-- A write to PROBEi has committed: the probe takes its new source's level, which is no change (R361). -/
def State.probeWritten (s : State) (i : Nat) : State :=
  if h : i < 32 then
    match s.probeSource ⟨i, h⟩ 0 with
    | some l => s.updRec (fun r => { r with lvl := BitVec.ofNat 32 (putBit r.lvl.toNat i l) })
    | none => s
  else s

/-- A write to a trigger unit has committed: it begins anew (R368). -/
def State.trgWritten (s : State) (i : Nat) : State :=
  if h : i < 4 then s.updRec (fun r => { r with trg := r.trg.set i TrgUnit.reset }) else s

/-- Whether a pulse width meets MODE against T1 and T2 (R368). -/
def widthMeets (mode w t1 t2 : Nat) : Bool :=
  match mode with
  | 0 => decide (w < t1)
  | 1 => decide (t2 < w)
  | 2 => decide (t1 ≤ w) && decide (w ≤ t2)
  | _ => decide (w < t1) || decide (t2 < w)

/-- The latest change among the probes of a mask. -/
def RecPart.latest (r : RecPart) (m : Nat) : Option Nat :=
  (List.finRange 32).foldl (fun a i => match bit m i.val, r.lastChg[i] with
    | true, some t => some (max t (a.getD 0))
    | _, _ => a) none

/-- The instant at which a unit's condition was last met (R368). -/
def State.trgInstant (s : State) (i : Fin 4) : Option Nat :=
  let o := 0x40 + 0x40 * i.val
  let w := s.word (.recorder 2) o
  let r := s.recd
  let a := fld (s.word (.recorder 2) (o + 0x08)) 31 0
  let v := fld (s.word (.recorder 2) (o + 0x10)) 31 0
  let t := fun k => (s.word (.recorder 2) (o + k)).toNat
  let ch : Fin 32 := ⟨fld w 28 24 % 32, Nat.mod_lt _ (by decide)⟩
  let pol := fld w 29 29 == 1
  let lvl := r.lvl.getLsbD ch.val
  match fld w 34 32 with
  | 0 => if r.lvl.toNat &&& a = v ∧ r.lvlWas.toNat &&& a ≠ v then r.latest a else none
  | 1 => match r.lastChg[ch], r.prevChg[ch] with
    | some c, some p => if lvl = pol ∧ widthMeets (fld w 31 30) (c - p) (t 0x18) (t 0x20) then some c else none
    | _, _ => none
  | 2 => match r.lastChg[ch] with
    | some c => if lvl = pol ∧ c + t 0x18 < 64 * (s.timeC + 1) then some (c + t 0x18) else none
    | none => none
  | 3 | 4 => r.trg[i].due
  | 5 => if s.evt.pulsed.contains (0x780 + 8 * fld w 21 19) then some (64 * s.evt.pulsedAt) else none
  | _ => none

/-- TRIGGER_FIRE (R368, R370, R373): an enabled unit whose condition has been met since ARM, and which has not fired for it, fires
at its instant. -/
def execTriggerFire (i : Fin 4) (s : State) : Out :=
  match s.trgInstant i with
  | none => .next s
  | some t =>
    if fld (s.word (.recorder 2) (0x40 + 0x40 * i.val)) 35 35 = 1 ∧ s.recd.trg[i].done ≠ some t ∧ 64 * s.recd.armC ≤ t then
      let s' := s.updRec (fun r => { r with trg := r.trg.set i { r.trg[i] with done := some t } })
      if s.capturing then .next (s'.unitFire i t)
      else if s.recd.stopAt = some s.now then .next (s'.lateFire i t)
      else .next s
    else .next s

end Sys2Proof.Machine
end

