-- ==== Sys2Proof/Machine/Fiob.lean ====
section
/-! DEFINITION. Field I/O banks: scans, inputs, outputs, the watchdog and safe states (R332-R345). -/

namespace Sys2Proof.Machine

/-- Change a field bank's working state. -/
def State.updFiob (s : State) (b : Fin 4) (f : FiobPart → FiobPart) : State := { s with fiobs := s.fiobs.set b (f s.fiobs[b]) }

/-- A 32-bit word of a channel function. -/
def chanBits (f : Fin 32 → Bool) : BitVec 32 := BitVec.ofNat 32 ((List.finRange 32).foldl (fun a i => if f i then setBit a i.val else a) 0)

/-- Put 32 channel bits into a channel word. -/
def State.putChan (s : State) (b : Fin 4) (off : Nat) (v : BitVec 32) : State := s.setWord (.fiob b) off (v.setWidth 36)

/-- A channel bit of a channel word. -/
def State.chan (s : State) (b : Fin 4) (off : Nat) (i : Fin 32) : Bool := bit (s.word (.fiob b) off).toNat i.val

/-- Whether an output is on in the present state: never on a bank that is disabled (R36, R338, R340-R344). -/
def State.outOn (s : State) (b : Fin 4) (i : Fin 32) : Bool :=
  let c := s.word (.fiob b) (0x100 + 8 * i.val)
  let cmd := if s.flag (.fiob b) FIOB.BANK_STAT.SAFE then
      (match fld c 7 6 with
       | 0 => false
       | 1 => true
       | _ => s.fiobs[b].hold.getLsbD i.val)
    else s.chan b 0x50 i
  s.runs (.fiob b) && fld c 0 0 == 1 && cmd && !s.fiobs[b].off.getLsbD i.val && !s.flag (.fiob b) FIOB.BANK_STAT.BANK_OVER &&
    !s.flag (.fiob b) FIOB.BANK_STAT.VF_LOW

/-- The field side applies the output commands (R333). -/
def State.applyOuts (s : State) (b : Fin 4) : State :=
  let v := chanBits (fun i => s.outOn b i)
  s.updFiob b (fun f => { f with on := v })

/-- A channel has become indeterminate or an output: limits assigned to it are active at once (R116, R117). -/
def State.limitsNow (s : State) : State := forEach (List.finRange 48) (fun n s => s.limitNow n) s

/-- Whether a bank's link is clocked and its field side released: with the clocks gated no scan crosses it (R52, R333). -/
def State.linkOn (s : State) (b : Fin 4) : Bool := s.fiobs[b].rel && s.rst.clkOn

/-- Whether a bank's link runs: the last scan is no older than a scan's 10 µs (R333). -/
def State.linkRuns (s : State) (b : Fin 4) : Bool := s.linkOn b && decide (s.now ≤ s.fiobs[b].scanAt + 3000)

/-- FIELD_SCAN (R333): one scan of a bank: ball levels, levels within the band between the thresholds, sum of the output
currents, and the inputs' currents in microamperes. The first scan after the field side's release reports the indeterminate
inputs (R70, R336); while an input is indeterminate, a scan that finds it in the band is no part of its filter time (R71). -/
def execFieldScan (b : Fin 4) (balls inband : BitVec 32) (ma : Nat) (cur : List Nat) (s : State) : Out :=
  if !s.linkOn b then .next s
  else
    let inband := chanBits (fun i => inband.getLsbD i.val && !s.flag (.fiob b) (FIOB.CH_CFG.DIR.nth i.val))
    let s := if s.fiobs[b].scanned then s
      else
        let puv := chanBits (fun i => s.flag (.fiob b) (FIOB.CH_CFG.PUV.nth i.val))
        (((s.putChan b 0x70 inband).putChan b 0x68 (inband &&& puv)).limitsNow).closedSeen
    let s := (s.updFiob b (fun f => { f with
      run := Vector.ofFn (fun i => if s.chan b 0x70 i && inband.getLsbD i.val then 0
        else if f.scanned && f.balls.getLsbD i.val == balls.getLsbD i.val then f.run[i] + 1 else 1)
      balls := balls, band := inband, scanned := true, cur := Vector.ofFn (fun i => cur.getD i.val 0), scanAt := s.now
      kickAt := if f.resumed then f.kickAt.map (fun _ => s.now) else f.kickAt
      resumed := false })).applyOuts b
    .next (s.put (.fiob b) FIOB.BANK_STAT.IBANK_MA (min ma 65535))

/-- Whether the filter of a channel can accept a level: every scan has shown it for FILT_US, in whole scans of 10 µs, and an
indeterminate input has left the band between the thresholds (R71, R335, R336). -/
def State.filtered (s : State) (b : Fin 4) (i : Fin 32) (level : Bool) : Bool :=
  let f := s.fiobs[b]
  s.linkOn b && f.scanned && f.balls.getLsbD i.val == level && decide (s.get (.fiob b) (FIOB.CH_CFG.FILT_US.nth i.val) ≤ 10 * f.run[i]) &&
    !(s.chan b 0x70 i && f.band.getLsbD i.val)

/-- FIELD_INPUT_ACCEPT (R71, R335): a level is accepted after FILT_US; it resolves an indeterminate input. -/
def execFieldInputAccept (b : Fin 4) (i : Fin 32) (level : Bool) (s : State) : Out :=
  if !s.filtered b i level then .next s
  else .next (((s.put (.fiob b) ⟨0x68, i.val, i.val, 0, 0⟩ (b2n level)).put (.fiob b) ⟨0x70, i.val, i.val, 0, 0⟩ 0).closedSeen)

/-- WIRE_BREAK (R337): the current of an input with WB_EN has stayed below 0.25 mA for WB_MS, and does so in the last scan. -/
def execWireBreak (b : Fin 4) (i : Fin 32) (s : State) : Out :=
  if s.linkOn b && decide (s.fiobs[b].cur[i] < 250) && !s.flag (.fiob b) (FIOB.CH_CFG.DIR.nth i.val) && s.flag (.fiob b) (FIOB.CH_CFG.WB_EN.nth i.val) &&
      !s.chan b 0x78 i then
    .next ((s.put (.fiob b) ⟨0x78, i.val, i.val, 0, 0⟩ 1).fire (.fiob b) 8)
  else .next s

/-- WIRE_BREAK_CLEAR (R337): the current has stayed at 0.25 mA or more for WB_MS, and does so in the last scan. -/
def execWireBreakClear (b : Fin 4) (i : Fin 32) (s : State) : Out :=
  .next (if s.linkOn b && decide (250 ≤ s.fiobs[b].cur[i]) then s.put (.fiob b) ⟨0x78, i.val, i.val, 0, 0⟩ 0 else s)

/-- OVERLOAD (R338, R340): a switched-on output turns off on its current limit or thermal shutdown. -/
def execOverload (b : Fin 4) (i : Fin 32) (s : State) : Out :=
  if s.linkOn b && s.fiobs[b].on.getLsbD i.val && !s.flag (.fiob b) FIOB.BANK_STAT.VF_LOW then
    let s := (s.put (.fiob b) ⟨0x80, i.val, i.val, 0, 0⟩ 1).fire (.fiob b) 9
    let m := BitVec.ofNat 32 (1 <<< i.val)
    .next (s.updFiob b (fun f => { f with off := f.off ||| m, on := f.on &&& ~~~ m }))
  else .next s

/-- OVERLOAD_AUTO_RESTART (R338): 100 ms after an overload, with ARST 1, the channel follows OUT again from the next scan; OVLD
stays. -/
def execOverloadAutoRestart (b : Fin 4) (i : Fin 32) (s : State) : Out :=
  if s.linkOn b && s.flag (.fiob b) (FIOB.CH_CFG.ARST.nth i.val) then
    .next (s.updFiob b (fun f => { f with off := f.off &&& ~~~ BitVec.ofNat 32 (1 <<< i.val) }))
  else .next s

/-- Every output of a bank turns off. -/
def State.outsOff (s : State) (b : Fin 4) : State := s.updFiob b (fun f => { f with on := 0 })

/-- BANK_OVER (R340): the sum of the output currents, as the last scan showed it, has exceeded 6,000 mA for 10 ms. -/
def execBankOver (b : Fin 4) (s : State) : Out :=
  if !(s.linkOn b && decide (6000 < s.get (.fiob b) FIOB.BANK_STAT.IBANK_MA)) then .next s
  else .next (((s.put (.fiob b) FIOB.BANK_STAT.BANK_OVER 1).fire (.fiob b) 1).outsOff b)

/-- VF_LOW (R340): VFIELD has stayed below 16.5 V for 1 ms. -/
def execVfLow (b : Fin 4) (s : State) : Out :=
  if !s.linkOn b then .next s
  else .next (((s.put (.fiob b) FIOB.BANK_STAT.VF_LOW 1).fire (.fiob b) 2).outsOff b)

/-- VF_LOW_CLEAR (R340): VFIELD has stayed above 17.5 V for 10 ms; the outputs follow OUT from the next scan. -/
def execVfLowClear (b : Fin 4) (s : State) : Out :=
  if !s.linkOn b then .next s else .next (s.put (.fiob b) FIOB.BANK_STAT.VF_LOW 0)

/-- Whether WD_MS has passed without a restart of a bank's watchdog (R342): since the last scan, and with WD_KICK since the last KICK
once one has armed it. -/
def State.wdDue (s : State) (b : Fin 4) : Bool :=
  let wd := 300000 * s.get (.fiob b) FIOB.BANK_CFG.WD_MS
  let past := fun (t : Nat) => decide (t + wd ≤ s.now)
  past s.fiobs[b].scanAt || (s.flag (.fiob b) FIOB.BANK_CFG.WD_KICK && s.fiobs[b].kickAt.any past)

/-- WD_EXP (R342): the bank watchdog expires: SAFE. The outputs take their safe states in the next scan; where the link does not run,
the field side puts them there by itself at once (DEDUCED, log 95). -/
def execWdExp (b : Fin 4) (s : State) : Out :=
  if s.fiobs[b].rel && !s.flag (.fiob b) FIOB.BANK_STAT.SAFE && s.wdDue b then
    let s := s.updFiob b (fun f => { f with hold := f.on })
    let s := (s.put (.fiob b) FIOB.BANK_STAT.SAFE 1).fire (.fiob b) 0
    .next (s.doIf (!s.linkRuns b) (fun s => s.applyOuts b))
  else .next s

/-- BANK_CMD (R338, R342, R343): KICK restarts the watchdog, RESUME leaves SAFE while the link runs, and CLR clears the latches; a
channel with ARST 1 stays off until its 100 ms have passed. -/
def State.bankCommand (s : State) (b : Fin 4) (op : Nat) : State :=
  if !s.fiobs[b].rel then s
  else match op with
    | 1 => s.updFiob b (fun f => { f with kickAt := some s.now })
    | 2 => s.doIf (s.linkRuns b && s.flag (.fiob b) FIOB.BANK_STAT.SAFE) (fun s =>
        (s.put (.fiob b) FIOB.BANK_STAT.SAFE 0).updFiob b (fun f => { f with resumed := true }))
    | 3 =>
      let arst := chanBits (fun i => s.flag (.fiob b) (FIOB.CH_CFG.ARST.nth i.val))
      ((s.putChan b 0x80 0).put (.fiob b) FIOB.BANK_STAT.BANK_OVER 0).updFiob b (fun f => { f with off := f.off &&& arst })
    | _ => s

/-- A write to CH_CFG has committed: an indeterminate input reads its new power-up value (R70); an output, or an input without
WB_EN, reports no wire break (R337); a limit on an output is active (R116); the filter of a channel that has become an input
starts from the ball level (R341). `old` is the word before the write. -/
def State.chCfgWritten (s : State) (b : Fin 4) (i : Nat) (old : Word) : State :=
  let c := s.word (.fiob b) (0x100 + 8 * i)
  let s := s.doIf (fld old 0 0 == 1 && fld c 0 0 == 0) (fun s =>
    (s.put (.fiob b) ⟨0x68, i, i, 0, 0⟩ (b2n (s.fiobs[b].balls.getLsbD i))).updFiob b (fun f => { f with
      run := Vector.ofFn (fun k => if k.val = i then 0 else f.run[k]) }))
  let s := s.doIf (bit (s.get (.fiob b) FIOB.IN_INDET.INDET) i) (fun s => s.put (.fiob b) ⟨0x68, i, i, 0, 0⟩ (fld c 5 5))
  (s.doIf (fld c 0 0 == 1 || fld c 4 4 == 0) (fun s => s.put (.fiob b) ⟨0x78, i, i, 0, 0⟩ 0)).limitsNow.closedSeen

end Sys2Proof.Machine
end

