-- ==== Sys2Proof/Machine/Island.lean ====
section
/-! DEFINITION. The safety island: function blocks of the three deciders, permissions, outputs, reports and ARM (R300-R329). -/

namespace Sys2Proof.Machine

/-- Change the island's working state. -/
def State.updSi (s : State) (f : SiPart → SiPart) : State := { s with si := f s.si }

/-- SI_STAT.STATE: 0 CONFIG, 1 ARMED, 2 SAFE_FAULT. -/
def State.siState (s : State) : Nat := s.get (.si 0) SI0.SI_STAT.STATE

/-- LANE_STAT.MODE: 0 NORMAL, 1 TAKEOVER, 2 LOCKOUT. -/
def State.laneMode (s : State) : Nat := s.get (.si 7) SI7.LANE_STAT.MODE

/-! ### Reports (R305) -/

/-- Write a report record at REP_IDX of the ring in the report area, word 3 last (R47, R305). -/
def State.report (s : State) (r : List Word) : State :=
  let i := s.get (.si 0) SI0.SI_STAT.REP_IDX
  let l := (List.range 4).map (fun k => (0xD0000 + 4 * i + k, r.getD k 0))
  ((s.tabletWrite .si true l).2).put (.si 0) SI0.SI_STAT.REP_IDX ((i + 1) % 256)

/-- An island event fires with its report record; `num` is the block, input or output concerned (R304, R305). A record waits
while the store is not ready. -/
def State.siFire (s : State) (ev num : Nat) : State :=
  let t := time72 s.nowT
  let r := [t.1, t.2, BitVec.ofNat 36 (num <<< 8 ||| ev), BitVec.ofNat 36 (s.get (.si 1) SI1.SIN_LEVEL.LEVEL)]
  let s := s.fire (.si 0) ev
  if s.rst.storeRdy then s.report r else s.updSi (fun i => { i with repQ := i.repQ ++ [r] })

/-- The store is ready: the records that waited are written. -/
def State.reportFlush (s : State) : State :=
  forEach s.si.repQ (fun r s => s.report r) (s.updSi (fun i => { i with repQ := [] }))

/-! ### Function blocks (R315-R319) -/

/-- Whether a block of a TYPE lies in the scope of the switches (R309, R327). -/
def inScope (sw ty : Nat) : Bool := decide (1 ≤ ty) && decide (ty ≤ 1 + sw / 4096 % 4) && decide (ty ≤ 3)

/-- What a decider holds. -/
def State.dec (s : State) : Decider → Dec
  | .sp => s.si.sp | .laneA => s.si.laneA | .laneB => s.si.laneB

/-- Replace what a decider holds. -/
def State.setDec (s : State) (d : Decider) (x : Dec) : State :=
  s.updSi (fun i => match d with
    | .sp => { i with sp := x }
    | .laneA => { i with laneA := x }
    | .laneB => { i with laneB := x })

/-- A lane's copy of the configuration, and the switches it has latched (R310, R313). -/
def State.laneCopy (s : State) : Decider → Option LaneCopy
  | .laneB => s.si.copyB | _ => s.si.copyA
def State.laneSw (s : State) : Decider → BitVec 16
  | .laneB => s.si.laneSwB | _ => s.si.laneSwA

/-- Whether pages of the island are enabled and not in soft reset: the outputs of one that is not take their reset state (R36, R37). -/
def State.siOn (s : State) (l : List (Fin 8)) : Bool := l.all (fun j => s.flag (.si j) HDR.CTRL.EN && !s.softResetting (.si j))

/-- SFB_CFGi as a decider reads it: SP the register, a lane its copy (R313). -/
def State.blkCfg (s : State) (d : Decider) (i : Fin 16) : Word :=
  match d with
  | .sp => s.word (.si 3) (0x40 + 0x10 * i.val)
  | _ => match s.laneCopy d with
    | some c => c.cfg[i]
    | none => 0

/-- An accepted level as a block reads it: SP takes a faulted input as off (R308). -/
def State.lvl (s : State) (d : Decider) (i : Nat) : Bool :=
  if h : i < 24 then
    (s.dec d).level[i] && !(d == .sp && bit (s.get (.si 1) SI1.SIN_FAULT.FAULT) i)
  else false

/-- The inputs that a block reads. -/
def blkInputs (cfg : Word) : List Nat :=
  let p := fld cfg 32 29
  match fld cfg 28 27 with
  | 0 => [2 * p, 2 * p + 1]
  | 1 => [2 * p]
  | _ => [2 * p + 1]

/-- Whether a block takes part in a decider's evaluation: a lane evaluates the blocks in scope (R327). -/
def State.blkUsed (s : State) (d : Decider) (i : Fin 16) : Bool :=
  let ty := fld (s.blkCfg d i) 35 33
  match d with
  | .sp => ty != 0 && s.siState != 0
  | _ => inScope (s.laneSw d).toNat ty

/-- The synchronism of a two-hand block after a change of its inputs (R318). -/
def Hand.step (h : Hand) (a b : Bool) : Hand :=
  if !a && !b then .armed
  else match h with
    | .wait => .wait
    | .armed | .window => if a && b then .met else .window
    | .met => if a && b then .met else .wait

/-- Whether a block is healthy (R315). -/
def State.blkHealthy (s : State) (d : Decider) (i : Fin 16) : Bool :=
  let cfg := s.blkCfg d i
  if fld cfg 35 33 = 3 then (s.dec d).hand[i] == .met else (blkInputs cfg).all (fun j => s.lvl d j)

/-- Put a block's state; the safety processor shows it in SFB_ST0 and SFB_ST1 and fires SFB_DEMAND on each exit from PERMIT,
SFB_WAIT on each entry to WAIT_RST and DISC on each entry to DISC (R304, R316). -/
def State.blkPut (s : State) (d : Decider) (i : Fin 16) (b : Blk) : State :=
  let old := (s.dec d).st[i]
  if old = b then s
  else
    let x := s.dec d
    let s := s.setDec d { x with st := x.st.set i b }
    match d with
    | .sp =>
      let code := match b with
        | .unused => 0 | .withdrawn => 1 | .waitRst => 2 | .permit => 3 | .demand => 4 | .disc => 5
      let j := i.val % 8
      let s := s.put (.si 3) ⟨if i.val < 8 then 0x140 else 0x148, 3 * j + 2, 3 * j, 0, 0⟩ code
      let s := s.doIf (old == .permit) (fun s => s.siFire 10 i.val)
      let s := s.doIf (b == .waitRst) (fun s => s.siFire 11 i.val)
      s.doIf (b == .disc) (fun s => s.siFire 8 i.val)
    | _ => s

/-- A manual reset accepted in the same scan as a loss of health is discarded: the block waits as before (R319). -/
def State.dropReset (s : State) (d : Decider) (i : Fin 16) : State :=
  let x := s.dec d
  if x.st[i] = .permit ∧ x.resetAt[i] = some s.now then s.setDec d { x with st := x.st.set i .waitRst } else s

/-- One evaluation of a block (R316). -/
def State.blkScan (s : State) (d : Decider) (i : Fin 16) : State :=
  if !s.blkUsed d i then s
  else
    let cfg := s.blkCfg d i
    let ok := s.blkHealthy d i
    let s := if ok then s else s.dropReset d i
    match (s.dec d).st[i] with
    | .withdrawn | .unused => if ok then s.blkPut d i (if fld cfg 26 26 = 1 then .waitRst else .permit) else s.blkPut d i .withdrawn
    | .waitRst => if ok then s else s.blkPut d i .withdrawn
    | .permit => if ok then s else s.blkPut d i (if fld cfg 20 20 = 1 then .demand else .withdrawn)
    | .demand => s
    | .disc => if (blkInputs cfg).any (fun j => s.lvl d j) then s else s.blkPut d i .withdrawn

/-- One evaluation of all blocks of a decider. -/
def State.blkScanAll (s : State) (d : Decider) : State := forEach (List.finRange 16) (fun i s => s.blkScan d i) s

/-- The two-hand blocks that read an input follow its new level (R318). -/
def State.handScan (s : State) (d : Decider) : State :=
  forEach (List.finRange 16) (fun i s =>
    let cfg := s.blkCfg d i
    let p := fld cfg 32 29
    if fld cfg 35 33 = 3 then
      let x := s.dec d
      s.setDec d { x with hand := x.hand.set i (x.hand[i].step (s.lvl d (2 * p)) (s.lvl d (2 * p + 1))) }
    else s) s

/-! ### Permissions (R18, R19, R320, R323, R327) -/

/-- Whether a block permits for a decider. -/
def State.blkPermits (s : State) (d : Decider) (i : Fin 16) : Bool :=
  (s.dec d).st[i] == .permit || (s.dec d).st[i] == .demand

/-- The blocks of a mask. -/
def blksOf (m : Nat) : List (Fin 16) := (List.finRange 16).filter (fun i => bit m i.val)

/-- The group code of a port in a port map (R322). -/
def grpCode (map : Nat → Word) (n : Fin 48) : Nat := fld (map (n.val / 9)) (4 * (n.val % 9) + 3) (4 * (n.val % 9))

/-- The port map and the groups as SP reads them. -/
def State.spMap (s : State) (w : Nat) : Word := s.word (.si 4) (0x80 + 8 * w)
def State.spGrp (s : State) (g : Nat) : Word := s.word (.si 4) (0x40 + 8 * g)

/-- A bit of a pair of registers laid out as PEN_REQ. -/
def State.portBit (s : State) (off : Nat) (n : Fin 48) : Bool :=
  if n.val < 36 then bit (s.word (.si 0) off).toNat n.val else bit (s.word (.si 0) (off + 8)).toNat (n.val - 36)

/-- The pair of words of a set of ports, laid out as PEN_REQ. -/
def portWords (p : Fin 48 → Bool) : Word × Word :=
  let f := fun (n : Nat) (i : Fin 48) => if p i && (i.val / 36 == n) then 1 <<< (i.val % 36) else 0
  (BitVec.ofNat 36 ((List.finRange 48).foldl (fun a i => a + f 0 i) 0), BitVec.ofNat 36 ((List.finRange 48).foldl (fun a i => a + f 1 i) 0))

/-- SP's permission of a port (R68, R74, R320). -/
def State.spPermits (s : State) (n : Fin 48) : Bool :=
  let g := grpCode s.spMap n
  s.rst.siRel && s.siOn [0, 1, 3, 4] && s.siState == 1 && s.flag (.si 0) SI0.SI_STAT.PE_OK && s.portBit 0x58 n && decide (g ≤ 7) &&
    (blksOf (fld (s.spGrp g) 15 0)).all (fun i => s.blkPermits .sp i) &&
    !s.si.hold && !s.flag (.si 0) SI0.SI_STAT.LHOLD && !s.si.rootFault

/-- The group code of a port in the lanes' copy, and its group's word. -/
def LaneCopy.group (c : LaneCopy) (n : Fin 48) : Nat × Word :=
  let g := grpCode (fun w => if h : w < 6 then c.map[w] else 0) n
  (g, if h : g < 8 then c.grp[g] else 0)

/-- Whether a block lies in the scope of the fallback (R309, R327). -/
def State.laneScope (s : State) (d : Decider) (i : Fin 16) : Bool := inScope (s.laneSw d).toNat (fld (s.blkCfg d i) 35 33)

/-- Whether every block in scope of a mask permits for a lane (R327). -/
def State.laneBlks (s : State) (d : Decider) (m : Nat) : Bool :=
  ((blksOf m).filter (fun i => s.laneScope d i)).all (fun i => s.blkPermits d i)

/-- A lane's permission of a port (R54, R327). -/
def State.lanePermits (s : State) (d : Decider) (n : Fin 48) : Bool :=
  match s.laneCopy d with
  | none => false
  | some c =>
    let g := (c.group n).1
    let w := (c.group n).2
    let inBlk := s.laneBlks d (fld w 15 0)
    s.si.lanesOn && s.siOn [7] && decide (g ≤ 7) && !s.flag .clk CLK.STAT.SI_OSC_FAULT && !s.si.rootFault &&
    (match s.laneMode with
     | 0 => inBlk
     | 1 => fld w 32 32 == 1 && inBlk && (blksOf (fld w 31 16)).all (fun i => s.laneScope d i && s.blkPermits d i)
     | _ => false)

/-- A lane's permission of an output (R327). -/
def State.laneSout (s : State) (d : Decider) (n : Fin 8) : Bool :=
  match s.laneCopy d with
  | none => false
  | some c =>
    let w := c.sout[n]
    s.si.lanesOn && s.siOn [7] &&
    (match s.laneMode with
     | 0 => s.laneBlks d (fld w 35 20)
     | 1 => fld w 19 19 == 1 && (blksOf (fld w 35 20)).all (fun i => s.laneScope d i && s.blkPermits d i)
     | _ => false)

/-- Whether a lane withholds a port, or an output, because of a block in scope. -/
def State.laneBars (s : State) (d : Decider) (n : Fin 48) : Bool :=
  match s.laneCopy d with
  | none => false
  | some c => !s.laneBlks d (fld (c.group n).2 15 0)
def State.laneBarsOut (s : State) (d : Decider) (n : Fin 8) : Bool :=
  match s.laneCopy d with
  | none => false
  | some c => !s.laneBlks d (fld c.sout[n] 35 20)

/-- Whether SP permits a port or an output that both lanes withhold because of a block in scope (R328, cause 3). -/
def State.spAlone (s : State) : Bool :=
  (List.finRange 48).any (fun n => s.portBit 0x68 n && s.laneBars .laneA n && s.laneBars .laneB n) ||
  (List.finRange 8).any (fun n => bit (s.get (.si 2) SI2.SOUT_STAT.CMD) n.val && s.laneBarsOut .laneA n && s.laneBarsOut .laneB n)

/-- Whether the lanes differ in a permission (R329, cause 4). -/
def State.lanesDiffer (s : State) : Bool :=
  (List.finRange 48).any (fun n => s.lanePermits .laneA n != s.lanePermits .laneB n) ||
  (List.finRange 8).any (fun n => s.laneSout .laneA n != s.laneSout .laneB n)

/-- Whether a decider withholds a port (R322). -/
def State.withheld (s : State) (n : Fin 48) : Bool :=
  !(s.portBit 0x68 n && s.lanePermits .laneA n && s.lanePermits .laneB n)

/-- SP's command of an output (R323). -/
def State.spSout (s : State) (n : Fin 8) : Bool :=
  let w := s.word (.si 2) (0x40 + 8 * n.val)
  s.rst.siRel && s.siOn [0, 1, 2, 3] && fld w 19 19 == 1 && s.siState == 1 && !bit (s.get (.si 2) SI2.SOUT_STAT.OPEN) n.val &&
    (blksOf (fld w 35 20)).all (fun i => s.blkPermits .sp i)

/-- Whether an output is driven on: both lanes permit it, SP commands it unless the lanes have taken over, VSAFE is in range, and
neither an off-pulse nor OPEN holds it off (R302, R323-R325). -/
def State.soutDrive (s : State) (n : Fin 8) : Bool :=
  !s.si.vsafeBad && bit (s.get (.si 7) SI7.LANE_STAT.SOUT) n.val &&
    (s.laneMode != 0 || bit (s.get (.si 2) SI2.SOUT_STAT.CMD) n.val) && s.si.pulse != some n.val &&
    !bit (s.get (.si 2) SI2.SOUT_STAT.OPEN) n.val

/-- A byte with a bit per output. -/
def soutByte (p : Fin 8 → Bool) : Nat := (List.finRange 8).foldl (fun a i => if p i then setBit a i.val else a) 0

/-- The permissions, port-enable lines and outputs follow the deciders (R18, R19, R302, R323). SP gives a new permission only
at its own update (`grant`); it withdraws at once. A line that rises is seen by its drive port. -/
def State.siUpdate (s : State) (grant : Bool) : State :=
  let old := s
  let sp := portWords (fun n => s.spPermits n && (grant || old.portBit 0x68 n))
  let s := (s.setWord (.si 0) 0x68 sp.1).setWord (.si 0) 0x70 sp.2
  let both := portWords (fun n => s.lanePermits .laneA n && s.lanePermits .laneB n)
  let s := (s.setWord (.si 7) 0x48 both.1).setWord (.si 7) 0x50 both.2
  let dead := s.si.vsafeBad || s.si.sclkStop
  let spNeeded := s.laneMode == 0
  let ball := fun (n : Fin 48) => !dead && s.lanePermits .laneA n && s.lanePermits .laneB n && (!spNeeded || s.portBit 0x68 n)
  let b := portWords ball
  let s := (s.setWord (.si 0) 0x78 b.1).setWord (.si 0) 0x80 b.2
  let s := forEach (List.finRange 48) (fun n s =>
    s.doIf (s.rst.dpRel && s.portBit 0x78 n) (fun s => s.put (.dp n) DP.DP_STAT.PEN 1)) s
  let cmd := soutByte (fun n => s.spSout n && (grant || bit (old.get (.si 2) SI2.SOUT_STAT.CMD) n.val))
  let lanes := soutByte (fun n => s.laneSout .laneA n && s.laneSout .laneB n)
  let s := (s.put (.si 2) SI2.SOUT_STAT.CMD cmd).put (.si 7) SI7.LANE_STAT.SOUT lanes
  s.put (.si 2) SI2.SOUT_STAT.READ (soutByte (fun n => s.soutDrive n || s.si.readOn.getLsbD n.val))

/-- SP enters SAFE_FAULT with a cause; only a cold or power reset ends it (R304, R314). -/
def State.safeFault (s : State) (cause num : Nat) : State :=
  if s.siState = 2 ∨ ¬ s.rst.siRel then s
  else (((s.put (.si 0) SI0.SI_STAT.STATE 2).put (.si 0) SI0.SI_STAT.FCAUSE cause).siFire 0 num).siUpdate false

/-- The lanes enter LOCKOUT (R329). -/
def State.laneLockout (s : State) (cause : Nat) : State :=
  if s.laneMode = 2 ∨ ¬ s.si.lanesOn then s
  else (((s.put (.si 7) SI7.LANE_STAT.MODE 2).put (.si 7) SI7.LANE_STAT.CAUSE cause).siFire 2 0).siUpdate false

/-- The lanes enter TAKEOVER (R328). -/
def State.laneTakeover (s : State) (cause : Nat) : State :=
  if s.laneMode ≠ 0 ∨ ¬ s.si.lanesOn then s
  else (((s.put (.si 7) SI7.LANE_STAT.MODE 1).put (.si 7) SI7.LANE_STAT.CAUSE cause).siFire 1 0).siUpdate false

/-! ### The hash and ARM (R309-R313) -/

/-- One byte of the reflected CRC-32 of IEEE 802.3. -/
def crc32Byte (c : BitVec 32) (b : Nat) : BitVec 32 :=
  (List.range 8).foldl (fun c _ => if c.getLsbD 0 then (c >>> 1) ^^^ 0xEDB88320 else c >>> 1) (c ^^^ BitVec.ofNat 32 (b % 256))

/-- CRC-32 of bytes: initial value and final XOR all ones (R311). -/
def crc32 (l : List Nat) : BitVec 32 := ~~~ l.foldl crc32Byte 0xFFFFFFFF

/-- The five bytes of a word, most significant first (R311). -/
def wordBytes (w : Word) : List Nat := [w.toNat >>> 32, w.toNat >>> 24, w.toNat >>> 16, w.toNat >>> 8, w.toNat].map (· % 256)

/-- The words of R311 in their order. -/
def State.hashWords (s : State) : List Word :=
  [s.word (.si 0) 0x50] ++ (List.range 24).map (fun i => s.word (.si 1) (0x40 + 8 * i)) ++
  (List.range 8).map (fun i => s.word (.si 2) (0x40 + 8 * i)) ++
  (List.range 32).map (fun i => s.word (.si 3) (0x40 + 8 * i)) ++
  (List.range 8).map (fun i => s.word (.si 4) (0x40 + 8 * i)) ++
  (List.range 6).map (fun i => s.word (.si 4) (0x80 + 8 * i))

/-- The switches as SP latched them. -/
def State.swState (s : State) : Nat := s.get (.si 6) SI6.SW_STATE.STATE

/-- CFG_HASH (R311). -/
def State.cfgHash (s : State) : BitVec 32 :=
  crc32 ([s.swState / 256, s.swState % 256] ++ s.hashWords.flatMap wordBytes)

/-- The words of the used blocks. -/
def State.usedCfgs (s : State) : List Word :=
  ((List.finRange 16).map (fun i => s.blkCfg .sp i)).filter (fun w => fld w 35 33 != 0)

/-- Whether an element stands twice in a list. -/
def hasDup : List Nat → Bool
  | [] => false
  | a :: l => l.contains a || hasDup l

/-- Check 2 of R312. -/
def State.armTypes (s : State) : Bool :=
  s.usedCfgs.all (fun w =>
    let t := fld w 35 33
    !(t == 3 && (!bit s.swState 14 || fld w 26 26 == 1)) && !(t == 4 && !bit s.swState 15))

/-- Check 3 of R312. -/
def State.armChannels (s : State) : Bool :=
  s.usedCfgs.all (fun w =>
    let ch := fld w 28 27
    bit s.swState (fld w 32 29) == (ch == 0) && !(decide (3 ≤ fld w 35 33) && ch != 0))

/-- The reset inputs in use. -/
def State.armResets (s : State) : List Nat := (s.usedCfgs.filter (fun w => fld w 26 26 == 1)).map (fun w => fld w 25 21)

/-- Check 4 of R312. -/
def State.armInputs (s : State) : Bool :=
  let l := s.usedCfgs.flatMap blkInputs
  !hasDup l && s.armResets.all (fun r => !l.contains r && !bit s.swState (r / 2))

/-- Check 5 of R312. -/
def State.armFilters (s : State) : Bool :=
  let outs := (List.range 8).filter (fun i => s.flag (.si 2) (SI2.SOUT_CFG.EN.nth i))
  let m := outs.foldl (fun a i => max a (s.get (.si 2) (SI2.SOUT_CFG.PULSE_US.nth i))) 0
  outs.isEmpty || (s.usedCfgs.flatMap blkInputs).all (fun j => decide (m + 50 ≤ s.get (.si 1) (SI1.SIN_CFG.FILT_US.nth j)))

/-- Check 6 of R312. -/
def State.armScope (s : State) : Bool :=
  let code := s.swState / 4096 % 4
  let maint := ((List.range 8).map s.spGrp).filter (fun w => fld w 32 32 == 1)
  let ty := fun (i : Fin 16) => fld (s.blkCfg .sp i) 35 33
  code != 3 && maint.all (fun w =>
    decide (2 ≤ code) && (blksOf (fld w 31 16)).any (fun i => ty i == 3) && (blksOf (fld w 31 16)).all (fun i => inScope s.swState (ty i)))

/-- The first failure of R312, or none; `hash` the computed CFG_HASH. -/
def State.armRefuse (s : State) (hash : Nat) : Option Nat :=
  if hash ≠ s.get (.si 6) SI6.EXP_HASH.HASH ∨ hash ≠ s.get .ovl OVL.BASE_HASH.HASH then some 1
  else if !s.armTypes then some 2
  else if !s.armChannels then some 3
  else if !s.armInputs then some 4
  else if !s.armFilters then some 5
  else if !s.armScope then some 6
  else if s.siState ≠ 0 then some 7
  else none

/-- The parity of a word: whether an odd number of its bits is 1. -/
def parityOf (w : Word) : Bool := countTrue ((List.range 36).map (fun i => w.getLsbD i)) % 2 == 1

/-- The words of a lane's copy in their order, and whether each still has the parity it was latched with (R313, R329). -/
def LaneCopy.words (c : LaneCopy) : List Word := c.cfg.toList ++ c.time.toList ++ c.grp.toList ++ c.map.toList ++ c.sout.toList
def LaneCopy.sound (c : LaneCopy) : Bool := c.words.map parityOf == c.par.toList

/-- The copy a lane latches (R313). -/
def State.laneLatch (s : State) : LaneCopy :=
  let c : LaneCopy :=
  { cfg := Vector.ofFn (fun i => s.word (.si 3) (0x40 + 0x10 * i.val)),
    time := Vector.ofFn (fun i => s.word (.si 3) (0x48 + 0x10 * i.val)),
    grp := Vector.ofFn (fun i => s.word (.si 4) (0x40 + 8 * i.val)),
    map := Vector.ofFn (fun i => s.word (.si 4) (0x80 + 8 * i.val)),
    sout := Vector.ofFn (fun i => s.word (.si 2) (0x40 + 8 * i.val)),
    par := Vector.replicate 54 false }
  { c with par := Vector.ofFn (fun i => parityOf (c.words.getD i.val 0)) }

/-- All blocks of a decider begin anew: those it evaluates in WITHDRAWN (R313). -/
def State.blkBegin (s : State) (d : Decider) : State :=
  let x := s.dec d
  let s := s.setDec d { x with hand := Vector.ofFn (fun i =>
    let p := fld (s.blkCfg d i) 32 29
    Hand.wait.step (s.lvl d (2 * p)) (s.lvl d (2 * p + 1))) }
  forEach (List.finRange 16) (fun i s => s.blkPut d i (if s.blkUsed d i then .withdrawn else .unused)) s

/-- SI_CMD ARM (R303, R312, R313). -/
def State.siArm (s : State) : State :=
  let h := s.cfgHash.toNat
  let s := s.put (.si 6) SI6.CFG_HASH.HASH h
  let agree := h == s.get (.si 6) SI6.EXP_HASH.HASH && h == s.get .ovl OVL.BASE_HASH.HASH
  let s := s.put (.si 0) SI0.SI_STAT.SEAL_OK (b2n agree)
  match s.armRefuse h with
  | some why =>
    let s := (s.put (.si 0) SI0.SI_STAT.REFUSE why).siFire 13 0
    if why = 1 then s.siFire 3 0 else s
  | none =>
    let s := (s.put (.si 0) SI0.SI_STAT.STATE 1).put (.si 0) SI0.SI_STAT.REFUSE 0
    let s := forEach [Pg.si 0, .si 1, .si 2, .si 3, .si 4, .si 6] (fun p s => s.put p HDR.LOCK.LOCK 1) s
    let s := (s.blkBegin .sp).siFire 12 0
    let s := if s.si.lanesOn ∧ s.laneMode = 0 then
        let c := s.laneLatch
        let s := (s.updSi (fun i => { i with copyA := some c, copyB := some c })).put (.si 7) SI7.LANE_STAT.COPY 1
        (s.blkBegin .laneA).blkBegin .laneB
      else s
    s.siUpdate false

/-- SI_CMD (R312, R325). -/
def State.siCommand (s : State) (op : Nat) : State :=
  match op with
  | 1 => s.siArm
  | 2 => s.put (.si 2) SI2.SOUT_STAT.OPEN 0
  | _ => s

/-- The assertion of a reset that resets the control plane has crossed into the island: SP withdraws and withholds every
permission until PE is healthy again, and clears the port requests (R68, R319, R321). -/
def State.siCtrlReset (s : State) : State :=
  let s := ((s.setWord (.si 0) 0x58 0).setWord (.si 0) 0x60 0).updSi (fun i => { i with hold := true, good := 0, beat := false })
  s.siUpdate false

end Sys2Proof.Machine
end

