-- ==== Sys2Proof/Machine/Reset.lean ====
section
/-! DEFINITION. Clocks, reset sources, watchdogs and the release order (R51-R69, R457, R458). -/

namespace Sys2Proof.Machine

/-- Change the reset controller. -/
def State.updRst (s : State) (f : RstPart → RstPart) : State := { s with rst := f s.rst }

/-- The RST_CAUSE bit of a source (R58). -/
def causeBit : RstSrc → Nat
  | .por => 0 | .bor => 1 | .pin => 2 | .wdtCtrl => 3 | .wdtData => 4 | .wdtMgmt => 5 | .si => 6 | .swCold => 7
  | .swWarm => 8 | .dbg => 9

/-- Whether a slot belongs to a page that a warm reset resets: the pages of the control and data planes, and the host DMA
control and status registers in SYS (R40, R65). -/
def warmSlot (a : Nat) : Bool :=
  let p := a / 0x1000
  (decide (0x10 ≤ p) && decide (p ≤ 0xB8)) || (decide (0xD0 ≤ p) && decide (p ≤ 0xEA)) ||
  (p == 0 && decide (0x100 ≤ a) && decide (a < 0x220) && (a % 0x20 == 0x10 || a % 0x20 == 0x18))

/-- Whether a page is reset by a warm reset. -/
def warmPage (p : Pg) : Bool := warmSlot (slotAddr p 0x40)

/-- An engine leaves reset: at its reset vector, its RAMs as they are (R65). -/
def Engine.restart (x : Engine) (pe : Bool) : Engine :=
  { Engine.reset with pmem := x.pmem, xmem := x.xmem, ymem := x.ymem, pc := if pe then 0x10000 else 0x8000 }

/-- A drive port leaves reset: the level of its trip input is what it is. -/
def DrivePort.restart (d : DrivePort) : DrivePort :=
  { DrivePort.reset with tripPin := d.tripPin, tripSince := d.tripSince }

/-- The state that a warm reset puts the control and data planes and the host DMA engines into (R65, R66). -/
def State.warmPlanes (s : State) : State :=
  { s with
    regs := s.regs.filter (fun c => !warmSlot c.1)
    frozen := s.frozen.filter (fun c => !warmSlot c.1)
    softRst := s.softRst.filter (fun e => !warmPage e.1)
    refillQ := []
    queues := Queues.reset
    axes := Vector.replicate 48 Axis.reset
    ports := s.ports.map DrivePort.restart
    cars := Vector.replicate 12 Carrier.reset
    fbs := Vector.replicate 48 FbPart.reset
    adcs := Vector.replicate 6 AdcPart.reset
    recd := { RecPart.reset with base := s.recd.base }
    cans := Vector.replicate 4 CanPart.reset
    eths := Vector.replicate 2 EthPart.reset
    vms := Vector.replicate 8 VMast.reset
    doors := Vector.replicate 32 Door.reset
    engs := Vector.ofFn (fun e => s.engs[e].restart (e == 12))
    host := { s.host with dmaSeq := Vector.replicate 9 0, txMoved := [], txBack := [] } }

/-- Every debug halt ends (R435). -/
def State.endHalts (s : State) : State :=
  let was := s.word .dbg 0x48 != 0
  let s := ((s.put .dbg DBG.DBG_CTRL.HALT_ALL 0).put .dbg DBG.DBG_CTRL.HALT_ENG 0).setWord .dbg 0x48 0
  (s.updHost (fun h => { h with haltAt := none })).doIf was (fun s => s.fire .dbg 5)

/-- A reset of warm reach asserts (R65, R66, R68); no event of the planes it resets is pending any more (R421). -/
def State.resetWarm (s : State) : State :=
  let s := s.warmPlanes.arbWarm.endHalts
  (s.updRst (fun r => { r with reach := 1, resetOut := true, engRel := false, periRel := false, dpRel := false })).siCtrlReset.irqUpdate

/-- What no reset of cold or power reach touches: the waiting commands, the running count of ticks and of free values. The
store's contents become undefined (R57). -/
def State.blank (s : State) : State :=
  { State.reset with pending := s.pending, now := s.now, serial := s.serial, epoch := s.epoch + 1 }

/-- A reset of power reach: everything is reset (R57). The switches' positions, VSAFE and the stop of SCLK_SI are conditions
outside the logic. -/
def State.resetPower (s : State) : State :=
  { s.blank with si := { SiPart.reset with
    sw := s.si.sw, swA := s.si.swA, swB := s.si.swB, readOn := s.si.readOn, sclkStop := s.si.sclkStop, vsafeBad := s.si.vsafeBad } }

/-- The slots that a reset of cold reach keeps: RST_CAUSE, and the page of the lanes (R57). -/
def coldSlot (a : Nat) : Bool := a == 0x1040 || a / 0x1000 == 0xC7

/-- A reset of cold reach: the lanes, RST_CAUSE, SI_OSC_FAULT, the retained ladder state and a present PLL lock are kept
(R51, R57, R75). A brown-out keeps the lock too (DESIGN CHOICE, log 33). -/
def State.resetCold (s : State) : State :=
  let t := s.blank
  let t := { t with
    regs := s.regs.filter (fun c => coldSlot c.1)
    si := { SiPart.reset with
      laneA := s.si.laneA
      laneB := s.si.laneB
      copyA := s.si.copyA
      copyB := s.si.copyB
      laneSwA := s.si.laneSwA
      laneSwB := s.si.laneSwB
      sw := s.si.sw
      swA := s.si.swA
      swB := s.si.swB
      readOn := s.si.readOn
      lanesOn := s.si.lanesOn
      wait := s.si.wait
      hold := true
      rootFault := s.si.rootFault
      sclkStop := s.si.sclkStop
      vsafeBad := s.si.vsafeBad }
    rst := { RstPart.reset with reach := 2, asserted := [] } }
  let t := t.put .clk CLK.STAT.SI_OSC_FAULT (s.get .clk CLK.STAT.SI_OSC_FAULT)
  let t := t.put .clk CLK.STAT.ROOT_LOCK (s.get .clk CLK.STAT.ROOT_LOCK)
  let t := t.put (.si 0) SI0.SI_STAT.LADDER (s.get (.si 0) SI0.SI_STAT.LADDER)
  let t := t.put (.si 0) SI0.SI_STAT.LHOLD (s.get (.si 0) SI0.SI_STAT.LHOLD)
  t.siUpdate false

/-- A source asserts with a reach (1 warm, 2 cold, 3 power): the widest reach of the reset in progress and of this source
applies, RST_CAUSE records the source, and a new stretch begins (R57-R61). -/
def State.assertReset (s : State) (src : RstSrc) (reach : Nat) : State :=
  let held := s.rst.asserted
  let wide := max reach s.rst.reach
  let cause := s.get .rst ⟨0x40, 9, 0, 0, 0⟩
  let cause := if src = .por then 1 else setBit cause (causeBit src)
  let t := match wide with
    | 3 => s.resetPower
    | 2 => s.resetCold
    | _ => s.resetWarm
  let level := src = .por ∨ src = .bor
  let held := if src = .por then [.por] else if level ∧ src ∉ held then held ++ [src] else held
  let t := t.updRst (fun r => { r with asserted := held })
  t.setWord .rst 0x40 (BitVec.ofNat 36 (wide <<< 10 ||| cause))

/-! ### Clocks (R51, R52) -/

/-- PLL_LOCK (R51). -/
def execPllLock (s : State) : Out := .next (s.put .clk CLK.STAT.ROOT_LOCK 1)

/-- CLOCK_UNGATE (R51): the stretch has ended and the PLL reports lock; after a loss of lock only a cold or power reset brings the
clocks back (R52). -/
def execClockUngate (s : State) : Out :=
  .next (if !s.rst.resetOut && !s.rst.lossHold && s.flag .clk CLK.STAT.ROOT_LOCK then s.updRst (fun r => { r with clkOn := true }) else s)

/-- A port's output registers are cleared: its outputs are low, and both coils off. -/
def DrivePort.low (now : Nat) (d : DrivePort) : DrivePort :=
  { d.cut now with coilA := Coil.reset, coilB := Coil.reset, forced := true }

/-- PLL_LOCK_LOSS (R52): the output registers of every drive port are cleared, and the derived clocks are gated: no block that they
clock runs until a cold or power reset has released it again. -/
def execPllLockLoss (s : State) : Out :=
  let s := s.put .clk CLK.STAT.ROOT_LOCK 0
  .next { s with
    ports := s.ports.map (DrivePort.low s.now)
    rst := { s.rst with
      clkOn := false, lossHold := true, mgmtRel := false, storeRdy := false, engRel := false, periRel := false, dpRel := false } }

/-! ### Sources (R58, R60, R62, R457, R458) -/

/-- POWER_ON_ASSERT (R457). -/
def execPowerOnAssert (s : State) : Out := .next (s.assertReset .por 3)

/-- A level source releases. -/
def State.sourceOff (s : State) (src : RstSrc) : State :=
  s.updRst (fun r => { r with asserted := r.asserted.filter (fun x => x != src) })

/-- POWER_ON_RELEASE (R457): the stretch counts from here. -/
def execPowerOnRelease (s : State) : Out := .next (s.sourceOff .por)

/-- BROWN_OUT_ASSERT (R58): only while the power-on source is released. -/
def execBrownOutAssert (s : State) : Out :=
  .next (if s.rst.asserted.contains .por then s else s.assertReset .bor 2)

/-- BROWN_OUT_RELEASE (R58). -/
def execBrownOutRelease (s : State) : Out := .next (s.sourceOff .bor)

/-- RESET_IN_PULSE of a duration in ns (R58): below 100 ns nothing; from 1 µs a reset whose reach PIN_MODE gives; between, the
one or the other (R458). -/
def execResetInPulse (ns : Nat) (s : State) : Out :=
  let go := fun (s : State) => s.assertReset .pin (if s.flag .rst RST.CFG.PIN_MODE then 1 else 2)
  if ns < 100 then .next s
  else if 1000 ≤ ns then .next (go s)
  else
    let s' := { s with serial := s.serial + 1 }
    .next (if Config.pulseTaken s.serial then go s' else s')

/-- A watchdog's register, warning event, source and reach (R58, R62). -/
def wdtInfo : Wdt → Fld × Nat × RstSrc × Nat
  | .ctrl => (RST.WDT_CTRL.EN, 0, .wdtCtrl, 1)
  | .data => (RST.WDT_DATA.EN, 1, .wdtData, 1)
  | .mgmt => (RST.WDT_MGMT.EN, 2, .wdtMgmt, 2)

/-- Whether a watchdog has warned since its last restart. -/
def RstPart.warned (r : RstPart) : Wdt → Bool
  | .ctrl => r.warnCtrl | .data => r.warnData | .mgmt => r.warnMgmt

/-- A watchdog restarts at a tick (R62). -/
def RstPart.wdStart (r : RstPart) (now : Nat) : Wdt → RstPart
  | .ctrl => { r with wdCtrl := now, warnCtrl := false }
  | .data => { r with wdData := now, warnData := false }
  | .mgmt => { r with wdMgmt := now, warnMgmt := false }

/-- Whether a watchdog runs: enabled, clocked, and no reset asserted or stretched (R52, R62). -/
def State.wdtRuns (s : State) (w : Wdt) : Bool := s.flag .rst (wdtInfo w).1 && !s.rst.resetOut && !s.rst.lossHold

/-- WATCHDOG_WARNING (R62): 75 % of TO_MS has passed. -/
def execWatchdogWarning (w : Wdt) (s : State) : Out :=
  if s.wdtRuns w && !s.rst.warned w then
    let s := s.updRst (fun r => match w with
      | .ctrl => { r with warnCtrl := true }
      | .data => { r with warnData := true }
      | .mgmt => { r with warnMgmt := true })
    .next (s.fire .rst (wdtInfo w).2.1)
  else .next s

/-- WATCHDOG_EXPIRY (R62): 100 % of TO_MS has passed. -/
def execWatchdogExpiry (w : Wdt) (s : State) : Out :=
  .next (if s.wdtRuns w then s.assertReset (wdtInfo w).2.2.1 (wdtInfo w).2.2.2 else s)

/-- WDT_KICK (R62): a bit from a requester not entitled to it is ignored. -/
def State.wdtKick (s : State) (r : Req) (bits : Nat) : State :=
  let host := r == .bar0 || r == .bar2 || r == .spi
  let kick := fun (i : Nat) (ok : Bool) (w : Wdt) (s : State) =>
    s.doIf (bit bits i && ok) (fun s => s.updRst (fun x => x.wdStart s.now w))
  kick 0 (r == .pe) .ctrl (kick 1 (host || r == .pe) .data (kick 2 (host || r == .pe) .mgmt s))

/-- An accepted write of RST.CMD (R58): a software cold reset comes from a secure requester, so it also clears the retained
ladder state and ends the hold (R74, R75). -/
def State.rstCommand (s : State) (op : Nat) : State :=
  match op with
  | 1 => s.assertReset .swWarm 1
  | 2 =>
    let s := (s.put (.si 0) SI0.SI_STAT.LADDER 0).put (.si 0) SI0.SI_STAT.LHOLD 0
    (s.updSi (fun i => { i with wait := false })).assertReset .swCold 2
  | _ => s

/-- Whether a source can assert with warm reach now (R58, R62). -/
def State.warmSource (s : State) : RstSrc → Bool
  | .pin => s.flag .rst RST.CFG.PIN_MODE
  | .wdtCtrl => s.wdtRuns .ctrl
  | .wdtData => s.wdtRuns .data
  | .si | .swWarm | .dbg => true
  | _ => false

/-- WARM_RESET_ASSERT (R65-R68): a warm source asserts. -/
def execWarmResetAssert (src : RstSrc) (s : State) : Out :=
  .next (if s.warmSource src then s.assertReset src 1 else s)

/-! ### The release order (R61, R63, R68) -/

/-- The island leaves reset: SP latches the switches, the lanes after a power reset only (R310), and the inputs take their first
sample, some of them in the hysteresis band (R70). -/
def State.siRelease (s : State) : State :=
  let sw := s.si.sw.getD Config.switches
  let power := s.rst.reach == 3
  let (f, s) := s.fresh
  let s := (s.put (.si 6) SI6.SW_STATE.STATE sw.toNat).put (.si 1) SI1.SIN_INDET.INDET (f.toNat % 2 ^ 24)
  let s := s.updSi (fun i => { i with
    lanesOn := true
    laneSwA := if power then i.swA.getD Config.switches else i.laneSwA
    laneSwB := if power then i.swB.getD Config.switches else i.laneSwB })
  s.updRst (fun r => { r with siRel := true })

/-- RESET_STRETCH_END (R61): no source is asserted any more; RESET_OUT is released and every watchdog restarts. After a power or
cold reset the island leaves reset, after a warm reset the engines do (R63, R68). -/
def execResetStretchEnd (s : State) : Out :=
  if s.rst.resetOut && s.rst.asserted.isEmpty then
    let s := s.updRst (fun r => ((({ r with resetOut := false }).wdStart s.now .ctrl).wdStart s.now .data).wdStart s.now .mgmt)
    .next (if s.rst.reach = 1 then s.doIf (!s.rst.lossHold) (fun s => s.updRst (fun r => { r with engRel := true })) else s.siRelease)
  else .next s

/-- MANAGEMENT_RELEASE (R63, R64): the management plane and host access; ARB's timetable starts at slot 0. -/
def execManagementRelease (s : State) : Out :=
  .next (if s.rst.clkOn && !s.rst.resetOut && !s.rst.mgmtRel then
    (s.updRst (fun r => { r with mgmtRel := true })).updArb (fun a => { a with cycle := 0 })
  else s)

/-- STORE_READY (R63): the store is ready and the engines leave reset. -/
def execStoreReady (s : State) : Out :=
  .next (if s.rst.mgmtRel && !s.rst.resetOut && !s.rst.storeRdy then
    let s := s.updRst (fun r => { r with storeRdy := true, engRel := true })
    let s := { s with engs := Vector.ofFn (fun e => s.engs[e].restart (e == 12)) }
    s.reportFlush
  else s)

/-- PERIPHERAL_RELEASE (R63, R68): the profile units ask for their model records (R141); the field side of the banks is
released after a power or cold reset only (R65). -/
def execPeripheralRelease (s : State) : Out :=
  .next (if s.rst.engRel && !s.rst.resetOut && !s.rst.periRel then
    let s := s.updRst (fun r => { r with periRel := true })
    let s := { s with refillQ := s.refillQ ++ (List.finRange 48).map (fun n => (true, n)) }
    s.doIf (decide (2 ≤ s.rst.reach)) (fun s => forEach (List.finRange 4) (fun b s => s.updFiob b (fun x => { x with rel := true, scanAt := s.now })) s)
  else s)

/-- DRIVE_PORT_RELEASE (R63, R68): the drive port logic is released and sees the PEN lines; the reset is over. -/
def execDrivePortRelease (s : State) : Out :=
  .next (if s.rst.periRel && !s.rst.resetOut && !s.rst.dpRel then
    let s := s.updRst (fun r => { r with dpRel := true, reach := 0 })
    forEach (List.finRange 48) (fun n s => (s.put (.dp n) DP.DP_STAT.PEN (b2n (s.penBall n))).dpPins n) s
  else s)

end Sys2Proof.Machine
end

