-- ==== Sys2Proof/Machine/IslandRows.lean ====
section
/-! DEFINITION. The rows of the safety island: inputs, function blocks, the watch of PE with the recovery ladder, outputs,
diagnostics, the lanes' modes and the mutual watch (R53-R56, R70-R76, R300-R329). -/

namespace Sys2Proof.Machine

/-- Whether a decider is out of reset. -/
def State.decOn (s : State) : Decider → Bool
  | .sp => s.rst.siRel
  | _ => s.si.lanesOn

/-- The level of an input as SIN_LEVEL shows it, and its other two bits. -/
def sinBit (off : Nat) (i : Fin 24) : Fld := ⟨off, i.val, i.val, 0, 0⟩

/-! ### VSAFE (R302) -/

/-- VSAFE_FAULT (R302): every PENnn low and every SOUTn off. -/
def execVsafeFault (s : State) : Out := .next ((s.updSi (fun i => { i with vsafeBad := true })).siUpdate false)

/-- VSAFE_RECOVERY (R302): 2 ms after VSAFE has returned, the hold ends and the VSAFE event fires. -/
def execVsafeRecovery (s : State) : Out :=
  .next (if s.si.vsafeBad then
    let s := s.updSi (fun i => { i with vsafeBad := false })
    (s.doIf s.rst.siRel (fun s => s.siFire 15 0)).siUpdate false
  else s)

/-! ### Inputs (R70-R72, R307, R308, R317) -/

/-- The blocks of a decider that a manual reset through an input moves to PERMIT: those in WAIT_RST (R317); the tick is kept for
R319. -/
def State.manualReset (s : State) (d : Decider) (i : Fin 24) : State :=
  forEach (List.finRange 16) (fun k s =>
    let w := s.blkCfg d k
    s.doIf ((s.dec d).st[k] == .waitRst && fld w 26 26 == 1 && fld w 25 21 == i.val) (fun s =>
      let x := s.dec d
      (s.setDec d { x with resetAt := x.resetAt.set k (some s.now) }).blkPut d k .permit)) s

/-- SAFETY_INPUT_ACCEPT (R307): a decider's filter accepts a level; its blocks are evaluated, a loss of health before a reset
(R319), and a reset input that leaves its filter at off after 50 ms to 3 s on resets the blocks that wait (R317). -/
def execSafetyInputAccept (dec : Decider) (i : Fin 24) (level : Bool) (s : State) : Out :=
  if !s.decOn dec then .next s
  else
    let x := s.dec dec
    let held := match x.onAt[i] with
      | some t => !level && x.level[i] && decide (15000000 ≤ s.now - t) && decide (s.now - t ≤ 900000000)
      | none => false
    let s := s.setDec dec { x with
      level := x.level.set i level
      onAt := if level && !x.level[i] then x.onAt.set i (some s.now) else x.onAt }
    let s := s.doIf (dec == .sp) (fun s =>
      (s.put (.si 1) (sinBit 0x100 i) (b2n level)).put (.si 1) (sinBit 0x108 i) 0)
    let s := (s.handScan dec).blkScanAll dec
    let usable := dec != .sp || s.get (.si 1) (sinBit 0x110 i) == 0
    let s := s.doIf (held && usable) (fun s => s.manualReset dec i)
    .next (s.siUpdate false)

/-- SP takes an input as faulted: SIN_FAULT, IN_FAULT, and off for every block from now on (R307, R308). -/
def State.inputFault (s : State) (i : Fin 24) : State :=
  let s := (s.put (.si 1) (sinBit 0x110 i) 1).siFire 6 i.val
  ((s.handScan .sp).blkScanAll .sp).siUpdate false

/-- SAFETY_INPUT_MISMATCH (R308): SP's level of an input has differed from a lane's for 100 µs; one that does not differ now is
no fault. -/
def execSafetyInputMismatch (i : Fin 24) (s : State) : Out :=
  .next (if s.rst.siRel && (s.si.sp.level[i] != s.si.laneA.level[i] || s.si.sp.level[i] != s.si.laneB.level[i]) then
    s.inputFault i else s)

/-- SAFETY_INPUT_INDETERMINATE (R72): an input is still indeterminate when its filter time expires: a fault of the input, which
SP shows (R307). -/
def execSafetyInputIndeterminate (dec : Decider) (i : Fin 24) (s : State) : Out :=
  .next (if dec = .sp ∧ s.rst.siRel ∧ s.get (.si 1) (sinBit 0x108 i) = 1 then s.inputFault i else s)

/-- SWITCH_CHECK (R301, R310): a decider reads the switches on its own input path and compares them with its latched state. -/
def execSwitchCheck (dec : Decider) (live : BitVec 16) (s : State) : Out :=
  let s := s.updSi (fun i => match dec with
    | .sp => { i with sw := some live }
    | .laneA => { i with swA := some live }
    | .laneB => { i with swB := some live })
  .next (match dec with
    | .sp =>
      let s := s.doIf s.rst.siRel (fun s => s.put (.si 6) SI6.SW_STATE.LIVE live.toNat)
      s.doIf (s.rst.siRel && live.toNat != s.swState) (fun s => s.safeFault 1 0)
    | d => s.doIf (s.si.lanesOn && live != s.laneSw d) (fun s => s.laneLockout 7))

/-! ### Function blocks (R316, R318) -/

/-- SFB_DEMAND_EXPIRY (R316): CAT1_MS has passed since a block entered DEMAND: it is withdrawn, even if it is healthy again. -/
def execSfbDemandExpiry (dec : Decider) (i : Fin 16) (s : State) : Out :=
  .next (if s.decOn dec ∧ (s.dec dec).st[i] = .demand then
    (s.blkPut dec i .withdrawn).siUpdate false else s)

/-- SFB_DISCREPANCY (R316): the channels of a two-channel block have disagreed for DISC_MS. -/
def execSfbDiscrepancy (dec : Decider) (i : Fin 16) (s : State) : Out :=
  let w := s.blkCfg dec i
  let p := fld w 32 29
  let ty := fld w 35 33
  let two := (ty == 1 || ty == 2 || ty == 4) && fld w 28 27 == 0
  .next (if s.decOn dec && s.blkUsed dec i && two && s.lvl dec (2 * p) != s.lvl dec (2 * p + 1) then
    (s.blkPut dec i .disc).siUpdate false else s)

/-- TWO_HAND_WINDOW_EXPIRY (R318): SYNC_MS has passed with one input on. -/
def execTwoHandWindowExpiry (dec : Decider) (i : Fin 16) (s : State) : Out :=
  let x := s.dec dec
  .next (if s.decOn dec ∧ x.hand[i] = .window then s.setDec dec { x with hand := x.hand.set i .wait } else s)

/-- SP_PERMISSION_UPDATE (R18, R19, R320): every decider evaluates its blocks and SP grants what now holds. -/
def execSpPermissionUpdate (s : State) : Out :=
  let s := s.doIf s.rst.siRel (fun s => s.blkScanAll .sp)
  let s := s.doIf s.si.lanesOn (fun s => (s.blkScanAll .laneA).blkScanAll .laneB)
  .next (s.siUpdate true)

/-! ### The watch of PE and the recovery ladder (R74, R75, R321) -/

/-- PE has failed once more: the next step of the ladder (R74, R75). -/
def State.ladderFail (s : State) : State :=
  let l := s.get (.si 0) SI0.SI_STAT.LADDER
  if s.flag (.si 0) SI0.SI_STAT.LHOLD then s
  else if l = 3 then (s.put (.si 0) SI0.SI_STAT.LHOLD 1).siUpdate false
  else
    let s := (s.put (.si 0) SI0.SI_STAT.LADDER (l + 1)).updSi (fun i => { i with wait := true })
    s.assertReset .si (if l = 2 then 2 else 1)

/-- PE_WATCH_WINDOW_EXPIRY (R74, R321): a window of WIN_MS closes, with a beat or without one. Windows of a reset in
progress, or of the wait for PE after a reset that the island commanded, do not advance the ladder (DESIGN CHOICE, log 43). -/
def execPeWatchWindowExpiry (s : State) : Out :=
  if !s.rst.siRel then .next s
  else if s.si.beat then .next (s.updSi (fun i => { i with beat := false, good := i.good + 1 }))
  else
    let s := (s.updSi (fun i => { i with good := 0 })).put (.si 0) SI0.SI_STAT.PE_OK 0
    let s := ((s.setWord (.si 0) 0x58 0).setWord (.si 0) 0x60 0).siFire 4 0
    let s := s.siUpdate false
    .next (s.doIf (!s.si.wait && s.rst.reach == 0) (fun s => s.ladderFail))

/-- PE_HEALTHY (R321): beats have arrived in four consecutive windows. -/
def execPeHealthy (s : State) : Out :=
  if s.rst.siRel && decide (4 ≤ s.si.good) && (!s.flag (.si 0) SI0.SI_STAT.PE_OK || s.si.hold || s.si.wait) then
    let was := s.flag (.si 0) SI0.SI_STAT.PE_OK
    let s := (s.updSi (fun i => { i with hold := false, wait := false })).put (.si 0) SI0.SI_STAT.PE_OK 1
    .next (s.doIf (!was) (fun s => s.siFire 14 0))
  else .next s

/-- LADDER_HEALTH_TIMEOUT (R74): PE has not reported healthy within 100 ms of the end of the stretch of a reset that the
island commanded. -/
def execLadderHealthTimeout (s : State) : Out :=
  .next (if s.rst.siRel && s.si.wait && !s.rst.resetOut then s.ladderFail else s)

/-- LADDER_CLEAR (R75): PE_OK has held for 1 s without a break. -/
def execLadderClear (s : State) : Out :=
  .next (if s.flag (.si 0) SI0.SI_STAT.PE_OK then s.put (.si 0) SI0.SI_STAT.LADDER 0 else s)

/-! ### Port enables and outputs (R322-R325) -/

/-- A PEN ball reads high: PEN_BALL shows it, and a released drive port sees it. -/
def State.penHigh (s : State) (n : Fin 48) : State :=
  let s := if n.val < 36 then s.put (.si 0) SI0.PEN_BALL0.BALL (setBit (s.get (.si 0) SI0.PEN_BALL0.BALL) n.val)
    else s.put (.si 0) SI0.PEN_BALL1.BALL (setBit (s.get (.si 0) SI0.PEN_BALL1.BALL) (n.val - 36))
  s.doIf s.rst.dpRel (fun s => s.put (.dp n) DP.DP_STAT.PEN 1)

/-- PEN_READBACK_FAULT (R322): a ball has read high for 10 µs while a decider withholds the port. -/
def execPenReadbackFault (n : Fin 48) (s : State) : Out :=
  .next (if s.withheld n then ((s.safeFault 3 0).laneLockout 6).penHigh n else s)

/-- SOUT_OFF_PULSE (R324): lane A switches an output that is on off; never while another output is in its pulse. -/
def execSoutOffPulse (n : Fin 8) (s : State) : Out :=
  .next (if s.si.lanesOn && s.si.pulse.isNone && s.soutDrive n then
    (s.updSi (fun i => { i with pulse := some n.val })).siUpdate false else s)

/-- What the ball of an output reads beside its drive (R324, R325). -/
def State.soutReads (s : State) (n : Fin 8) (on : Bool) : State :=
  let m := BitVec.ofNat 8 (1 <<< n.val)
  s.updSi (fun i => { i with readOn := if on then i.readOn ||| m else i.readOn &&& ~~~ m })

/-- SP or lane B finds an output on where it must be off: STUCK (R324, R325). -/
def State.soutStuck (s : State) (n : Fin 8) : State :=
  let s := s.put (.si 2) SI2.SOUT_STAT.STUCK (setBit (s.get (.si 2) SI2.SOUT_STAT.STUCK) n.val)
  (s.siFire 7 n.val).safeFault 2 n.val

/-- SOUT_OFF_PULSE_END (R324): the pulse ends, and the readback must read off, for SP and for lane B. -/
def execSoutOffPulseEnd (n : Fin 8) (readsOn : Bool) (s : State) : Out :=
  if s.si.pulse = some n.val then
    let s := s.soutReads n readsOn
    let s := s.doIf (readsOn && s.rst.siRel) (fun s => s.soutStuck n)
    .next ((s.updSi (fun i => { i with pulse := none })).siUpdate false)
  else .next s

/-- Whether an output is commanded on (R323). -/
def State.soutOn (s : State) (n : Fin 8) : Bool := s.soutDrive n

/-- SOUT_STUCK (R325): an output has read on for 100 µs while commanded off; READ shows it. -/
def execSoutStuck (n : Fin 8) (s : State) : Out :=
  .next (if s.rst.siRel && !s.soutOn n && s.si.pulse != some n.val then
    ((s.soutReads n true).soutStuck n).siUpdate false
  else s)

/-- SOUT_OPEN (R325): an output has read off for 100 µs while it must read on; it is held off until CLR_OUT. -/
def execSoutOpen (n : Fin 8) (s : State) : Out :=
  if s.rst.siRel && s.soutOn n then
    let s := s.put (.si 2) SI2.SOUT_STAT.OPEN (setBit (s.get (.si 2) SI2.SOUT_STAT.OPEN) n.val)
    .next ((s.siFire 7 n.val).siUpdate false)
  else .next s

/-! ### Diagnostics and the lanes' modes (R326-R329) -/

/-- SP_DIAG (R326): a diagnostic of SP fails. -/
def execSpDiag (d : Fin 8) (s : State) : Out :=
  .next (if s.rst.siRel then
    (s.put (.si 5) SI5.DIAG_STAT.FAILED (setBit (s.get (.si 5) SI5.DIAG_STAT.FAILED) d.val)).siFire 5 0 else s)

/-- Whether a cause of R328 or R329 can hold as the island stands: 1 a failed diagnostic, 3 a permission that SP alone gives, 4
lanes that differ, 5 the SCLK_SI fault, 6 a port enable that reads high while withheld; strobes (2) and self-checks (7) come from
inside the deciders. -/
def State.laneCause (s : State) (cause : Nat) : Bool :=
  match cause with
  | 1 => s.get (.si 5) SI5.DIAG_STAT.FAILED != 0
  | 3 => s.spAlone
  | 4 => s.lanesDiffer
  | 5 => s.flag .clk CLK.STAT.SI_OSC_FAULT
  | 6 => (List.finRange 48).any (fun n => s.penBall n && s.withheld n)
  | c => c == 2 || c == 7

/-- TAKEOVER (R76, R328): causes 1 to 3. -/
def execTakeover (cause : Fin 4) (s : State) : Out := .next (if s.laneCause cause.val then s.laneTakeover cause.val else s)

/-- LOCKOUT (R329): causes 4 to 7. -/
def execLockout (cause : Fin 8) (s : State) : Out :=
  .next (if 4 ≤ cause.val ∧ s.laneCause cause.val then s.laneLockout cause.val else s)

/-! ### The mutual watch (R53-R56) -/

/-- ROOT_WATCH_WINDOW (R53): the island's count of NCLK edges over 100 µs. -/
def execRootWatchWindow (count : Nat) (s : State) : Out :=
  if !s.rst.siRel then .next s
  else if 2425 ≤ count ∧ count ≤ 2575 then .next (s.updSi (fun i => { i with rootFault := false }))
  else
    let s := (s.updSi (fun i => { i with rootFault := true })).siUpdate false
    .next ((s.siFire 9 0).assertReset .si 2)

/-- SI_WATCH_WINDOW (R54): CLK's count of SCLK_SI edges over 30,000 FCLK cycles. A window that overlaps one with a ROOT fault counts
even if the cold reset for that fault has come first (R56). -/
def execSiWatchWindow (count : Nat) (s : State) : Out :=
  let bad := decide (count < 4656) || decide (4944 < count)
  if !s.released .clk then
    .next (s.doIf (bad && s.si.rootFault && decide (2 ≤ s.rst.reach)) (fun s =>
      (s.put .clk CLK.STAT.SI_OSC_FAULT 1).siUpdate false))
  else
    let s := s.put .clk CLK.STAT.SI_COUNT count
    if !bad then .next ((s.updSi (fun i => { i with sclkStop := false })).siUpdate false)
    else .next (((s.put .clk CLK.STAT.SI_OSC_FAULT 1).fire .clk 0).siUpdate false)

/-- SCLK_SI_STOP (R55): SCLK_SI has stopped for 2 µs: every PENnn falls. -/
def execSclkSiStop (s : State) : Out := .next ((s.updSi (fun i => { i with sclkStop := true })).siUpdate false)

end Sys2Proof.Machine
end

