-- ==== Sys2Proof/Machine/Can.lean ====
section
/-! DEFINITION. CAN FD links: reception and the ring, transmit buffers, reference messages and the sleep agreement
(R382-R402). -/

namespace Sys2Proof.Machine

/-- Change a link's working state. -/
def State.updCan (s : State) (c : Fin 4) (f : CanPart → CanPart) : State := { s with cans := s.cans.set c (f s.cans[c]) }

/-- CAN_MODE.MODE in force: 0 CONFIG, 1 NORMAL, 2 LISTEN. -/
def State.canMode (s : State) (c : Fin 4) : Nat := s.get (.can c) CAN.CAN_MODE.MODE

/-- SLP_STAT.SSTATE: 0 AWAKE, 1 GUARD, 2 ASLEEP, 3 WAKING. -/
def State.slp (s : State) (c : Fin 4) : Nat := s.get (.can c) CAN.SLP_STAT.SSTATE

/-- ERR_STAT.STATE: 0 active, 1 passive, 2 bus-off. -/
def State.canErr (s : State) (c : Fin 4) : Nat := s.get (.can c) CAN.ERR_STAT.STATE

/-- The state of a transmit buffer: 0 EMPTY, 1 PENDING, 2 ACTIVE, 3 SENT, 4 FAILED, 5 ABORTED. -/
def State.txState (s : State) (c : Fin 4) (b : Nat) : Nat := s.get (.can c) ⟨0x90, 3 * b + 2, 3 * b, 0, 0⟩

/-- Put the state of a transmit buffer. -/
def State.txPut (s : State) (c : Fin 4) (b v : Nat) : State := s.put (.can c) ⟨0x90, 3 * b + 2, 3 * b, 0, 0⟩ v

/-- Data bytes of a frame by its DLC, as the standard gives. -/
def canLen (fdf rtr : Bool) (dlc : Nat) : Nat :=
  if rtr then 0
  else if dlc ≤ 8 then dlc
  else if !fdf then 8
  else match dlc with
    | 9 => 12 | 10 => 16 | 11 => 20 | 12 => 24 | 13 => 32 | 14 => 48 | _ => 64

/-- Bytes packed four to a word, the first in bits 31:24. -/
def packBytes (l : List (BitVec 8)) (words : Nat) : List Word :=
  (List.range words).map (fun w => BitVec.ofNat 36 ((List.range 4).foldl (fun a j => a * 256 + (l.getD (4 * w + j) 0).toNat) 0))

/-- Whether a frame is a reference message of the link (R395). -/
def State.canIsRef (s : State) (c : Fin 4) (f : CanFrame) : Bool :=
  let w := s.word (.can c) 0x98
  fld w 35 34 != 0 && fld w 28 0 == f.id && fld w 33 33 == b2n f.ide && decide (1 ≤ canLen f.fdf f.rtr f.dlc)

/-- Whether a frame is a SLEEP_COMMIT frame of the link (R398). -/
def State.canIsCommit (s : State) (c : Fin 4) (f : CanFrame) : Bool :=
  let w := s.word (.can c) 0xC8
  fld w 35 35 == 1 && fld w 28 0 == f.id && fld w 34 34 == b2n f.ide && decide (1 ≤ canLen f.fdf f.rtr f.dlc) &&
    f.data.getD 0 0 == 0x5C

/-- The record of a frame with the count C and platform time of its SOF (R389). -/
def canRec (f : CanFrame) (self tref sleep : Bool) (c t : Nat) : CanRec :=
  let len := canLen f.fdf f.rtr f.dlc
  let st := time72 t
  { w0 := b2n self <<< 14 ||| b2n tref <<< 13 ||| b2n sleep <<< 12 ||| f.dlc <<< 8 ||| len
    rest := [BitVec.ofNat 36 (b2n f.ide <<< 35 ||| b2n f.fdf <<< 34 ||| b2n f.brs <<< 33 ||| b2n f.esi <<< 32 |||
               b2n f.rtr <<< 31 ||| f.id), st.1, st.2, BitVec.ofNat 36 (c % 2 ^ 36)] ++ packBytes (f.data.take len) ((len + 3) / 4) }

/-- A record takes one of the four places before the ring, or is lost (R390). -/
def State.canHold (s : State) (c : Fin 4) (r : CanRec) : State :=
  if s.cans[c].held.length < 4 then s.updCan c (fun x => { x with held := x.held ++ [r] })
  else (s.inc (.can c) CAN.RX_STAT.DROPS).fire (.can c) 8

/-- A valid reference message (R395-R397): its SOF becomes Ref_Mark. -/
def State.canRef (s : State) (c : Fin 4) (f : CanFrame) (cnt t : Nat) (own : Bool) : State :=
  let b0 := (f.data.getD 0 0).toNat
  let w := time72 t
  let s := ((s.setWord (.can c) 0xB8 w.1).setWord (.can c) 0xC0 w.2).updCan c (fun x => { x with refMark := cnt })
  let s := s.doIf (own && s.get (.can c) CAN.TT_CFG.ROLE == 1 && s.cans[c].ref0.isNone) (fun s =>
    s.updCan c (fun x => { x with ref0 := some cnt }))
  let s := (s.put (.can c) CAN.TT_STAT.CC (b0 % 64)).put (.can c) CAN.TT_STAT.NEXT_GAP (b0 / 128)
  let s := (s.put (.can c) CAN.TT_STAT.TSTATE 2).fire (.can c) 27
  s.doIf (!own && s.get (.can c) CAN.TT_CFG.ROLE == 1) (fun s => s.fire (.can c) 29)

/-- What a frame on the bus without error leads to, received or sent: record, reference, commit (R388, R395, R398). -/
def State.canFrame (s : State) (c : Fin 4) (f : CanFrame) (own : Bool) (cnt t : Nat) : State :=
  let tref := s.canIsRef c f
  let commit := s.canIsCommit c f && s.slp c == 0
  let s := s.doIf (!own || s.flag (.can c) CAN.CAN_MODE.ECHO_OWN) (fun s => s.canHold c (canRec f own tref commit cnt t))
  let s := s.doIf tref (fun s => s.canRef c f cnt t own)
  s.doIf commit (fun s => s.put (.can c) CAN.SLP_STAT.SSTATE 1)

/-- ERR_STAT follows the error counters: error-passive from 128 of either (R382), with ERR_PASSIVE on entry. -/
def State.canErrState (s : State) (c : Fin 4) : State :=
  if s.canErr c = 2 then s
  else
    let passive := decide (128 ≤ s.get (.can c) CAN.ERR_STAT.RX_ERR) || decide (128 ≤ s.get (.can c) CAN.ERR_STAT.TX_ERR)
    let was := s.canErr c == 1
    (s.put (.can c) CAN.ERR_STAT.STATE (b2n passive)).doIf (passive && !was) (fun s => s.fire (.can c) 1)

/-- The receive error counter after a frame received without error, as the standard gives: less one; above 127 it takes a value
of 119 to 127. -/
def State.canRxGood (s : State) (c : Fin 4) : State :=
  let r := s.get (.can c) CAN.ERR_STAT.RX_ERR
  let s := if 127 < r then
      let (w, s) := s.fresh
      s.put (.can c) CAN.ERR_STAT.RX_ERR (119 + w.toNat % 9)
    else s.put (.can c) CAN.ERR_STAT.RX_ERR (r - 1)
  s.canErrState c

/-- CAN_FRAME_RECEIVED (R382, R386, R388, R395, R398): a frame of another node ends without error; one in progress when CONFIG was
selected is still received. With FD_EN 0 an FD frame is a
protocol exception: it is not received, and the link integrates to bus idle anew. -/
def execCanFrameReceived (c : Fin 4) (f : CanFrame) (s : State) : Out :=
  let m := s.canMode c
  let late := m == 0 && s.cans[c].left.any (fun l => decide (s.timeC - f.ago < l.1))
  let om := if m = 0 then (s.cans[c].left.map Prod.snd).getD 0 else m
  let good := decide (f.dlc ≤ 15) && f.data.length == canLen f.fdf f.rtr f.dlc && decide (f.id < (if f.ide then 2 ^ 29 else 2 ^ 11))
  if s.runs (.can c) && (late || ((m == 1 || m == 2) && s.cans[c].onBus)) && s.slp c == 0 && good then
    let s := s.updCan c (fun x => { x with left := none })
    if f.fdf && !s.flag (.can c) CAN.CAN_MODE.FD_EN then .next (s.updCan c (fun x => { x with onBus := false }))
    else
      let cnt := s.timeC - f.ago
      let s := s.canFrame c f false cnt (s.timeAt cnt).toNat
      .next (if om = 1 then s.canRxGood c else s)
  else .next s

/-- CAN_RING_WRITE (R389, R390): the oldest held record of a running link goes to its slot, word 0 last. -/
def execCanRingWrite (c : Fin 4) (s : State) : Out :=
  match (if s.runs (.can c) then s.cans[c].held else []) with
  | [] => .next s
  | r :: rest =>
    let i := s.get (.can c) CAN.RX_STAT.WIDX
    let q := s.get (.can c) CAN.RX_STAT.SEQ
    let base := 0x70000 + 0x2000 * c.val + 32 * i
    let w0 : Word := BitVec.ofNat 36 (q <<< 16 ||| b2n s.cans[c].restart <<< 15 ||| r.w0)
    let l := (List.range r.rest.length).map (fun k => (base + 1 + k, r.rest.getD k 0)) ++ [(base, w0)]
    let s := s.updCan c (fun x => { x with held := rest, restart := false })
    let s := (s.tabletWrite .block (s.pageSecure (.can c)) l).2
    let s := (s.put (.can c) CAN.RX_STAT.WIDX ((i + 1) % 256)).put (.can c) CAN.RX_STAT.SEQ ((q + 1) % 65536)
    .next (s.fire (.can c) 9)

/-- A read of RD_DATA (R391). -/
def State.canRead (s : State) (c : Fin 4) : Word × State :=
  let a := s.get (.can c) CAN.RD_ADDR.ADDR
  let (w, s) := s.xferRead .block (s.pageSecure (.can c)) (0x70000 + 0x2000 * c.val + a)
  (w, s.put (.can c) CAN.RD_ADDR.ADDR ((a + 1) % 8192))

/-! ### Modes and errors (R386, R387) -/

/-- A write to CAN_MODE has committed; `old` is the word before it. FD_EN is not written outside CONFIG (CFG_BUSY); a change to
CONFIG waits for the end of a frame in progress, unless a later write selects another mode; a change away from it takes effect at once (R386). -/
def State.canModeWritten (s : State) (c : Fin 4) (old : Word) : State :=
  let om := fld old 1 0
  let s := if om ≠ 0 ∧ s.get (.can c) CAN.CAN_MODE.FD_EN ≠ fld old 2 2 then
      (s.put (.can c) CAN.CAN_MODE.FD_EN (fld old 2 2)).fire (.can c) 30
    else s
  let m := s.canMode c
  if m = om then s.updCan c (fun x => { x with toConfig := false })
  else if m = 0 then
    (if s.cans[c].active.isSome then (s.put (.can c) CAN.CAN_MODE.MODE om).updCan c (fun x => { x with toConfig := true })
     else s.updCan c (fun x => { x with
       onBus := false, stby := true, left := if x.onBus then some (s.timeC, om) else none }))
  else if om = 0 then
    s.updCan c (fun x => { x with onBus := false, toConfig := false, stby := s.slp c == 2, left := none })
  else s.updCan c (fun x => { x with toConfig := false })

/-- CAN_BUS_JOIN (R386): 11 recessive bits have passed outside CONFIG. -/
def execCanBusJoin (c : Fin 4) (s : State) : Out :=
  if s.runs (.can c) && s.canMode c != 0 && s.canErr c != 2 && decide (s.slp c ≤ 1) then
    .next (s.updCan c (fun x => { x with onBus := true }))
  else .next s

/-- CAN_RX_ERROR (R382): an error in a frame that the link receives, with its code. RX_ERR rises as the standard gives: by 1, or by 8
where the link sees a dominant bit right after its error flag, or a bit error in an active flag (PRESUMED, log 68). -/
def execCanRxError (c : Fin 4) (lec : Fin 8) (eight : Bool) (s : State) : Out :=
  if s.runs (.can c) && s.canMode c != 0 && s.cans[c].onBus && s.canErr c != 2 && decide (1 ≤ lec.val ∧ lec.val ≤ 6) then
    let s := s.put (.can c) CAN.ERR_STAT.LEC lec.val
    let s := s.put (.can c) CAN.ERR_STAT.RX_ERR (min 255 (s.get (.can c) CAN.ERR_STAT.RX_ERR + (if eight then 8 else 1)))
    .next (s.canErrState c)
  else .next s

/-- BUS_OFF (R387): the transmit error counter has reached 256; with BOFF_AUTO recovery starts at once. -/
def execBusOff (c : Fin 4) (s : State) : Out :=
  if s.runs (.can c) && s.get (.can c) CAN.ERR_STAT.TX_ERR == 256 && s.canErr c != 2 then
    let s := (s.put (.can c) CAN.ERR_STAT.STATE 2).fire (.can c) 0
    .next (s.updCan c (fun x => { x with onBus := false, recovering := s.flag (.can c) CAN.CAN_MODE.BOFF_AUTO }))
  else .next s

/-- CAN_CMD.RECOVER (R387). -/
def State.canRecover (s : State) (c : Fin 4) : State :=
  if s.canErr c = 2 ∧ ¬ s.flag (.can c) CAN.CAN_MODE.BOFF_AUTO then s.updCan c (fun x => { x with recovering := true }) else s

/-- CAN_RECOVERY_COMPLETE (R387): 128 occurrences of 11 recessive bits; both counters are 0. -/
def execCanRecoveryComplete (c : Fin 4) (s : State) : Out :=
  if s.runs (.can c) && s.canErr c == 2 && s.cans[c].recovering then
    let s := ((s.put (.can c) CAN.ERR_STAT.STATE 0).put (.can c) CAN.ERR_STAT.RX_ERR 0).put (.can c) CAN.ERR_STAT.TX_ERR 0
    .next (s.updCan c (fun x => { x with recovering := false, onBus := s.canMode c != 0 }))
  else .next s

/-! ### Sleep (R398-R401) -/

/-- Sleep is cancelled in GUARD (R399). -/
def State.canCancel (s : State) (c : Fin 4) : State := (s.put (.can c) CAN.SLP_STAT.SSTATE 0).fire (.can c) 25

/-- The link leaves ASLEEP for WAKING: CANk_STBY low (R400). -/
def State.canWaking (s : State) (c : Fin 4) : State :=
  (s.put (.can c) CAN.SLP_STAT.SSTATE 3).updCan c (fun x => { x with stby := s.canMode c == 0, onBus := false })

/-- SLP_CMD (R398, R400, R401). -/
def State.canSlpCmd (s : State) (c : Fin 4) (op : Nat) : State :=
  match op with
  | 1 =>
    if s.slp c = 0 ∧ s.flag (.can c) CAN.SLP_CFG.EN then
      s.updCan c (fun x => { x with sleepPend := true, spent := x.spent.set 8 0 })
    else s
  | 2 => if s.slp c = 2 then s.canWaking c else s
  | _ => s

/-- CAN_GUARD_END (R399): 64 nominal bit times have passed uncancelled. -/
def execCanGuardEnd (c : Fin 4) (s : State) : Out :=
  if s.slp c = 1 then
    let s := (s.put (.can c) CAN.SLP_STAT.SSTATE 2).updCan c (fun x => { x with stby := true, settled := false })
    .next (s.fire (.can c) 24)
  else .next s

/-- SLEEP_CANCEL (R399): an edge, or CANk_WAKE, within GUARD. -/
def execSleepCancel (c : Fin 4) (s : State) : Out := .next (if s.slp c = 1 then s.canCancel c else s)

/-- CAN_STANDBY_SETTLED (R399): STBY_US has passed in ASLEEP. -/
def execCanStandbySettled (c : Fin 4) (s : State) : Out :=
  .next (if s.slp c = 2 then s.updCan c (fun x => { x with settled := true }) else s)

/-- CAN_WAKE_INPUT (R399, R400): a dominant edge on CANk_RXD, or CANk_WAKE asserted. -/
def execCanWakeInput (c : Fin 4) (byRxd : Bool) (s : State) : Out :=
  match s.slp c with
  | 1 => .next (s.canCancel c)
  | 2 => .next (if byRxd && s.cans[c].settled then s else s.canWaking c)
  | _ => .next s

/-- CAN_WAKE_COMPLETE (R400): STBY_US and 11 recessive bits have passed in WAKING. -/
def execCanWakeComplete (c : Fin 4) (s : State) : Out :=
  if s.slp c = 3 then
    let s := (s.put (.can c) CAN.SLP_STAT.SSTATE 0).updCan c (fun x => { x with onBus := s.canMode c != 0 && s.canErr c != 2 })
    .next (s.fire (.can c) 26)
  else .next s

/-! ### Transmit buffers (R392-R394) -/

/-- SEND of a buffer (R392, R400, R401); a master's buffer 7 is as if PENDING (R396). -/
def State.canSend (s : State) (c : Fin 4) (b : Fin 8) : State :=
  let s := if s.slp c = 1 then s.canCancel c else if s.slp c = 2 then s.canWaking c else s
  let st := s.txState c b.val
  if st = 1 ∨ st = 2 ∨ (b = 7 ∧ s.get (.can c) CAN.TT_CFG.ROLE = 1) then s
  else if s.flag (.can c) (CAN.TXB_HDR.FDF.nth b.val) ∧ ¬ s.flag (.can c) CAN.CAN_MODE.FD_EN then
    (s.txPut c b.val 4).fire (.can c) 17
  else (s.txPut c b.val 1).updCan c (fun x => { x with spent := x.spent.set b.val 0, abort := x.abort.set b false })

/-- ABORT of a buffer (R394). -/
def State.canAbort (s : State) (c : Fin 4) (b : Fin 8) : State :=
  match s.txState c b.val with
  | 1 => s.txPut c b.val 5
  | 2 => s.updCan c (fun x => { x with abort := x.abort.set b true })
  | _ => s

/-- TX_CMD: sends, then aborts; no buffer is in both (R394). -/
def State.canTxCmd (s : State) (c : Fin 4) (send abort : Nat) : State :=
  let s := forEach ((List.finRange 8).filter (fun b => bit send b.val)) (fun b s => s.canSend c b) s
  forEach ((List.finRange 8).filter (fun b => bit abort b.val)) (fun b s => s.canAbort c b) s

/-- Whether the registers of a buffer take writes (R392, R396). -/
def State.txbFree (s : State) (c : Fin 4) (b : Nat) : Bool :=
  let st := s.txState c b
  st != 1 && st != 2 && !(b == 7 && s.get (.can c) CAN.TT_CFG.ROLE == 1)

/-- The frame of a transmit buffer; number 8 is the commit frame (R392, R398). -/
def State.txFrame (s : State) (c : Fin 4) (b : Nat) : CanFrame :=
  if b = 8 then
    { ide := s.flag (.can c) CAN.SLP_CFG.IDE, fdf := false, brs := false, esi := false, rtr := false,
      id := s.get (.can c) CAN.SLP_CFG.ID, dlc := 1, data := [0x5C], ago := 0 }
  else
    let h := s.word (.can c) (0x400 + 0x100 * b)
    let fdf := fld h 34 34 == 1
    let rtr := fld h 31 31 == 1
    let dlc := s.get (.can c) (CAN.TXB_CTL.DLC.nth b)
    let len := canLen fdf rtr dlc
    { ide := fld h 35 35 == 1, fdf := fdf, brs := fld h 33 33 == 1, esi := fdf && s.canErr c == 1, rtr := rtr,
      id := fld h 28 0, dlc := dlc,
      data := (List.range len).map (fun i => BitVec.ofNat 8 ((s.word (.can c) (0x440 + 0x100 * b + 8 * (i / 4))).toNat >>> (8 * (3 - i % 4)))),
      ago := 0 }

/-- The arbitration field as a number: the lower wins (base identifier; RTR or SRR; IDE; identifier extension; RTR). -/
def arbKey (f : CanFrame) : Nat :=
  if f.ide then (f.id / 2 ^ 18) <<< 21 ||| 1 <<< 20 ||| 1 <<< 19 ||| (f.id % 2 ^ 18) <<< 1 ||| b2n f.rtr
  else f.id <<< 21 ||| b2n f.rtr <<< 20

/-- The pending buffer whose frame wins arbitration, the lower number on a tie (R392, R398). -/
def State.txPick (s : State) (c : Fin 4) : Option Nat :=
  let l := (List.range 8).filter (fun b => s.txState c b == 1) ++ (if s.cans[c].sleepPend then [8] else [])
  l.foldl (fun best b => match best with
    | none => some b
    | some x => if arbKey (s.txFrame c b) < arbKey (s.txFrame c x) then some b else some x) none

/-- CAN_TX_START (R392, R394): the bus allows a frame; the buffer that wins becomes ACTIVE at its SOF. -/
def execCanTxStart (c : Fin 4) (s : State) : Out :=
  if s.runs (.can c) && s.canMode c == 1 && s.cans[c].onBus && s.canErr c != 2 && s.slp c == 0 && s.cans[c].active.isNone then
    match s.txPick c with
    | none => .next s
    | some b =>
      let s := s.updCan c (fun x => { x with active := some (b, s.timeC, s.nowT) })
      .next (if b < 8 then s.txPut c b 2 else s)
  else .next s

/-- Buffer 7 takes reference message j (R396). -/
def State.canLoadRef (s : State) (c : Fin 4) (j : Nat) : State :=
  let w := s.word (.can c) 0x98
  let b0 := j % (s.get (.can c) CAN.TT_CYC.CC_MAX + 1)
  let s := s.setWord (.can c) 0xB00 (BitVec.ofNat 36 (fld w 33 33 <<< 35 ||| fld w 28 0))
  let s := (s.setWord (.can c) 0xB08 1).setWord (.can c) 0xB40 (BitVec.ofNat 36 (b0 <<< 24))
  (s.txPut c 7 1).updCan c (fun x => { x with
    refNext := false
    spent := x.spent.set 7 0
    abort := x.abort.set 7 false })

/-- The end of an attempt of buffer `b` that did not succeed (R393, R394, R398). -/
def State.txLost (s : State) (c : Fin 4) (b : Nat) : State :=
  let n := s.cans[c].spent[b]!
  let more := decide (n < s.get (.can c) CAN.CAN_MODE.TX_RETRY)
  let s := s.updCan c (fun x => { x with spent := x.spent.set! b (n + 1) })
  if b = 8 then (if more then s else (s.updCan c (fun x => { x with sleepPend := false })).fire (.can c) 17)
  else if s.cans[c].abort[b]! then s.txPut c b 5
  else if more then s.txPut c b 1
  else (s.txPut c b 4).fire (.can c) 17

/-- The delay measured in an attempt that got as far as its FDF-to-res edge is published, with EN 1 and BRS 1 (R385). -/
def State.tdcMeasured (s : State) (c : Fin 4) (b : Nat) (tdcv : Option Nat) : State :=
  match tdcv with
  | some v => s.doIf (s.flag (.can c) CAN.TDC_CFG.EN && (s.txFrame c b).brs) (fun s => s.put (.can c) CAN.TDC_CFG.TDCV (min v 127))
  | none => s

/-- The end of an attempt of buffer `b` that succeeded (R388, R393, R395, R398). -/
def State.txSent (s : State) (c : Fin 4) (b cnt t : Nat) : State :=
  let f := s.txFrame c b
  let w := time72 t
  let s := if b < 8 then
      (((s.setWord (.can c) (0x410 + 0x100 * b) w.1).setWord (.can c) (0x418 + 0x100 * b) w.2).txPut c b 3).fire (.can c) 16
    else s.updCan c (fun x => { x with sleepPend := false })
  let s := s.put (.can c) CAN.ERR_STAT.TX_ERR (s.get (.can c) CAN.ERR_STAT.TX_ERR - 1)
  (s.canErrState c).canFrame c f true cnt t

/-- CAN_TX_ATTEMPT_END (R393): the active buffer's attempt ends; a change to CONFIG that waited takes effect (R386), and a
reference message that waited replaces the one that has ended (R396). In LISTEN the link drives recessive, so no attempt of its own
succeeds (R386). An error in it raises TX_ERR by 8, as the standard gives, but for its two exceptions (PRESUMED, log 68). -/
def execCanTxAttemptEnd (c : Fin 4) (res : TxResult) (tdcv : Option Nat) (s : State) : Out :=
  match s.cans[c].active with
  | none => .next s
  | some (b, cnt, t) =>
    let s := s.updCan c (fun x => { x with active := none })
    let s := match res with
      | .sent => if s.canMode c = 2 then s.txLost c b else (s.tdcMeasured c b tdcv).txSent c b cnt t
      | .arbLost => s.txLost c b
      | .error lec counts =>
        let s := s.doIf (decide (1 ≤ lec ∧ lec ≤ 6)) (fun s => s.put (.can c) CAN.ERR_STAT.LEC lec)
        let s := s.put (.can c) CAN.ERR_STAT.TX_ERR (min 256 (s.get (.can c) CAN.ERR_STAT.TX_ERR + (if counts then 8 else 0)))
        ((s.tdcMeasured c b tdcv).canErrState c).txLost c b
    let s := s.doIf (b == 7 && s.cans[c].refNext) (fun s => s.canLoadRef c (s.cans[c].refJ - 1))
    .next (if s.cans[c].toConfig then
      (s.put (.can c) CAN.CAN_MODE.MODE 0).updCan c (fun x => { x with toConfig := false, onBus := false, stby := true })
      else s)

/-! ### Reference messages (R395-R397) -/

/-- Whether a master's next reference message is due: the first at once, and message j once j cycles have passed since the first
that the link has sent (R396). -/
def State.refDue (s : State) (c : Fin 4) : Bool :=
  match s.cans[c].ref0 with
  | some m => decide (m + s.cans[c].refJ * s.get (.can c) CAN.TT_CYC.CYCLE ≤ s.timeC)
  | none => s.txState c 7 != 1 && s.txState c 7 != 2

/-- CAN_REF_INSTANT (R396): a master's next reference instant, number j; a request still pending is replaced, and one that is active
is aborted, to be replaced when its attempt ends by the message of the latest instant. -/
def execCanRefInstant (c : Fin 4) (s : State) : Out :=
  if s.runs (.can c) && s.get (.can c) CAN.TT_CFG.ROLE == 1 && s.refDue c then
    let j := if s.cans[c].ref0.isNone then 0 else s.cans[c].refJ
    let s := s.updCan c (fun x => { x with refJ := j + 1 })
    .next (if s.txState c 7 = 2 then s.updCan c (fun x => { x with abort := x.abort.set 7 true, refNext := true })
      else s.canLoadRef c j)
  else .next s

/-- A write to TT_CFG has committed; `old` is the word before it: a change of ROLE begins anew (R395-R397). -/
def State.canTtWritten (s : State) (c : Fin 4) (old : Word) : State :=
  let r := s.get (.can c) CAN.TT_CFG.ROLE
  if r = fld old 35 34 then s
  else (s.put (.can c) CAN.TT_STAT.TSTATE (min r 1)).updCan c (fun x => { x with ref0 := none, refJ := 0, refNext := false })

/-- TT_LOST (R397): 3 × CYCLE ticks without a valid reference message in SYNC. -/
def execTtLost (c : Fin 4) (s : State) : Out :=
  if s.get (.can c) CAN.TT_CFG.ROLE == 2 && s.get (.can c) CAN.TT_STAT.TSTATE == 2 &&
      decide (s.cans[c].refMark + 3 * s.get (.can c) CAN.TT_CYC.CYCLE ≤ s.timeC) then
    .next ((s.put (.can c) CAN.TT_STAT.TSTATE 3).fire (.can c) 28)
  else .next s

/-- TT_CTIME as it reads: the count since Ref_Mark, saturating (R395). -/
def State.ttCtime (s : State) (c : Fin 4) : Word :=
  if s.get (.can c) CAN.TT_STAT.TSTATE < 2 then 0 else wordU ((s.timeC - s.cans[c].refMark : Nat) : Int)

end Sys2Proof.Machine
end

