-- ==== Sys2Proof/Machine/Doorways.lean ====
section
/-! DEFINITION. The doorway sequencer on PE: the doorway table, commands, states, obstacles, metrics (R179-R186, R192, R193). -/

namespace Sys2Proof.Machine

/-- An entry breaks R180: reserved fields or values, an axis named twice or by another enabled entry, a role of the wrong type,
CLOSED absent. LOCK_TBL is ignored without a lock, EXT_TBL and RET_TBL without a step (R179). -/
def State.dwInvalid (s : State) (d : Fin 32) (e : List Word) : Bool :=
  let w := fun i => e.getD i 0
  let role := fun (x : Word) i => fld x (34 - 7 * i) (28 - 7 * i)
  let roles := [role (w 0) 0, role (w 0) 1, role (w 0) 2, role (w 0) 3]
  let named := roles.filter (fun v => decide (v < 48))
  let typ := fun v => match axisField v with
    | some n => s.axType n
    | none => 0
  let chan := fun i => fld (w 1) (31 - 8 * i) (24 - 8 * i)
  let others := (List.range 32).filter (fun j => j != d.val && (s.storeGet (0x3F800 + 16 * j)).msb)
  let taken := others.flatMap (fun j => let x := s.storeGet (0x3F800 + 16 * j)
    [role x 0, role x 1, role x 2, role x 3].filter (fun v => decide (v < 48)))
  let badTbl := fun (x : Word) => fld x 35 30 != 0 || decide (991 < fld x 29 20) || decide (991 < fld x 19 10) || decide (991 < fld x 9 0)
  let has := fun i => roles.getD i 127 != 127
  fld (w 0) 6 0 != 0 || roles.any (fun v => decide (48 ≤ v) && decide (v < 127)) || fld (w 1) 35 32 != 0 ||
  [0, 1, 2, 3].any (fun i => !bit (chan i) 7 && chan i != 0) || fld (w 2) 35 16 != 0 || badTbl (w 3) ||
  fld (w 4) 35 30 != 0 || (has 2 && decide (991 < fld (w 4) 29 20)) ||
  (has 3 && (decide (991 < fld (w 4) 19 10) || decide (991 < fld (w 4) 9 0))) || decide ((w 5).toInt ≤ 0) || fld (w 6) 19 4 == 0 ||
  [7, 8, 9, 10, 11, 14, 15].any (fun i => w i != 0) || fld (w 12) 11 0 != 0 || fld (w 13) 35 22 != 0 ||
  fld (w 13) 11 10 != 0 || decide (1000 < fld (w 13) 21 12) || decide (1000 < fld (w 13) 9 0) ||
  !named.Nodup || ((w 0).msb && named.any (fun v => taken.contains v)) ||
  roles.getD 0 127 == 127 || [roles.getD 0 127, roles.getD 1 127].any (fun v => decide (v < 48) && typ v != 1 && typ v != 3) ||
  [roles.getD 2 127, roles.getD 3 127].any (fun v => decide (v < 48) && typ v != 2) || !bit (chan 0) 7

/-- The words of a doorway's entry in the parameter region (R179). -/
def State.dwRead (s : State) (d : Fin 32) : List Word := (List.range 16).map (fun i => s.storeGet (0x3F800 + 16 * d.val + i))

/-- Refuse a doorway command (R181, R182). -/
def State.dwRefuse (s : State) (d : Fin 32) (why : Nat) : State :=
  (s.put .pe (PE.DW_STAT.REFUSE.nth d) why).fire .pe 18

/-- Set the alarm; DW_ALARM fires where it becomes nonzero (R185). -/
def State.dwAlarm (s : State) (d : Fin 32) (a : Nat) : State :=
  let was := s.get .pe (PE.DW_STAT.ALARM.nth d)
  (s.put .pe (PE.DW_STAT.ALARM.nth d) a).doIf (was == 0 && a != 0) (fun s => s.fire .pe 17)

/-- An entry has been read out of service: an invalid one keeps the doorway there with REFUSE 5 (R180). -/
def State.dwCheck (s : State) (d : Fin 32) : State := s.doIf (s.dwInvalid d s.doors[d].entry) (fun s => s.dwRefuse d 5)

/-- Take the words of a staged entry that may take effect: words 0 to 2 only out of service, where the entry is checked (R180). -/
def State.dwTakeStaged (s : State) (d : Fin 32) (all : Bool) : State :=
  match s.doors[d].staged with
  | none => s
  | some e =>
    if all then (s.updDoor d (fun x => { x with entry := e, staged := none })).dwCheck d
    else s.updDoor d (fun x => { x with entry := x.entry.take 3 ++ e.drop 3 })

/-- Enter a doorway state; DW_STATE fires on a change (R186). -/
def State.dwEnter (s : State) (d : Fin 32) (st : Nat) : State :=
  let was := s.dwState d
  let s := s.put .pe (PE.DW_STAT.STATE.nth d) st
  let s := s.doIf (st == 0) (fun s => s.dwTakeStaged d true)
  s.doIf (was != st) (fun s => s.fire .pe 16)

/-- An axis has come to the end of its commands: no move, stop, gear or waiting start is left. -/
def State.axDone (s : State) (n : Fin 48) : Bool :=
  let a := s.axes[n]
  s.get (.ax n) AX.PROF_STAT.PSTATE == 0 && a.cmds.isEmpty && !a.mot.startWait && a.mot.pstate == 0 && !a.doneDue &&
    !s.geared n

/-- An axis moves: a move, stop or gear is in progress. -/
def State.axMoves (s : State) (n : Fin 48) : Bool := s.axState n == 2 || !s.axDone n

/-- RAMP_STOP to every moving axis of a list, of a doorway whose moves end with it. -/
def State.stopAll (s : State) (d : Fin 32) (l : List (Fin 48)) : State :=
  forEach (l.filter (fun n => s.axMoves n)) (fun n s => s.moveWrite n 4 0) (s.updDoor d (fun x => { x with legs := [] }))

/-! ### The sequencer's own tables (R184) -/

/-- The segments of a table as PE reads them. -/
def State.tableSegs (s : State) (t : Nat) : List QSeg :=
  let e := s.storeGet (0x3FC00 + t)
  let l : List QSeg := (List.range (fld e 29 18)).map (fun i =>
    let a := fld e 17 0 + 4 * i
    ⟨s.storeGet a, s.storeGet (a + 1), s.storeGet (a + 2), s.storeGet (a + 3), t, i⟩)
  l.take (l.findIdx QSeg.last + 1)

/-- Where a table ends, and its cruise velocity: the largest end velocity, in size. -/
def State.tableEnd (s : State) (t : Nat) : Int := ((s.tableSegs t).getLast?.map QSeg.endPos).getD 0
def State.tableCruise (s : State) (t : Nat) : Nat := (s.tableSegs t).foldl (fun m g => max m g.endVel.natAbs) 0

/-- A move of the sequencer's as its parts (R184): the duration in ms, and the place and the velocity at its end. From `x0` with
velocity `u` toward `x1`, it changes its speed at the rate `a` to the cruise speed `c`, cruises, and comes to rest at `x1` at the
rate `a`; where the way is too short for that it brakes from the highest speed it reaches, or from the present one. -/
def movePlan (x0 u x1 a c : Rat) : List (Rat × Rat × Rat) :=
  let dir : Rat := if x1 < x0 then -1 else 1
  let d := absQ (x1 - x0)
  let v := dir * u
  let way := fun (p q : Rat) => absQ (q ^ 2 - p ^ 2) / (2 * a)
  let toC := if v ≤ c then (c ^ 2 - v ^ 2) / (2 * a) else way v c
  let top := sqrtQ (max 0 (a * d + v ^ 2 / 2))
  if toC + way 0 c ≤ d then
    [(absQ (c - v) / a, x0 + dir * toC, dir * c), ((d - toC - way 0 c) / c, x1 - dir * way 0 c, dir * c), (c / a, x1, 0)]
  else if v ≤ top then [((top - v) / a, x1 - dir * way 0 top, dir * top), (top / a, x1, 0)]
  else [(2 * d / v, x1, 0)]

/-- A part from place `p` and velocity `v` on as `k` parts of one length, its speed changing at one rate. -/
def splitPart (p v : Rat) (x : Rat × Rat × Rat) (k : Nat) : List (Rat × Rat × Rat) :=
  (List.range k).map (fun i =>
    let f : Rat := ((i + 1 : Nat) : Rat) / (k : Rat)
    if i + 1 = k then (x.1 / k, x.2.1, x.2.2)
    else (x.1 / k, p + x.1 * f * (v + (x.2.2 - v) * f / 2), v + (x.2.2 - v) * f))

/-- The parts of a move from place `p` and velocity `v`, each split where it is longer than a segment's DUR can say; a table has at most
8 segments (R95, R179). -/
def splitParts (p v : Rat) (most : Nat) : List (Rat × Rat × Rat) → List (Rat × Rat × Rat)
  | [] => []
  | x :: l =>
    let k := max 1 (min (most - 2 * l.length) ((x.1 * 300000) / (2 ^ 32 - 1 : Nat)).ceil.toNat)
    splitPart p v x k ++ splitParts x.2.1 x.2.2 (most - k) l

/-- The segments of a move: parts that take no time fall away but the last (R95, R184). -/
def planSegs (l : List (Rat × Rat × Rat)) : List (Nat × Int × Int) :=
  let ticks := fun (x : Rat × Rat × Rat) => clamp 0 (2 ^ 32 - 1) (roundQ (x.1 * 300000))
  let segs := l.map (fun x => ((max 1 (ticks x)).toNat, satS 36 (roundQ (x.2.1 * 4096)), satS 36 (roundQ (x.2.2 * 65536))))
  (segs.dropLast.zip (l.map ticks)).filterMap (fun x => if x.2 ≤ 0 then none else some x.1) ++ segs.getLast?.toList

/-- PE writes table 992 + d from the present setpoint of an axis: its segments and the directory word (R179, R184). The cruise
velocity of a table whose segments all end at rest is free. -/
def State.writeOwn (s : State) (d : Fin 32) (n : Fin 48) : State :=
  let base := 0x3DC00 + 0x20 * d.val
  let (like, target) := s.doors[d].ownMove
  let x := (s.setp n).pva
  let c : Nat := if s.tableCruise like = 0 then (Config.freeInt 6 [like]).natAbs + 1 else s.tableCruise like
  let a : Rat := (s.getI (.ax n) AX.STOP_DEC.DEC : Rat) / 4194304
  let segs := planSegs (splitParts x.p x.v 8 (movePlan x.p x.v ((target : Rat) / 4096) a ((c : Rat) / 65536)))
  let s := forEach segs.zipIdx (fun x s =>
    let w := base + 4 * x.2
    let s := (s.storePut w (BitVec.ofNat 36 x.1.1)).storePut (w + 1) (wordS x.1.2.1)
    (s.storePut (w + 2) (wordS x.1.2.2)).storePut (w + 3) (if x.2 + 1 = segs.length then 1 else 0)) s
  s.storePut (0x3FFE0 + d.val) (BitVec.ofNat 36 (segs.length <<< 18 ||| base))

/-! ### The moves of a doorway (R182) -/

/-- The sequencer sends the moves that wait (R182): STARTs together, once every axis they go to has come to the end of its
commands; a move on the sequencer's own table as REPLACE to an axis that runs a move, and as START to one at the end of its
commands. A REPLACE that found the move ended is sent again. PE writes its table before each that names it, from the setpoint that
the first axis it goes to then has (R184). -/
def State.sendLegs (s : State) (d : Fin 32) : State :=
  let s := s.updDoor d (fun x => { x with
    legs := x.legs.map (fun l => if l.st = 2 ∧ s.axDone l.axis = true then { l with st := 0 } else l) })
  let legs := s.doors[d].legs
  let starts := (legs.filter (fun l => !l.own && l.st == 0)).all (fun l => s.axDone l.axis)
  let how := fun (l : Leg) =>
    if l.st ≠ 0 then l.st
    else if !l.own then (if starts then 1 else 0)
    else if s.axDone l.axis then 1
    else if s.get (.ax l.axis) AX.PROF_STAT.PSTATE == 1 then 2
    else 0
  let s := s.updDoor d (fun x => { x with legs := x.legs.map (fun l => { l with st := how l }) })
  let s := match legs.find? (fun l => l.own && l.st == 0 && how l != 0) with
    | some l => s.writeOwn d l.axis
    | none => s
  forEach legs (fun l s => s.doIf (l.st == 0 && how l != 0) (fun s => s.moveWrite l.axis (if how l = 2 then 3 else 1) l.table)) s

/-- The sequencer gives axes a move each. -/
def State.giveMoves (s : State) (d : Fin 32) (l : List (Fin 48 × Nat)) (own : Bool) : State :=
  (s.updDoor d (fun x => { x with legs := l.map (fun m => { axis := m.1, table := m.2, own := own, st := 0 }) })).sendLegs d

/-- Run the sequencer's table on the leaves (R182, R184). -/
def State.runOwn (s : State) (d : Fin 32) (like : Nat) (target : Int) : State :=
  (s.updDoor d (fun x => { x with ownMove := (like, target) })).giveMoves d ((s.dwLeaves d).map (fun n => (n, 992 + d.val))) true

/-! Tables of an entry. -/
def State.openTbl (s : State) (d : Fin 32) : Nat := fld (s.dwWord d 3) 29 20
def State.closeTbl (s : State) (d : Fin 32) : Nat := fld (s.dwWord d 3) 19 10
def State.unlockTbl (s : State) (d : Fin 32) : Nat := fld (s.dwWord d 3) 9 0
def State.lockTbl (s : State) (d : Fin 32) : Nat := fld (s.dwWord d 4) 29 20
def State.extTbl (s : State) (d : Fin 32) : Nat := fld (s.dwWord d 4) 19 10
def State.retTbl (s : State) (d : Fin 32) : Nat := fld (s.dwWord d 4) 9 0

/-- Run the sequencer's table to full open. -/
def State.ownOpen (s : State) (d : Fin 32) : State := s.runOwn d (s.openTbl d) (s.tableEnd (s.openTbl d))

/-- Run the sequencer's table to closed. -/
def State.ownClose (s : State) (d : Fin 32) : State := s.runOwn d (s.closeTbl d) (s.tableEnd (s.closeTbl d))

/-- Entry to CLOSING: the closing time starts (R192). -/
def State.enterClosing (s : State) (d : Fin 32) : State := (s.updDoor d (fun x => { x with closeAt := s.now, closedAt := if s.dwClosed d then some s.now else none })).dwEnter d 6

/-- STARTs on the lock and the step. -/
def State.startLocks (s : State) (d : Fin 32) (lockT stepT : Nat) : State :=
  let move := fun (i t : Nat) => (s.dwRole d i).toList.map (fun n => (n, t))
  s.giveMoves d (move 2 lockT ++ move 3 stepT) false

/-- STARTs on the leaves. -/
def State.startLeaves (s : State) (d : Fin 32) (t : Nat) : State := s.giveMoves d ((s.dwLeaves d).map (fun n => (n, t))) false

/-- Enter UNLOCKING (R182). -/
def State.enterUnlocking (s : State) (d : Fin 32) (how : Nat) : State :=
  ((s.startLocks d (s.unlockTbl d) (s.extTbl d)).updDoor d (fun x => { x with how := how, dis := false, lost := false })).dwEnter d 3

/-- Enter OPENING: OPEN_TBL, gearing to the virtual master, or the sequencer's table (R182). -/
def State.enterOpening (s : State) (d : Fin 32) (how : Nat) : State :=
  let s := s.updDoor d (fun x => { x with how := how, dis := false, lost := false, legs := [] })
  let s :=
    if how = 0 then s.startLeaves d (s.openTbl d)
    else if how = 1 then
      forEach (s.dwLeaves d) (fun n s =>
        let s := s.doIf (!s.geared n) (fun s =>
          (s.put (.ax n) AX.GEAR_CFG.MSRC 3).put (.ax n) AX.GEAR_CFG.MIDX (fld (s.dwWord d 6) 2 0))
        s.queueCmd n .gear 1 0) s
    else s.ownOpen d
  s.dwEnter d 4

/-! ### Metrics (R192, R193) -/

/-- A word of a doorway's metrics. -/
def State.metric (s : State) (d : Fin 32) (i : Nat) : Word := s.storeGet (0x3FA00 + 16 * d.val + i)
def State.putMetric (s : State) (d : Fin 32) (i : Nat) (w : Word) : State := s.storePut (0x3FA00 + 16 * d.val + i) w

/-- An average: x + (sample - x)/64. -/
def avg64 (x sample : Int) : Int := x + divRound (sample - x) 64

/-- Saturating add to an unsigned word. -/
def addU (w : Word) (n : Nat) : Word := wordU ((w.toNat + n : Nat) : Int)

/-- The cost of one metric (R193); with BASE 0 the manual states none. -/
def driftCost (what : Nat) (avg base : Int) (l : Nat) : Rat :=
  if l = 0 then 0
  else
    let d : Rat := if base = 0 then (Config.freeInt what [avg] : Rat) else 100 * ((avg : Rat) / base - 1)
    let d := if d < 0 then 0 else d
    min 333 (333 * d / l)

/-- One metric takes a sample: last and average words, and the baseline at its 256th sample. -/
def State.takeSample (s : State) (d : Fin 32) (base avg n : Nat) (sum x : Int) (signed : Bool) : State :=
  let old : Int := if signed then (s.metric d avg).toInt else (s.metric d avg).toNat
  let w := if signed then wordS else wordU
  let s := s.putMetric d avg (w (avg64 old x))
  s.doIf (n + 1 == 256) (fun s => s.putMetric d base (w (divRound (sum + x) 256)))

/-- The metrics and the score on entry to CLOSED_LOCKED (R192, R193). -/
def State.metrics (s : State) (d : Fin 32) : State :=
  let x := s.doors[d]
  let s := forEach (List.finRange 4) (fun i s => s.doIf (x.moves[i] != 0) (fun s =>
    s.putMetric d i.val (addU (s.metric d i.val) x.moves[i]))) s
  let s := s.putMetric d 4 (addU (s.metric d 4) x.obst)
  let s := match x.tcl with
    | some t =>
      let s := (s.putMetric d 5 (wordU (t : Int))).takeSample d 6 7 x.nT x.sumT t false
      s.updDoor d (fun y => { y with nT := min 256 (x.nT + 1), sumT := x.sumT + t })
    | none => s
  let leaf := s.dwRole d 0
  let s := match leaf with
    | some n =>
      let f := divRound (((List.range 64).map (fun b => (s.storeGet (recordBase n + 64 + b)).toInt)).foldl (· + ·) 0) 64
      let s := s.takeSample d 8 9 x.nF x.sumF f true
      let s := s.updDoor d (fun y => { y with nF := min 256 (x.nF + 1), sumF := x.sumF + f })
      if (s.storeGet (recordBase n + 2)).msb then
        let m : Int := (s.storeGet (recordBase n)).toNat
        let s := s.takeSample d 10 11 x.nM x.sumM m false
        s.updDoor d (fun y => { y with nM := min 256 (x.nM + 1), sumM := x.sumM + m })
      else s
    | none => s
  let y := s.doors[d]
  let w12 := s.dwWord d 12
  let all := y.nT == 256 && y.nF == 256 && y.nM == 256
  let cost := driftCost 2 (s.metric d 9).toInt (s.metric d 8).toInt (fld w12 35 28) +
    driftCost 3 (s.metric d 11).toNat (s.metric d 10).toNat (fld w12 27 20) +
    driftCost 4 (s.metric d 7).toNat (s.metric d 6).toNat (fld w12 19 12)
  let score : Nat := if all then ((1000 : Rat) - cost).floor.toNat else 1000
  let s := s.putMetric d 12 (BitVec.ofNat 36 score)
  let warn := decide (score ≤ fld (s.dwWord d 13) 21 12)
  let s := s.doIf (warn && !y.warned) (fun s => s.fire .pe 19)
  let s := s.updDoor d (fun y => { y with warned := warn, tcl := none, obst := 0, moves := Vector.replicate 4 0 })
  if score ≤ fld (s.dwWord d 13) 9 0 then (s.fire .pe 17).dwEnter d 0 else s

/-- Entry to CLOSED_LOCKED (R185, R192). -/
def State.enterLocked (s : State) (d : Fin 32) : State :=
  ((s.put .pe (PE.DW_STAT.NOBS.nth d) 0).dwEnter d 2).metrics d

/-- The baselines restart, and the score is 1,000 until they are formed (R192). -/
def State.restartBase (s : State) (d : Fin 32) : State :=
  (s.putMetric d 12 1000).updDoor d (fun x => { x with
    nT := 0, sumT := 0, nF := 0, sumF := 0, nM := 0, sumM := 0
    warned := x.warned && decide (1000 ≤ fld (s.dwWord d 13) 21 12) })

/-! ### Commands (R181, R182) -/

/-- A doorway command is written: it replaces the pending one, except a pending STOP (R181). -/
def State.dwCommand (s : State) (d : Fin 32) (op : Nat) (sync : Bool) : State :=
  if op = 0 then s
  else match s.doors[d].pend with
    | some (3, _) => s.dwRefuse d 3
    | _ => s.updDoor d (fun x => { x with pend := some (op, sync) })

/-- A command is accepted: staged words of the entry beside words 0 to 2 take effect (R180). -/
def State.dwAccept (s : State) (d : Fin 32) : State := s.dwTakeStaged d false

/-- Read the entry again, out of service (R180). -/
def State.dwReload (s : State) (d : Fin 32) : State :=
  s.updDoor d (fun x => { x with entry := s.dwRead d, staged := none })

/-- DISENGAGE to the leaves that are geared. -/
def State.disengageLeaves (s : State) (d : Fin 32) : State :=
  forEach ((s.dwLeaves d).filter (fun n => s.get (.ax n) AX.GEAR_STAT.GSTATE == 1)) (fun n s => s.queueCmd n .gear 2 0) s

/-- Take up one doorway command (R182); a CLOSE lets go of leaves that open geared, which then take up the closing. -/
def State.dwTake (s : State) (d : Fin 32) (op : Nat) (sync : Bool) : State :=
  let st := s.dwState d
  let nobs0 := fun (s : State) => s.put .pe (PE.DW_STAT.NOBS.nth d) 0
  let unalarm := fun (s : State) => s.put .pe (PE.DW_STAT.ALARM.nth d) 0
  let ok := fun (l : List Nat) => l.contains st
  match op with
  | 1 =>
    if !ok [2, 4, 5, 7, 6, 8, 9, 10] then s.dwRefuse d 1
    else if sync && fld ((s.dwAccept d).dwWord d 6) 3 3 == 0 then s.dwRefuse d 4
    else if ok [4, 5] then s.dwAccept d
    else
      let s := unalarm (nobs0 (s.dwAccept d))
      if st = 2 ∨ st = 7 then s.enterUnlocking d (if sync then 1 else 0)
      else if (s.dwChan d 1).1 ∧ (s.dwChan d 1).2 then s.enterUnlocking d 2
      else s.enterOpening d 2
  | 2 =>
    if ok [6, 7, 2, 8, 9] then s.dwAccept d
    else if !ok [5, 10, 4] then s.dwRefuse d 1
    else
      let s := unalarm (s.dwAccept d)
      if st = 5 then (s.startLeaves d (s.closeTbl d)).enterClosing d
      else ((s.disengageLeaves d).ownClose d).enterClosing d
  | 3 => if ok [1, 3, 4, 5, 6, 7, 8, 9] then (((s.dwAccept d).stopAll d (s.dwAxes d)).dwEnter d 10) else s.dwRefuse d 1
  | 4 =>
    if st ≠ 0 then s.dwRefuse d 1
    else
      let s := s.dwReload d
      if !(s.dwWord d 0).msb then s.dwRefuse d 2
      else if s.dwInvalid d s.doors[d].entry then s.dwRefuse d 5
      else (s.restartBase d).dwEnter d 1
  | 5 => if ok [2, 5, 10, 11, 12] then ((s.dwAccept d).updDoor d (fun x => { x with legs := [] })).dwEnter d 0 else s.dwRefuse d 1
  | 6 =>
    if st = 11 then (unalarm (s.dwAccept d)).dwEnter d 5
    else if st = 12 then
      (unalarm (forEach (s.dwAxes d) (fun n s => s.axisAck n) (s.dwAccept d))).dwEnter d 1
    else s.dwRefuse d 1
  | 7 =>
    if st ≠ 0 then s.dwRefuse d 1
    else
      (s.dwReload d).dwCheck d
  | 8 => (s.dwAccept d).restartBase d
  | _ => s

/-- Whether the sequencer works: PE runs and a base image has been applied (R432). -/
def State.sequencerOn (s : State) : Bool := s.peLive && s.flag .ovl OVL.BASE_STAT.DONE

/-- SEQUENCER_TAKEUP: pending commands are taken up in doorway order (R181). -/
def execSequencerTakeup (s : State) : Out :=
  .next (if s.sequencerOn then
    forEach (List.finRange 32) (fun d s =>
      match s.doors[d].pend with
      | some (op, sync) => (s.updDoor d (fun x => { x with pend := none })).dwTake d op sync
      | none => s) s
    else s)

/-! ### Changes of state (R182-R185) -/

/-- The engines of a doorway's axes have been re-admitted (R73, R182). -/
def State.dwAdmitted (s : State) (d : Fin 32) : Bool := (s.dwAxes d).all (fun n => !s.engs[engOf (aeOf n)].failed)

/-- The leaves are geared and stand at the master's end: the master has moved since the ENGAGE and stands (R182). The spec does not say
how PE knows that end; a pause of the master counts as it (DESIGN CHOICE, log 56). -/
def State.gearedEnd (s : State) (d : Fin 32) : Bool :=
  (s.dwLeaves d).all (fun n =>
    s.get (.ax n) AX.GEAR_STAT.GSTATE == 1 && s.getI (.ax n) AX.SETP_VEL.VALUE == 0 && s.axes[n].mVel == 0 &&
      (match s.axes[n].gear with
       | some g => g.mEng != s.axes[n].mNow
       | none => false))

/-- OPENING (R182, R183): moves run to their end; geared leaves disengage at the master's end, or complete the opening on the
sequencer's table where one has lost its master. -/
def State.openingStep (s : State) (d : Fin 32) : State :=
  let x := s.doors[d]
  if x.how ≠ 1 then (if x.legs.isEmpty then s.dwEnter d 5 else s)
  else if x.lost then ((s.disengageLeaves d).ownOpen d).updDoor d (fun x => { x with how := 2 })
  else if x.dis then
    (if (s.dwLeaves d).all (fun n => s.get (.ax n) AX.GEAR_STAT.GSTATE != 1) then s.dwEnter d 5 else s)
  else if s.gearedEnd d then (s.disengageLeaves d).updDoor d (fun x => { x with dis := true })
  else s

/-- DOORWAY_STATE_CHANGE: where the state's condition holds the sequencer enters the next state; moves that wait are sent (R182,
R183). -/
def execDoorwayStateChange (d : Fin 32) (s : State) : Out :=
  if !s.sequencerOn then .next s
  else
    let s := s.sendLegs d
    let done := s.doors[d].legs.isEmpty
    match s.dwState d with
    | 1 =>
      if (s.dwAxes d).all (fun n => s.axState n == 1) && s.dwAdmitted d then
        if s.dwClosed d && s.dwLocked d then .next (s.enterLocked d)
        else .next ((s.ownClose d).enterClosing d)
      else .next s
    | 3 => .next (if done && s.dwUnlocked d then s.enterOpening d s.doors[d].how else s)
    | 4 => .next (s.openingStep d)
    | 6 =>
      if !done then .next s
      else if s.dwClosed d then
        let t := (s.doors[d].closedAt.getD s.now - s.doors[d].closeAt) / 300000
        let s := s.updDoor d (fun x => { x with tcl := some t })
        .next ((s.startLocks d (s.lockTbl d) (s.retTbl d)).dwEnter d 7)
      else .next (s.updDoor d (fun x => { x with obs := true }))
    | 7 => .next (if done && s.dwLocked d then s.enterLocked d else s)
    | 8 => .next (if done then s.dwEnter d 9 else s)
    | _ => .next s

/-- LOCK_CONFIRM_TIMEOUT: LOCKED has not been confirmed within LOCK_TO_MS (R182). -/
def execLockConfirmTimeout (d : Fin 32) (s : State) : Out :=
  .next (if s.sequencerOn && s.dwState d == 7 then (s.dwAlarm d 2).dwEnter d 12 else s)

/-- OBSTACLE: OBS_T entries have been over the threshold; the event fires and the sequencer is told (R153). -/
def execObstacle (n : Fin 48) (s : State) : Out :=
  if s.axes[n].sup.obsDue then
    let s := s.updAx n (fun a => { a with sup := { a.sup with obsDue := false } })
    let ds := (List.finRange 32).filter (fun d => (s.dwLeaves d).contains n)
    .next (forEach ds (fun d s => s.updDoor d (fun x => { x with obs := true })) (s.fire (.ax n) 26))
  else .next s

/-- OBSTACLE_REVERSAL: the sequencer answers an obstacle, or a closing that ended with CLOSED off (R184, R185). -/
def execObstacleReversal (d : Fin 32) (s : State) : Out :=
  if !s.sequencerOn || !s.doors[d].obs then .next s
  else
    let s := s.updDoor d (fun x => { x with obs := false })
    match s.dwState d with
    | 6 =>
      let retry := fld (s.dwWord d 6) 35 33
      let nobs := s.get .pe (PE.DW_STAT.NOBS.nth d) + 1
      let s := (s.put .pe (PE.DW_STAT.NOBS.nth d) (min nobs (retry + 1))).updDoor d (fun x => { x with obst := x.obst + 1 })
      if nobs ≤ retry then
        let full := s.tableEnd (s.openTbl d)
        let here := match s.dwRole d 0 with
          | some n => (s.setp n).p
          | none => 0
        let rev := (s.dwWord d 5).toInt
        let target := if here ≤ full then min full (here + rev) else max full (here - rev)
        .next ((s.runOwn d (s.openTbl d) target).dwEnter d 8)
      else .next (((s.ownOpen d).dwEnter d 11).dwAlarm d 1)
    | 4 =>
      .next (((s.stopAll d (s.dwAxes d)).dwEnter d 10).dwAlarm d 4)
    | _ => .next s

/-- REOPEN_DWELL_END: DWELL_MS after the reversal the doorway closes from where it stands (R185). -/
def execReopenDwellEnd (d : Fin 32) (s : State) : Out :=
  .next (if s.sequencerOn && s.dwState d == 9 then (s.ownClose d).enterClosing d else s)

/-- DOORWAY_AXIS_FAULT: an axis of the doorway has entered AX_STATE 3 or 4 (R183). -/
def execDoorwayAxisFault (d : Fin 32) (s : State) : Out :=
  let bad := fun n => s.axState n == 3 || s.axState n == 4
  let st := s.dwState d
  .next (if s.sequencerOn && st != 0 && st != 12 && (s.dwAxes d).any bad then
    ((s.stopAll d ((s.dwAxes d).filter (fun n => !bad n))).dwEnter d 12).dwAlarm d 3
  else s)

/-- An overlay commit has named a word of a doorway's entry: PE reads it again (R180). -/
def State.dwNamed (s : State) (d : Fin 32) : State :=
  if s.doors[d].entry.isEmpty then s
  else
    let s := s.updDoor d (fun x => { x with staged := some (s.dwRead d) })
    s.doIf (s.dwState d == 0) (fun s => s.dwTakeStaged d true)

end Sys2Proof.Machine
end

