-- ==== Sys2Proof/Machine/Ethernet.lean ====
section
/-! DEFINITION. Platform time corrections (R403-R409) and the Ethernet ports (R410-R417). -/

namespace Sys2Proof.Machine

/-! ### Corrections -/

/-- A correction that was committed in an earlier tick comes into force (R405). -/
def State.corApply (s : State) : State :=
  match s.cor with
  | none => s
  | some (t, c, rate) =>
    let w := time72 t
    let s := { s with cors := s.cors ++ [(c, s.tRef, s.cRef, s.getI .time TIME.REF_RATE.RATE)] }
    let s := (s.setWord .time 0x60 w.1).setWord .time 0x68 w.2
    let s := (s.setWord .time 0x70 (BitVec.ofNat 36 (c % 2 ^ 36))).setWord .time 0x78 (BitVec.ofNat 36 (c / 2 ^ 36 % 2 ^ 28))
    { s.setWord .time 0x80 rate with cor := none }

/-- COR_CMD (R405-R407): the new correction applies from the next tick; one that R406 bars changes nothing. -/
def State.corCommand (s : State) (op : Nat) : State :=
  if op = 0 ∨ 4 < op then s
  else
    let c := s.timeC
    let told := s.timeAt c
    let step := (s.word .time 0x88).toInt
    let tref : Int := match op with
      | 1 => ((s.word .time 0x90).toNat * 64000000000 + (s.word .time 0x88).toNat : Nat)
      | 2 => told + step
      | 3 => told
      | _ => told + step
    let rate := if op = 3 ∨ op = 4 then s.word .time 0x98 else s.word .time 0x80
    let next : Int := roundQ ((tref : Rat) + (640 / 3) * (1 + (rate.toInt : Rat) / 2 ^ 40))
    if next < 0 ∨ tref < 0 ∨ (2 : Int) ^ 36 * 64000000000 ≤ next then s.fire .time 2
    else
      let s := { s with cor := some (tref.toNat, c, rate), lastCor := c }
      (s.put .time TIME.TIME_STAT.STATE 1).fire .time 1

/-- HOLDOVER (R407): HOLD_MS has passed in TRACK since the last commit. -/
def execHoldover (s : State) : Out :=
  if s.get .time TIME.TIME_STAT.STATE = 1 ∧ s.lastCor + 300000 * s.get .time TIME.HOLD_CFG.HOLD_MS ≤ s.timeC then
    .next ((s.put .time TIME.TIME_STAT.STATE 2).fire .time 0) else .next s

/-- TIME_STAT as it reads: SINCE_MS is live (R407). -/
def State.timeStat (s : State) : Word :=
  let st := s.get .time TIME.TIME_STAT.STATE
  let ms := if st = 0 then 0 else min ((s.timeC - s.lastCor) / 300000) (2 ^ 32 - 1)
  BitVec.ofNat 36 (st <<< 34 ||| ms)

/-- The snapshot a requester uses (R408). -/
def snapIx : Req → Option (Fin 4)
  | .bar0 => some 0 | .bar2 => some 1 | .spi => some 2 | .pe => some 3
  | .ae _ | .si | .dma | .jtag | .block => none

/-- A read of NOW0, NOW1, RAW0 or RAW1 (R408): NOW0 takes the requester's snapshot. A requester without one reads live. -/
def State.timeRead (s : State) (r : Req) (off : Nat) : Word × State :=
  let live := (s.nowT, s.timeC)
  let s := match off, snapIx r with
    | 0x40, some i => { s with snaps := s.snaps.set i live }
    | _, _ => s
  let (t, c) := match snapIx r with
    | some i => s.snaps[i]
    | none => live
  let w := match off with
    | 0x40 => (time72 t).1
    | 0x48 => (time72 t).2
    | 0x50 => BitVec.ofNat 36 (c % 2 ^ 36)
    | _ => BitVec.ofNat 36 (c / 2 ^ 36 % 2 ^ 28)
  (w, s)

/-! ### Frames -/

/-- Change a port's working state. -/
def State.updEth (s : State) (p : Fin 2) (f : EthPart → EthPart) : State := { s with eths := s.eths.set p (f s.eths[p]) }

/-- Whether a port's link is up. -/
def State.ethUp (s : State) (p : Fin 2) : Bool := s.flag (.eth p) ETH.ETH_STAT.LINK

/-- The other port. -/
def otherPort (p : Fin 2) : Fin 2 := 1 - p

/-- `k` bytes of a frame from an offset, as a number. -/
def beAt (b : List (BitVec 8)) (o k : Nat) : Nat := ((b.drop o).take k).foldl (fun a x => a * 256 + x.toNat) 0

/-- Whether a frame carries an 802.1Q tag. -/
def hasTag (b : List (BitVec 8)) : Bool := beAt b 12 2 == 0x8100

/-- Where the PTP header of an event message begins, if the frame is one (R416). -/
def State.ptpHeader (s : State) (b : List (BitVec 8)) : Option Nat :=
  let o := if hasTag b then 16 else 12
  let ty := beAt b o 2
  let ip := o + 2
  let udp := ip + 4 * (beAt b ip 1 % 16)
  let h := if ty = 0x88F7 ∧ s.flag .ptp PTP.PTP_CFG.L2 then some ip
    else if ty = 0x0800 ∧ s.flag .ptp PTP.PTP_CFG.UDP4 ∧ beAt b ip 1 / 16 = 4 ∧ beAt b (ip + 9) 1 = 17 ∧ beAt b (udp + 2) 2 = 319 then
      some (udp + 8)
    else none
  match h with
  | some k =>
    if s.runs .ptp && s.flag .ptp PTP.PTP_CFG.EN && beAt b (k + 1) 1 % 16 == 2 && decide (beAt b k 1 % 16 ≤ 3)
    then some k else none
  | none => none

/-- The stamp of a frame at a port: the platform time of its tick plus LAT_ADJ of the direction (R415), in 1/64 ns. -/
def State.ethStamp (s : State) (p : Fin 2) (tx : Bool) (c : Nat) : Nat :=
  (s.timeAt c + (s.word .ptp (0x48 + 8 * (2 * p.val + b2n tx))).toInt).toNat

/-- The address of a port, as a number of 48 bits. -/
def State.macAddr (s : State) (p : Fin 2) : Nat :=
  s.get (.eth p) ETH.MAC_ADDR1.B0_1 * 2 ^ 32 + s.get (.eth p) ETH.MAC_ADDR0.B2_5

/-- Whether a frame passes the receive filter (R410). -/
def State.ethAccepts (s : State) (p : Fin 2) (b : List (BitVec 8)) : Bool :=
  let d := beAt b 0 6
  let multi := beAt b 0 1 % 2 == 1
  s.flag (.eth p) ETH.ETH_CFG.PROMISC || d == s.macAddr p || d == 2 ^ 48 - 1 || (multi && s.flag (.eth p) ETH.ETH_CFG.MCAST)

/-- Whether a frame is to be forwarded (R413). -/
def State.ethForwards (s : State) (p : Fin 2) (b : List (BitVec 8)) : Bool :=
  let d := beAt b 0 6
  s.flag (.eth p) ETH.ETH_CFG.FWD && d != s.macAddr p && d / 16 != 0x0180C200000 && s.ethUp p && s.ethUp (otherPort p)

/-- Ticks a frame takes on the medium: 80 ns a byte, with preamble, SFD, FCS and gap. -/
def frameTicks (len : Nat) : Nat := (len + 24) * 24

/-- One bit of the CRC-32 of IEEE 802.3, in its reflected form. -/
def fcsBit (c : Nat) : Nat := if c % 2 = 1 then (c / 2) ^^^ 0xEDB88320 else c / 2

/-- The FCS of a frame as a number: the CRC-32 of IEEE 802.3 (PRESUMED, log 69: the manual names it only). -/
def fcsOf (b : List (BitVec 8)) : Nat :=
  b.foldl (fun c x => (List.range 8).foldl (fun c _ => fcsBit c) (c ^^^ x.toNat)) 0xFFFFFFFF ^^^ 0xFFFFFFFF

/-- A frame on the medium: preamble, SFD, its bytes padded to 60, and the FCS, inverted where the frame was found errored on its
way (R412, R413). -/
def wireFrame (b : List (BitVec 8)) (ok : Bool) : List (BitVec 8) :=
  let b := b ++ List.replicate (60 - b.length) 0
  let c := if ok then fcsOf b else fcsOf b ^^^ 0xFFFFFFFF
  List.replicate 7 (0x55 : BitVec 8) ++ [(0xD5 : BitVec 8)] ++ b ++ (List.range 4).map (fun i => BitVec.ofNat 8 (c >>> (8 * i)))

/-- Whether a slot may have begun at a tick: a forwarded frame that had arrived goes ahead of it (R413). -/
def State.ethMayBegin (s : State) (p : Fin 2) (t : Nat) : Bool :=
  s.eths[otherPort p].fwd.all (fun e => decide (t ≤ e.1) || decide (e.2 ≤ t))

/-- Write a held record into the ring, word 0 last (R390, R411). -/
def State.ethWrite (s : State) (p : Fin 2) (r : CanRec) : State :=
  let i := s.get (.eth p) ETH.RX_STAT.WIDX
  let q := s.get (.eth p) ETH.RX_STAT.SEQ
  let base := 0x80000 + 0x20000 * p.val + 512 * i
  let w0 : Word := BitVec.ofNat 36 (q <<< 16 ||| b2n s.eths[p].restart <<< 15 ||| r.w0)
  let l := (List.range r.rest.length).map (fun k => (base + 1 + k, r.rest.getD k 0)) ++ [(base, w0)]
  let s := s.updEth p (fun x => { x with restart := false })
  let s := (s.tabletWrite .block (s.pageSecure (.eth p)) l).2
  let s := (s.put (.eth p) ETH.RX_STAT.WIDX ((i + 1) % 128)).put (.eth p) ETH.RX_STAT.SEQ ((q + 1) % 65536)
  s.fire (.eth p) 9

/-- The records held for the ring go to it. -/
def State.ethFlush (s : State) (p : Fin 2) : State :=
  forEach s.eths[p].held (fun r s => s.ethWrite p r) (s.updEth p (fun x => { x with held := [] }))

/-- A record goes to the ring, or waits while ARB is busy in one of four places, or is lost (R390, R411). -/
def State.ethHold (s : State) (p : Fin 2) (r : CanRec) : State :=
  if !s.storeBusy then (s.ethFlush p).ethWrite p r
  else if s.eths[p].held.length < 4 then s.updEth p (fun x => { x with held := x.held ++ [r] })
  else (s.inc (.eth p) ETH.RX_STAT.DROPS).fire (.eth p) 11

/-- The records that waited for ARB go to their rings once it is free (R390, R411). -/
def State.ethDrain (s : State) : State :=
  if s.storeBusy || (s.eths[0].held.isEmpty && s.eths[1].held.isEmpty) then s else (s.ethFlush 0).ethFlush 1

/-- STORE_REFRESH_END (R355): a suspended tablet goes on, and records that waited for ARB go to their rings. -/
def execStoreRefreshEnd (s : State) : Out :=
  let s := s.updArb (fun a => { a with refresh := false })
  .next s.ethDrain

/-- Forwarding of a frame that begins `f.ago` ticks back (R413); answers whether a copy was forwarded. -/
def State.ethForward (s : State) (p : Fin 2) (f : EthFrame) : Bool × State :=
  if !s.ethForwards p f.bytes then (false, s)
  else
    let l := s.eths[p].fwd.filter (fun e => decide (s.now < e.2 + f.ago))
    if 2 ≤ l.length then (false, ((s.updEth p (fun x => { x with fwd := l })).inc (.eth p) ETH.ETH_STAT.FWD_DROP).fire (.eth p) 12)
    else
      let e := (s.now - f.ago + 14 * 24, s.now - f.fwdAgo + frameTicks f.bytes.length)
      (true, (s.updEth p (fun x => { x with fwd := l ++ [e] })).updEth (otherPort p) (fun x => { x with out := wireFrame f.bytes f.ok }))

/-- ETH_FRAME_RECEIVED (R410, R411, R413, R415, R416). -/
def execEthFrameReceived (p : Fin 2) (f : EthFrame) (s : State) : Out :=
  if !(s.runs (.eth p) && s.flag (.eth p) ETH.ETH_CFG.EN && s.ethUp p) then .next s
  else
    let (copied, s) := s.ethForward p f
    let b := f.bytes
    let len := b.length
    let vlan := hasTag b
    let ptp := s.ptpHeader b
    let s := s.doIf (f.ok && ptp.isSome) (fun s => (s.doIf copied (fun s => s.fire .ptp 1)).fire .ptp 0)
    if !(f.ok && decide (60 ≤ len) && decide (len ≤ (if vlan then 1522 else 1518)) && s.ethAccepts p b) then .next s
    else
      let c := s.timeC - f.ago
      let rx := time72 (s.ethStamp p false c)
      let tx := if copied then time72 (s.ethStamp (otherPort p) true (s.timeC - f.fwdAgo)) else (0, 0)
      let w6 : Word := match ptp with
        | some k => BitVec.ofNat 36 ((beAt b k 1 % 16) <<< 32 ||| beAt b (k + 4) 1 <<< 24 ||| beAt b (k + 30) 2)
        | none => 0
      let words := (List.range ((len + 3) / 4)).map (fun w => BitVec.ofNat 36 ((List.range 4).foldl (fun a j => a * 256 + (b.getD (4 * w + j) 0).toNat) 0))
      let r : CanRec := {
        w0 := b2n ptp.isSome <<< 14 ||| b2n copied <<< 13 ||| b2n vlan <<< 12 ||| len
        rest := [rx.1, rx.2, BitVec.ofNat 36 (c % 2 ^ 36), tx.1, tx.2, w6, 0] ++ words }
      .next (s.ethHold p r)

/-- ETH_TX_SLOT_DONE (R412): slot TX_CONS has been sent (its instant `ago` ticks back), or the link dropped during it, or it was
skipped for its LEN; the frame it put on the medium is kept. A forwarded frame that had arrived before it goes ahead of it
(R413). -/
def execEthTxSlotDone (p : Fin 2) (dropped : Bool) (ago : Nat) (s : State) : Out :=
  let i := s.get (.eth p) ETH.TX_CONS.CONS
  if !(s.runs (.eth p) && s.flag (.eth p) ETH.ETH_CFG.EN && i != s.get (.eth p) ETH.TX_PROD.PROD && (s.ethUp p || dropped) &&
      s.ethMayBegin p (s.now - ago)) then .next s
  else
    let sec := s.pageSecure (.eth p)
    let base := 0x80000 + 0x20000 * p.val + 0x10000 + 512 * i
    let (w0, s) := s.xferRead .block sec base
    let len := fld w0 10 0
    let bad := decide (len < 14) || decide (1518 < len)
    let (ws, s) := s.tabletRead .block sec ((List.range (if bad then 0 else (len + 3) / 4)).map (fun k => base + 8 + k))
    let bytes := (ws.flatMap (fun w => [fld w 31 24, fld w 23 16, fld w 15 8, fld w 7 0])).map (BitVec.ofNat 8)
    let t := time72 (s.ethStamp p true (s.timeC - ago))
    let done := setFld (setFld w0 35 35 1) 34 34 (b2n (bad || dropped))
    let l := (if bad then [] else [(base + 1, t.1), (base + 2, t.2)]) ++ [(base, done)]
    let s := (s.tabletWrite .block sec l).2
    let s := (s.put (.eth p) ETH.TX_CONS.CONS ((i + 1) % 128)).fire (.eth p) 10
    let s := s.doIf (!bad && !dropped) (fun s => s.updEth p (fun x => { x with out := wireFrame (bytes.take len) true }))
    let s := s.dmaDone p i
    .next (s.doIf (!bad && !dropped && (s.ptpHeader (bytes.take len)).isSome) (fun s => s.fire .ptp 1))

/-- LINK_UP (R410, R417): the link comes up with a duplex and a crossover; forced settings win. -/
def execLinkUp (p : Fin 2) (full xover : Bool) (s : State) : Out :=
  if s.runs (.eth p) && s.flag (.eth p) ETH.ETH_CFG.EN && !s.ethUp p then
    let fd := match s.get (.eth p) ETH.ETH_CFG.LINK with
      | 1 => true | 2 => false | _ => full
    let xo := match s.get (.eth p) ETH.ETH_CFG.MDIX with
      | 1 => false | 2 => true | _ => xover
    let s := (s.put (.eth p) ETH.ETH_STAT.FULL (b2n fd)).put (.eth p) ETH.ETH_STAT.XOVER (b2n xo)
    .next ((s.put (.eth p) ETH.ETH_STAT.LINK 1).fire (.eth p) 8)
  else .next s

/-- The link goes down (R417). -/
def State.linkDrop (s : State) (p : Fin 2) : State :=
  if s.ethUp p then ((s.put (.eth p) ETH.ETH_STAT.LINK 0).updEth p (fun x => { x with fwd := [] })).fire (.eth p) 0 else s

/-- LINK_DOWN (R417). -/
def execLinkDown (p : Fin 2) (s : State) : Out := .next (s.linkDrop p)

end Sys2Proof.Machine
end

