-- ==== Sys2Proof/Machine/Feedback.lean ====
section
/-! DEFINITION. Feedback ports: lines, counting, speed, samples, latches and the shift sequencer (R270-R288). -/

namespace Sys2Proof.Machine

/-- Change a feedback port's working values. -/
def State.updFb (s : State) (n : Fin 48) (f : FbPart → FbPart) : State := { s with fbs := s.fbs.set n (f s.fbs[n]) }

/-- FB_CFG.MODE. -/
def State.fbMode (s : State) (n : Fin 48) : Nat := s.get (.fb n) FB.FB_CFG.MODE

/-- An index edge's zeroing shows from the tick after it (R278); then load a SETPOS whose tick has come, under an FB_CFG word (R274): in MODE 4 the offset takes the difference to the last valid
frame's value; before any valid frame the manual states none, and it is free (log 5). -/
def State.fbLoadAs (s : State) (n : Fin 48) (cfg : Word) : State :=
  let s := s.doIf (s.fbs[n].zeroDue.any (fun t => decide (t ≤ s.now)))
    (fun s => s.updFb n (fun b => { b with pos := 0, zeroDue := none }))
  match s.fbs[n].preset with
  | some (t, v) =>
    if t ≤ s.now then
      let sgn : Int := if fld cfg 3 3 = 1 then -1 else 1
      let m4 := fld cfg 2 0 == 4
      s.updFb n (fun b => { b with
        pos := v
        preset := none
        loaded := some t
        offset := if m4 then v - (b.lastRaw.map (fun r => sgn * (r : Int))).getD (Config.freeInt 22 [v]) else b.offset
        first := m4 || b.first })
    else s
  | none => s

/-- Load a SETPOS whose tick has come (R274). -/
def State.fbLoad (s : State) (n : Fin 48) : State := s.fbLoadAs n (s.word (.fb n) 0x40)

/-- An edge fault: counted, noted for the next sample, EDGE_FAULT (R272, R273, R288). -/
def State.fbFault (s : State) (n : Fin 48) : State :=
  let s := (s.updFb n (fun b => { b with sawFault := true })).inc (.fb n) FB.FB_STAT.EDGE_FAULTS
  if s.raised (.fb n) 8 then s else s.fire (.fb n) 8

/-- Note what the edges accepted in this tick have done. -/
def State.fbNote (s : State) (n : Fin 48) (f : FbUndo → FbUndo) : State :=
  s.updFb n (fun b => { b with undo := b.undo.map (fun u => if u.tick = s.now then f u else u) })

/-- A fault of the edges accepted in this tick (R273). -/
def State.fbAcceptFault (s : State) (n : Fin 48) : State :=
  let was := s.get (.fb n) FB.FB_STAT.EDGE_FAULTS
  let s := s.fbFault n
  let up := s.get (.fb n) FB.FB_STAT.EDGE_FAULTS != was
  s.fbNote n (fun u => { u with fault := true, cnt := up })

/-- Put a position, saturated at POS36 with POS_SAT (R273). -/
def State.fbPut (s : State) (n : Fin 48) (p : Int) : State :=
  let q := clamp (-(2 : Int) ^ 23) ((2 : Int) ^ 23 - 1) p
  (s.updFb n (fun b => { b with pos := q })).doIf (q != p) (fun s => (s.fbNote n (fun u => { u with sat := true })).fire (.fb n) 0)

/-- An accepted count of ±1 (R273, R275); one in the tick of a SETPOS is discarded (R274). -/
def State.fbCount (s : State) (n : Fin 48) (c : Int) : State :=
  if s.fbs[n].loaded = some s.now then s
  else
    let c := if s.flag (.fb n) FB.FB_CFG.DIR then -c else c
    let s := s.updFb n (fun b => { b with
      counts := if b.dir = c then (s.now :: b.counts).take 65 else [s.now]
      dir := c })
    (s.fbPut n (s.fbs[n].pos + c)).put (.fb n) FB.FB_STAT.STILL 0

/-- The place of a Hall code in the forward sequence 1, 3, 2, 6, 4, 5 (R273). -/
def hallPlace (c : Nat) : Option Nat := [1, 3, 2, 6, 4, 5].findIdx? (fun x => x == c)

/-- A change of the Hall code (R273). -/
def State.fbHall (s : State) (n : Fin 48) : State :=
  let l := s.fbs[n].acc
  let code := 4 * b2n l[2] + 2 * b2n l[1] + b2n l[0]
  match hallPlace code with
  | none => s.fbAcceptFault n
  | some i =>
    let old := s.fbs[n].hall.bind hallPlace
    let s := s.updFb n (fun b => { b with hall := some code })
    match old with
    | none => s
    | some j =>
      if i = j then s
      else if i = (j + 1) % 6 then s.fbCount n 1
      else if j = (i + 1) % 6 then s.fbCount n (-1)
      else s.fbAcceptFault n

/-- Store a latch with its stamp in the three registers from `off`, unless its event bit shows it full, and fire (R278, R279). -/
def State.fbLatch (s : State) (n : Fin 48) (off ev c : Nat) : State :=
  if s.raised (.fb n) ev then s
  else
    let t := time72 (s.timeAt c).toNat
    let s := s.updFb n (fun b => if ev = 9 then { b with idxAt := some s.now } else { b with latAt := some s.now })
    let s := s.setWord (.fb n) off (BitVec.ofInt 36 (s.fbs[n].pos * 4096))
    ((s.setWord (.fb n) (off + 8) t.1).setWord (.fb n) (off + 16) t.2).fire (.fb n) ev

/-- An accepted index edge: latch, and zero once (R278). Its stamp is that of the tick the edge entered the input register. The
zeroing shows from the next tick on, for the samples and latches of this one see the counted position (R279). -/
def State.fbIndex (s : State) (n : Fin 48) : State :=
  let m := s.get (.fb n) FB.FB_CFG.IDX_MODE
  let level := !s.flag (.fb n) FB.FB_CFG.IDX_POL
  if (m = 1 ∨ m = 2) ∧ s.fbs[n].acc[2] = level then
    let s := (s.fbLatch n 0x80 9 s.fbs[n].enterC[2]).updFb n (fun b => { b with sawIdx := true })
    if m = 2 ∧ s.fbs[n].zeroArm then
      s.updFb n (fun b => { b with
        zeroArm := false
        zeroDue := if b.loaded = some s.now then none else some (s.now + 1) })
    else s
  else s

/-- The port as it was before this tick's accepted edges: what they have counted so far is taken back, for all of a tick's edges
count together (R273). -/
def State.fbTick (s : State) (n : Fin 48) : State :=
  let b := s.fbs[n]
  match b.undo.filter (fun u => u.tick == s.now) with
  | some u =>
    let lone := u.fault && !u.early
    let s := s.updFb n (fun b => { b with
      pos := u.pos, hall := u.hall, counts := u.counts, dir := u.dir
      sawFault := if lone then u.sawFault && b.sawFault else b.sawFault
      undo := some { u with fault := false, cnt := false, sat := false } })
    let s := s.put (.fb n) FB.FB_STAT.STILL (b2n u.still)
    let s := s.doIf u.cnt (fun s => s.put (.fb n) FB.FB_STAT.EDGE_FAULTS (s.get (.fb n) FB.FB_STAT.EDGE_FAULTS - 1))
    let s := s.doIf (lone && !u.faulted) (fun s => s.unfire (.fb n) 8 false)
    s.doIf (u.sat && !u.satd) (fun s => s.unfire (.fb n) 0 false)
  | none =>
    s.updFb n (fun b => { b with undo := some {
      tick := s.now, acc := b.acc, pos := b.pos, hall := b.hall, counts := b.counts, dir := b.dir
      still := s.flag (.fb n) FB.FB_STAT.STILL, sawFault := b.sawFault, faulted := s.raised (.fb n) 8, satd := s.raised (.fb n) 0
      fault := false, cnt := false, sat := false, early := false } })

/-- The latches that have stored in this tick hold the position after all the tick's counts (R278, R279). -/
def State.fbRelatch (s : State) (n : Fin 48) : State :=
  let b := s.fbs[n]
  let w : Word := BitVec.ofInt 36 (b.pos * 4096)
  (s.doIf (b.idxAt == some s.now) (fun s => s.setWord (.fb n) 0x80 w)).doIf (b.latAt == some s.now)
    (fun s => s.setWord (.fb n) 0x98 w)

/-- The lines of `ch` change their accepted levels in this tick; counting follows MODE, by all the edges accepted in the tick
(R272, R273). -/
def State.fbAcceptCount (s : State) (n : Fin 48) (ch : Vector Bool 3) : State :=
  let s := s.fbTick n
  let s := s.updFb n (fun b => { b with
    acc := Vector.ofFn (fun i => if ch[i] then !b.acc[i] else b.acc[i])
    edge := Vector.ofFn (fun i => if ch[i] then some s.now else b.edge[i]) })
  let l := s.fbs[n].acc
  let old := (s.fbs[n].undo.map FbUndo.acc).getD l
  let ch : Vector Bool 3 := Vector.ofFn (fun i => l[i] != old[i])
  let s := s.put (.fb n) FB.FB_STAT.LINES (4 * b2n l[2] + 2 * b2n l[1] + b2n l[0])
  match s.fbMode n with
  | 1 =>
    if ch[0] && ch[1] then s.fbAcceptFault n
      else if ch[0] then s.fbCount n (if l[0] != l[1] then 1 else -1)
      else if ch[1] then s.fbCount n (if l[1] == l[0] then 1 else -1)
      else s
  | 2 => s.doIf (ch[0] || ch[1] || ch[2]) (fun s => s.fbHall n)
  | 3 => s.doIf (ch[0] && l[0]) (fun s => s.fbCount n (if l[1] then 1 else -1))
  | _ => s

/-- Edges are accepted: they count, latches of this tick follow, and an index edge acts (R273, R278). -/
def State.fbAccept (s : State) (n : Fin 48) (ch : Vector Bool 3) : State :=
  ((s.fbAcceptCount n ch).fbRelatch n).doIf (s.fbMode n == 1 && ch[2]) (fun s => s.fbIndex n)

/-- Whether an edge of a line comes MIN_EDGE ticks or more after its last accepted edge (R272). -/
def State.minEdge (s : State) (n : Fin 48) (i : Fin 3) : Bool :=
  match s.fbs[n].edge[i] with
  | none => true
  | some t => t + s.get (.fb n) FB.FB_CFG.MIN_EDGE ≤ s.now

/-- FB_LINE_EDGE (R270, R272): the lines' levels at the decode path, 2 ticks behind the input register (R270), are now `lines` (bit 0 A, bit 1 B, bit 2 C). -/
def execFbLineEdge (n : Fin 48) (lines : BitVec 3) (s : State) : Out :=
  let lv : Vector Bool 3 := Vector.ofFn (fun i => lines.getLsbD i.val)
  let was := s.fbs[n].inp
  let s := s.updFb n (fun b => { b with
    inp := lv, enterC := Vector.ofFn (fun i => if was[i] != lv[i] then s.timeC - 2 else b.enterC[i]) })
  if !s.released (.fb n) || s.softResetting (.fb n) then .next s
  else
    let s := s.fbLoad n
    let moved : Vector Bool 3 := Vector.ofFn (fun i => was[i] != lv[i])
    let ch : Vector Bool 3 := Vector.ofFn (fun i => moved[i] && s.minEdge n i && s.fbs[n].acc[i] != lv[i])
    let bad := (List.finRange 3).filter (fun i => moved[i] && !s.minEdge n i)
    let s := forEach bad (fun _ s => s.fbFault n) s
    .next ((s.doIf (!bad.isEmpty) (fun s => s.fbNote n (fun u => { u with early := true }))).fbAccept n ch)

/-- MIN_EDGE_ACCEPT (R272): MIN_EDGE ticks after the last accepted edge, a level that still differs is accepted. -/
def execMinEdgeAccept (n : Fin 48) (line : Fin 3) (s : State) : Out :=
  if s.released (.fb n) && !s.softResetting (.fb n) && s.fbs[n].inp[line] != s.fbs[n].acc[line] then
    .next ((s.fbLoad n).fbAccept n (Vector.ofFn (fun i => i == line)))
  else .next s

/-! ### Speed and samples (R275-R277) -/

/-- VEL36 of `dp` counts in `dt` ticks (R275, R456); no time between two instants is not a speed the manual states. -/
def speedOf (dp : Int) (dt : Nat) : Int :=
  if dt = 0 then (if dp = 0 then 0 else satS 36 (Config.freeInt 20 [dp]))
  else satS 36 (roundQ ((dp : Rat) * 300000 * 65536 / dt))

/-- The speed by the period method (R275). -/
def State.fbPeriod (s : State) (n : Fin 48) : Int :=
  let b := s.fbs[n]
  match b.counts with
  | [] => 0
  | last :: rest =>
    let k := min (s.get (.fb n) FB.FB_SPD.SPAN) rest.length
    if k = 0 then 0
    else
      let first := (last :: rest).getD k 0
      let q : Rat := max (((last - first : Nat) : Rat) / k) ((s.now - last : Nat) : Rat)
      if q = 0 then satS 36 (Config.freeInt 20 [b.dir])
      else satS 36 (roundQ ((b.dir : Rat) * 300000 * 65536 / q))

/-- The speed at a sample in MODE 1 to 3 (R275); at the first sample, with none before it, the manual states no interval, and Δp
and the count method's speed are free (log 5). -/
def State.fbSpeed (s : State) (n : Fin 48) : Int :=
  let b := s.fbs[n]
  let dp := (b.prev.map (fun q => b.pos - q.1)).getD (Config.freeInt 23 [b.pos])
  let cnt := (b.prev.map (fun q => speedOf dp (s.now - q.2))).getD (satS 36 (Config.freeInt 24 [b.pos]))
  if s.flag (.fb n) FB.FB_STAT.STILL then 0
  else match s.get (.fb n) FB.FB_SPD.MODE with
    | 0 => cnt
    | 1 => s.fbPeriod n
    | _ => if s.get (.fb n) FB.FB_SPD.SPAN ≤ dp.natAbs then cnt else s.fbPeriod n

/-- Push the present position and speed as a sample: FB_POS and FB_VEL, the FQ of every axis that selects the port, and the MQ of
the enabled ones that take it as master (R78, R125, R276, R277). `inst` is the sample instant: its tick and its count C. -/
def State.fbPush (s : State) (n : Fin 48) (stale : Bool) (inst : Nat × Nat) : State :=
  if !s.runs (.fb n) then s
  else
    let b := s.fbs[n]
    let pw : Word := BitVec.ofInt 36 (b.pos * 4096)
    let vw : Word := BitVec.ofInt 36 b.vel
    let flag : Word := BitVec.ofNat 36 (b2n stale <<< 35 ||| b2n b.sawFault <<< 34 ||| b2n b.sawIdx <<< 33 |||
      b2n b.sawLat <<< 32 ||| b.seqNo)
    let s := (s.setWord (.fb n) 0x68 pw).setWord (.fb n) 0x70 vw
    let s := s.updFb n (fun b => { b with
      sawFault := false
      sawIdx := false
      sawLat := false
      prev := some (b.pos, inst.1)
      seqNo := (b.seqNo + 1) % 65536 })
    let s := forEach (List.finRange 48) (fun i s =>
      if s.fbPort i = some n then
        let (ok, s) := s.qPush (.fq i) [pw, vw, flag]
        s.doIf ok (fun s => s.qLanded (.fq i) [pw, vw, flag])
      else s) s
    s.mqPushAll 1 n.val (mqEntry ⟨b.pos * 4096, b.vel, 0⟩ false stale inst.2)

/-- FB_SAMPLE (R276): a PWM sync of SYNC_GRP in MODE 1 to 3. -/
def execFbSample (n : Fin 48) (s : State) : Out :=
  if s.runs (.fb n) && decide (1 ≤ s.fbMode n) && decide (s.fbMode n ≤ 3) then
    let s := s.fbLoad n
    let v := s.fbSpeed n
    .next ((s.updFb n (fun b => { b with vel := v })).fbPush n false (s.now, s.timeC))
  else .next s

/-- FB_STANDSTILL_TIMEOUT (R275): no count for STILL_US. -/
def execFbStandstillTimeout (n : Fin 48) (s : State) : Out :=
  .next (if s.released (.fb n) then s.put (.fb n) FB.FB_STAT.STILL 1 else s)

/-- The position latch (R279): full, it shows only in the next sample's flag. -/
def State.fbPosLatch (s : State) (n : Fin 48) : State :=
  let s := s.fbLoad n
  (s.fbLatch n 0x98 10 s.timeC).updFb n (fun b => { b with sawLat := true })

/-- The change of the field channel of LAT_CFG that fires the position latch, if its level is the one SRC names; an indeterminate
channel fires none (R279). -/
def State.fbChannelLatch (s : State) (n : Fin 48) : State :=
  let on := s.fieldOn (s.get (.fb n) FB.LAT_CFG.CH)
  let src := s.get (.fb n) FB.LAT_CFG.SRC
  if s.runs (.fb n) && !s.fieldIndet (s.get (.fb n) FB.LAT_CFG.CH) && ((src == 1 && on) || (src == 2 && !on)) then s.fbPosLatch n else s

/-! ### Balls and echo outputs (R69, R271, R287) -/

/-- What the port drives on a line's ball: the fuse-map state until it is configured and while it is disabled; in MODE 4 the
clock on A and, as the program sets it, C; nothing else ever (R271). -/
def State.fbBall (s : State) (n : Fin 48) (line : Fin 3) : Lvl :=
  let b := s.fbs[n]
  let lvl := fun (x : Bool) => if x then Lvl.high else Lvl.low
  if !b.cfgd || !s.runs (.fb n) then fuseState 3
  else if s.fbMode n != 4 then .z
  else match line with
    | 0 => lvl b.outA
    | 1 => .z
    | 2 => (b.outC.map lvl).getD .z

/-- What an echo output drives (R69, R287): the fuse-map state in reset; low while disabled; else the level of the line in the
input register of the port that EC_CFGnn.SRC names, inverted where INV says so. -/
def State.echo (s : State) (e : Fin 12) (line : Fin 3) : Lvl :=
  let w := s.word .ec (EC.EC_CFG.SRC.nth e.val).off
  if !s.released .ec then fuseState 4
  else if !s.runs .ec || fld w 8 8 = 0 then .low
  else if (s.fbs[fld w 5 0 % 48]'(Nat.mod_lt _ (by decide))).inp[line] != bit (fld w 11 9) line.val then .high else .low

/-! ### The shift sequencer (R280-R285) -/

/-- SEQ_STAT.SSTATE: 0 STOPPED, 1 IDLE, 2 FRAME, 3 HALT_PEND. -/
def State.seqState (s : State) (n : Fin 48) : Nat := s.get (.fb n) FB.SEQ_STAT.SSTATE

/-- A word of the ROM SSI program (R283). -/
def romSsi (cfg : Word) (i : Nat) : Word :=
  let bits := fld cfg 9 4
  let half := fld cfg 21 12
  BitVec.ofNat 36 (match i with
    | 0 => 11 <<< 32
    | 1 => 1 <<< 32 ||| 0 <<< 30 ||| 2 <<< 28 ||| half
    | 2 => 2 <<< 32 ||| bits <<< 26 ||| half
    | 3 => 1 <<< 32 ||| 1 <<< 30 ||| 2 <<< 28 ||| fld cfg 35 22
    | 4 => 8 <<< 32 ||| bits <<< 20 ||| b2n (fld cfg 1 0 == 2) <<< 19 ||| fld cfg 2 2 <<< 18
    | _ => 0)

/-- The word of the sequencer's program at its PC (R281, R283). -/
def State.seqWord (s : State) (n : Fin 48) : Word :=
  let pc := s.get (.fb n) FB.SEQ_STAT.PC
  if s.get (.fb n) FB.SEQ_CFG.SRC = 0 then s.word (.fb n) (0x400 + 8 * pc) else romSsi (s.word (.fb n) 0xC0) pc

/-- Whether the sequencer stands in a frame at an instruction with operation code `op`. -/
def State.seqAt (s : State) (n : Fin 48) (op : Nat) : Bool :=
  s.runs (.fb n) && s.fbMode n == 4 && (s.seqState n == 2 || s.seqState n == 3) && s.fbs[n].ended == none &&
    fld (s.seqWord n) 35 32 == op

/-- Go on to the next word; passing word 31 ends the frame with error 5 (R281). -/
def State.seqNext (s : State) (n : Fin 48) : State :=
  let pc := s.get (.fb n) FB.SEQ_STAT.PC
  if pc = 31 then s.updFb n (fun b => { b with ended := some 5 }) else s.put (.fb n) FB.SEQ_STAT.PC (pc + 1)

/-- The frame ends at this instruction with an outcome of R281. -/
def State.seqEndWith (s : State) (n : Fin 48) (err : Nat) : State := s.updFb n (fun b => { b with ended := some err })

/-- Carry out an instruction of the sequencer where it stands. -/
def State.seqDo (s : State) (n : Fin 48) (op : Nat) (f : Word → State → State) : Out :=
  .next (if s.seqAt n op then f (s.seqWord n) s else s)

/-- A check passes, or the frame fails with an error (R280). -/
def State.seqCheck (s : State) (n : Fin 48) (ok : Bool) (err : Nat) : State := if ok then s.seqNext n else s.seqEndWith n err

/-- SR bits `lsb + width - 1 : lsb`. -/
def srBits (sr : BitVec 48) (lsb width : Nat) : Nat := (sr.toNat >>> lsb) % 2 ^ width

/-- SEQ_END (R280): the frame ends, with error 8 where no LOADP ran (R281). -/
def execSeqEnd (n : Fin 48) (s : State) : Out :=
  s.seqDo n 0 (fun _ s => s.seqEndWith n (if s.fbs[n].raw.isSome then 0 else 8))

/-- SEQ_SET (R280). -/
def execSeqSet (n : Fin 48) (s : State) : Out :=
  s.seqDo n 1 (fun w s =>
    let c := fun (b : FbPart) => match fld w 29 28 with
      | 0 => some false
      | 1 => some true
      | 2 => b.outC
      | _ => none
    (s.updFb n (fun b => { b with
      outA := if fld w 31 30 = 2 then b.outA else fld w 31 30 == 1
      outC := c b
      setC := c b })).seqNext n)

/-- One step of a CRC register of a width, MSB first, not reflected (R280). -/
def crcStep (width poly : Nat) (crc : BitVec 16) (b : Bool) : BitVec 16 :=
  let top := width != 0 && crc.getLsbD (width - 1)
  let sh := (crc.toNat * 2) % 2 ^ width
  BitVec.ofNat 16 (if top != b then (sh ^^^ poly) % 2 ^ width else sh)

/-- One bit cycle of SHIFT: with OUT, C carries TX bit 31 and TX shifts left; the sampled bit enters SR and the CRC (R280). -/
def shiftBit (out useCrc : Bool) (width poly : Nat) (bit : Bool) (b : FbPart) : FbPart :=
  { b with
    outC := if out then some b.tx.msb else b.outC
    tx := if out then b.tx <<< 1 else b.tx
    sr := (b.sr <<< 1) ||| (if bit then 1 else 0)
    crc := if useCrc then crcStep width poly b.crc bit else b.crc }

/-- SEQ_SHIFT (R280): CNT bit cycles, the bits sampled on B given in order; where the list is short, B's present level. -/
def execSeqShift (n : Fin 48) (bits : List Bool) (s : State) : Out :=
  s.seqDo n 2 (fun w s =>
    let width := s.get (.fb n) FB.SEQ_CRC.WIDTH
    let poly := s.get (.fb n) FB.SEQ_CRC.POLY
    let lv := s.fbs[n].inp[1]
    let got := (List.range (fld w 31 26)).map (fun i => bits.getD i lv)
    (s.updFb n (fun b =>
      { got.foldl (fun b x => shiftBit (fld w 24 24 == 1) (fld w 23 23 == 1) width poly x b) b with outA := false })).seqNext n)

/-- SEQ_WAITB (R280): B is at a level; the wait ends where it is L. -/
def execSeqWaitb (n : Fin 48) (b : Bool) (s : State) : Out :=
  s.seqDo n 3 (fun w s => if b2n b = fld w 31 31 then s.seqNext n else s)

/-- SEQ_WAITB_TIMEOUT (R280): TMO ticks have passed; error 1. -/
def execSeqWaitbTimeout (n : Fin 48) (s : State) : Out := s.seqDo n 3 (fun _ s => s.seqEndWith n 1)

/-- SEQ_EXPECT (R280). -/
def execSeqExpect (n : Fin 48) (s : State) : Out :=
  s.seqDo n 4 (fun w s => s.seqCheck n (srBits s.fbs[n].sr (fld w 31 26) (fld w 25 20) == fld w 15 0) 2)

/-- SEQ_CRCI (R280). -/
def execSeqCrci (n : Fin 48) (s : State) : Out :=
  s.seqDo n 5 (fun w s => (s.updFb n (fun b => { b with
    crc := BitVec.ofNat 16 (fld w 15 0 % 2 ^ s.get (.fb n) FB.SEQ_CRC.WIDTH) })).seqNext n)

/-- SEQ_CRCCHK (R280). -/
def execSeqCrcchk (n : Fin 48) (s : State) : Out :=
  s.seqDo n 6 (fun w s =>
    let ones := 2 ^ s.get (.fb n) FB.SEQ_CRC.WIDTH - 1
    s.seqCheck n (s.fbs[n].crc.toNat == (if fld w 31 31 = 1 then ones else 0)) 3)

/-- The number of ones of a number of `k` bits. -/
def popCount (v k : Nat) : Nat := countTrue ((List.range k).map (fun i => bit v i))

/-- SEQ_PAR (R280). -/
def execSeqPar (n : Fin 48) (s : State) : Out :=
  s.seqDo n 7 (fun w s =>
    s.seqCheck n (popCount (srBits s.fbs[n].sr (fld w 31 26) (fld w 25 20)) 48 % 2 == fld w 19 19) 4)

/-- Gray code to binary, over `k` bits. -/
def unGray (v : Nat) : Nat → Nat
  | 0 => v
  | k + 1 => unGray v k ^^^ (v >>> (k + 1))

/-- SEQ_LOADP (R280). -/
def execSeqLoadp (n : Fin 48) (s : State) : Out :=
  s.seqDo n 8 (fun w s =>
    let width := fld w 25 20
    let v := srBits s.fbs[n].sr (fld w 31 26) width
    let v := if fld w 19 19 = 1 then unGray v width else v
    (s.updFb n (fun b => { b with raw := some (v, width, fld w 18 18 == 1) })).seqNext n)

/-- SEQ_TXLD (R280). -/
def execSeqTxld (n : Fin 48) (s : State) : Out :=
  s.seqDo n 9 (fun w s => (s.updFb n (fun b => { b with tx := BitVec.ofNat 32 (fld w 31 0) })).seqNext n)

/-- SEQ_BR (R280): B is at a level. -/
def execSeqBr (n : Fin 48) (b : Bool) (s : State) : Out :=
  s.seqDo n 10 (fun w s =>
    let c := fld w 31 29
    if c = 0 ∨ (c = 1 ∧ b) ∨ (c = 2 ∧ ¬ b) then s.put (.fb n) FB.SEQ_STAT.PC (fld w 4 0) else s.seqNext n)

/-- SEQ_MARK (R280). -/
def execSeqMark (n : Fin 48) (s : State) : Out :=
  s.seqDo n 11 (fun _ s => (s.updFb n (fun b => { b with mark := (s.now, s.timeC) })).seqNext n)

/-- The sequencer stops: SEQ_STOPPED (R284). -/
def State.seqStop (s : State) (n : Fin 48) : State := (s.put (.fb n) FB.SEQ_STAT.SSTATE 0).fire (.fb n) 13

/-- SERIAL_FRAME_TIMEOUT (R281): the frame has reached 1,048,576 ticks. -/
def execSerialFrameTimeout (n : Fin 48) (s : State) : Out :=
  .next (if s.runs (.fb n) && s.fbMode n == 4 && (s.seqState n == 2 || s.seqState n == 3) && s.fbs[n].ended == none then
    s.seqEndWith n 6 else s)

/-- The position after a valid frame, and whether UNWRAP's next frame is no longer the first (R273, R274, R281). -/
def State.frameValid (s : State) (n : Fin 48) (raw width : Nat) (unwrap : Bool) : State :=
  let b := s.fbs[n]
  let sgn : Int := if s.flag (.fb n) FB.FB_CFG.DIR then -1 else 1
  let p := if unwrap && !b.first && b.lastRaw.isSome then
      let half : Int := (2 : Int) ^ (width - 1)
      b.pos + sgn * (((raw : Int) - b.lastRaw.getD 0 + half) % (2 : Int) ^ width - half)
    else sgn * raw + b.offset
  let s := s.fbPut n p
  let v := match b.valid with
    | some (t, q) => speedOf (s.fbs[n].pos - q) (b.mark.1 - t)
    | none => b.vel
  s.updFb n (fun x => { x with
    lastRaw := some raw
    first := false
    vel := v
    valid := some (b.mark.1, x.pos) })

/-- The frame ends (R281, R282, R284): the outcome shows, A is high and C has the level of the last SET, a requested halt takes
effect, and the sample is pushed: a STALE one with FRAME_BAD after an invalid frame. -/
def State.frameEnd (s : State) (n : Fin 48) : State :=
  match s.fbs[n].ended with
  | none => s
  | some err =>
    let s := s.fbLoad n
    let b := s.fbs[n]
    let st := s.seqState n
    let s := (s.put (.fb n) FB.SEQ_STAT.ERR err).setWord (.fb n) 0xD8 (b.sr.setWidth 36)
    let s := s.updFb n (fun x => { x with ended := none, outA := true, outC := x.setC })
    let s := match err, b.raw with
      | 0, some (raw, width, unwrap) => s.frameValid n raw width unwrap
      | _, _ => (s.inc (.fb n) FB.SEQ_STAT.FRAMES_BAD).fire (.fb n) 11
    let s := s.fbPush n (err != 0) s.fbs[n].mark
    if st = 2 then s.put (.fb n) FB.SEQ_STAT.SSTATE 1 else if st = 3 then s.seqStop n else s

/-- SERIAL_FRAME_END (R281, R282, R284). -/
def execSerialFrameEnd (n : Fin 48) (s : State) : Out := .next (s.frameEnd n)

/-- SERIAL_FRAME_TRIGGER (R281-R283, R285): the FDIV-th PWM sync in MODE 4; a frame that has ended by then ends first. -/
def execSerialFrameTrigger (n : Fin 48) (s : State) : Out :=
  if !(s.runs (.fb n) && s.fbMode n == 4) then .next s
  else
    let s := (s.frameEnd n).fbLoad n
    .next (match s.seqState n with
      | 0 => s.fbPush n true (s.now, s.timeC)
      | 1 =>
        let s := (s.put (.fb n) FB.SEQ_STAT.SSTATE 2).put (.fb n) FB.SEQ_STAT.PC 0
        s.updFb n (fun b => { b with
          raw := none
          ended := none
          mark := (s.now, s.timeC) })
      | _ => (s.inc (.fb n) FB.SEQ_STAT.OVERRUNS).fire (.fb n) 14)

/-- SEQ_ABORT in a frame: STOPPED at once, the frame is invalid with error 7, C at high impedance (R282, R284). -/
def State.seqAbortFrame (s : State) (n : Fin 48) : State :=
  ((s.updFb n (fun b => { b with ended := some 7, outA := true, outC := none, setC := none })).put (.fb n) FB.SEQ_STAT.ERR 7).seqStop n

/-- FB_CMD (R274, R279, R284, R288). -/
def State.fbCommand (s : State) (n : Fin 48) (op : Nat) : State :=
  let st := s.seqState n
  let m4 := s.fbMode n == 4
  match op with
  | 1 => s.updFb n (fun b => { b with preset := some (s.now + 1, (s.word (.fb n) 0x60).toInt / 4096) })
  | 2 => s.fbPosLatch n
  | 3 =>
    if !m4 then s
    else if st = 0 then (s.put (.fb n) FB.SEQ_STAT.SSTATE 1).updFb n (fun b => { b with first := true })
    else if st = 3 then s.put (.fb n) FB.SEQ_STAT.SSTATE 2
    else s
  | 4 =>
    if !m4 then s
    else if st = 1 then s.seqStop n
    else if st = 2 then s.put (.fb n) FB.SEQ_STAT.SSTATE 3
    else s
  | 5 =>
    if !m4 then s
    else if st = 1 then (s.seqStop n).updFb n (fun b => { b with outC := none, setC := none })
    else if st = 2 ∨ st = 3 then s.seqAbortFrame n
    else s
  | 6 =>
    let s := s.fbNote n (fun u => { u with cnt := false })
    ((s.put (.fb n) FB.FB_STAT.EDGE_FAULTS 0).put (.fb n) FB.SEQ_STAT.FRAMES_BAD 0).put (.fb n) FB.SEQ_STAT.OVERRUNS 0
  | _ => s

/-- Whether an axis that selects the port is outside AX_STATE 0 (R286). -/
def State.fbBusy (s : State) (n : Fin 48) : Bool :=
  (List.finRange 48).any (fun i => s.fbPort i == some n && s.axState i != 0)

/-- A write to FB_CFG has committed; `old` is the word before it, under which a SETPOS that is due loads first (R271, R274, R278,
R286). -/
def State.fbCfgWritten (s : State) (n : Fin 48) (old : Word) : State :=
  let s := (s.fbLoadAs n old).updFb n (fun b => { b with cfgd := true })
  let new := s.word (.fb n) 0x40
  let changed := fld new 2 0 != fld old 2 0 || fld new 11 8 != fld old 11 8 || fld new 15 12 != fld old 15 12
  let s := if changed && s.fbBusy n then
      (((s.put (.fb n) FB.FB_CFG.MODE (fld old 2 0)).put (.fb n) FB.FB_CFG.SYNC_GRP (fld old 11 8)).put
        (.fb n) FB.FB_CFG.FDIV (fld old 15 12)).fire (.fb n) 15
    else s
  let s := s.updFb n (fun b => { b with zeroArm := fld new 6 5 == 2 })
  if s.fbMode n = fld old 2 0 then s
  else
    let s := s.doIf (s.seqState n != 0) (fun s => s.seqStop n)
    s.updFb n (fun b => { b with
      vel := 0
      ended := none
      outA := true
      outC := none
      setC := none
      counts := []
      hall := none
      first := true
      valid := none })

end Sys2Proof.Machine
end

