-- ==== Sys2Proof/Machine/RegWrite.lean ====
section
/-! DEFINITION. What a write makes of a register: access codes (R11, R12), reserved encodings (R13), those that involve several
fields or registers among them. -/

namespace Sys2Proof.Machine

/-- Whether a field of a written word carries a reserved encoding of its own. -/
def FieldD.carriesBad (f : FieldD) (w : Word) : Bool := f.bad.any (fun r => inRange (fld w f.hi f.lo) r.1 r.2)

/-- Whether a register holds RWS fields (R11). -/
def RegD.secureFields (d : RegD) : Bool := d.flds.any (fun f => f.acc == .rws || f.acc == .rwsc)

/-- The word a field of the register takes (R11, R12). -/
def FieldD.merge (f : FieldD) (sec lock : Bool) (old w : Word) (acc : Word) : Word :=
  let v := fld w f.hi f.lo
  let o := fld old f.hi f.lo
  match f.acc with
  | .ro => acc
  | .rw => setFld acc f.hi f.lo v
  | .rws => if sec then setFld acc f.hi f.lo v else acc
  | .rwl => if lock then acc else setFld acc f.hi f.lo v
  | .w1c => setFld acc f.hi f.lo (o - (o &&& v))
  | .wo | .rwsc => setFld acc f.hi f.lo 0

/-- The word of a register after a write of `w` over `old`: each field by its code, reserved bits unchanged. -/
def RegD.merged (d : RegD) (sec lock : Bool) (old w : Word) : Word := d.flds.foldl (fun a f => f.merge sec lock old w a) old

/-! ### Reserved encodings that involve several fields or registers (R13) -/

/-- A program address that an engine implements (R194). -/
def progImpl (pe : Bool) (a : Nat) : Bool := if pe then decide (a < 0x14000) else decide (a < 0x4000) || inRange a 0x8000 0x9FFF

/-- TASKi (R209): a trigger source its TRIG does not have; with EN, DEADLINE 0 or an entry at an unimplemented address. -/
def taskBad (pe : Bool) (w : Word) : Bool :=
  let sel := fld w 32 29
  let trig := fld w 34 33
  let selBad := if pe then trig == 1 && decide (11 < sel)
    else (trig == 0 && decide (3 < sel)) || (trig == 1 && sel != 0) || (trig == 2 && decide (7 < sel))
  selBad || (w.msb && (fld w 28 17 == 0 || !progImpl pe (fld w 16 0)))

/-- The bits of a sequencer instruction that no field of its OP uses are zero, and its fields hold permitted values (R280). -/
def seqInsnBad (w : Word) : Bool :=
  let f := fld w
  let rest := fun (m : Nat) => (w.toNat % 2 ^ 32 &&& (0xFFFFFFFF - m)) != 0
  let lsb := f 31 26
  let width := f 25 20
  match f 35 32 with
  | 0 => rest 0
  | 1 => rest 0xF000FFFF || f 31 30 == 3
  | 2 => rest 0xFF8003FF || !inRange (f 31 26) 1 48 || f 9 0 == 0
  | 3 => rest 0x8000FFFF || f 15 0 == 0
  | 4 => rest 0xFFF0FFFF || decide (47 < lsb) || !inRange width 1 16 || decide (48 < lsb + width) || decide (2 ^ width ≤ f 15 0)
  | 5 => rest 0x0000FFFF
  | 6 => rest 0x80000000
  | 7 => rest 0xFFF80000 || !inRange width 2 48 || decide (48 < lsb + width)
  | 8 => rest 0xFFFC0000 || !inRange width 1 36 || decide (48 < lsb + width)
  | 9 => false
  | 10 => rest 0xE000001F || decide (2 < f 31 29)
  | 11 => rest 0
  | _ => true

/-- The product that bounds a bit time of a CAN link (R384). -/
def bitTime (brp ts1 ts2 : Nat) : Nat := brp * (1 + ts1 + ts2)

/-- The nominal and the data bit time of NBT and DBT. -/
def nomProd (w : Word) : Nat := bitTime (fld w 35 30) (fld w 13 5) (fld w 21 14)
def dataProd (w : Word) : Nat := bitTime (fld w 35 30) (fld w 19 14) (fld w 24 20)

/-- DBT against a nominal product (R384). -/
def dbtBad (w : Word) (nominal : Nat) : Bool := decide (dataProd w < 10) || decide (nominal < dataProd w)

/-- A trigger unit's configuration word against its two threshold words (R368, R377). -/
def trigBad (c a b : Word) : Bool :=
  match fld c 34 32 with
  | 0 => fld a 35 32 != 0 || fld b 35 32 != 0 || (b.toNat &&& (0xFFFFFFFF - a.toNat % 2 ^ 32)) != 0
  | 3 => c.msb && decide (b.toInt ≤ a.toInt)
  | 4 => decide (1 < fld c 31 30) || (c.msb && decide (b.toInt ≤ a.toInt))
  | _ => false

/-- The highest INDEX of a probe's group (R361). -/
def probeMax (group : Nat) : Nat := [0, 143, 191, 47, 47, 127, 23, 7, 7, 255, 255, 0].getD group 0

/-- Whether dice of an injection point with an amplitude are valid on an axis type (R172). -/
def diceOk (ty point : Nat) (amp : Word) : Bool :=
  (match point with
    | 0 => inRange ty 1 3
    | 1 | 2 => ty == 1 || ty == 3 || ty == 4
    | _ => ty == 1) &&
  (point != 2 || decide (amp.toInt.natAbs ≤ 2 ^ 33))

/-- Whether the reserved encodings that the manual states for several fields or registers together are carried by a write of `w`
to instance `i` of the register at `off`. -/
def State.crossBad (s : State) (p : Pg) (off i : Nat) (w : Word) : Bool :=
  let f := fld w
  match p with
  | .sys =>
    if off = 0x100 then f 11 0 != 0
    else if off = 0x110 then
      if i = 8 then f 22 0 == 0 || decide (4194304 < f 22 0)
      else if i = 6 ∨ i = 7 then f 22 7 != 0
      else f 22 0 != 0
    else false
  | .time => off == 0xA0 && f 3 0 == 1 && decide (999999999 < fld (s.word .time 0x88) 35 6)
  | .ax n =>
    if off = 0xA8 then fld (s.word p 0x90) 31 0 == 0 || (f 0 0 == 1 && s.word p 0xA0 != 0)
    else if off = 0x100 then
      match f 2 0 with
      | 0 => f 9 4 != 0
      | 1 => decide (47 < f 9 4)
      | 2 => decide (47 < f 9 4) || f 9 4 == n.val
      | _ => decide (7 < f 9 4)
    else if off = 0x3C0 ∨ off = 0x3C8 then
      let cfg := if off = 0x3C0 then w else s.word p 0x3C0
      let amp := if off = 0x3C8 then w else s.word p 0x3C8
      fld cfg 9 8 == 2 && decide (2 ^ 33 < amp.toInt.natAbs)
    else if off = 0x3E8 then
      f 1 0 == 1 && (!diceOk (s.get p AX.AX_CFG.TYPE) (s.get p AX.DICE_CFG.POINT) (s.word p 0x3C8) ||
        (s.get p AX.DICE_T.DUR == 0 && s.get p AX.DICE_CFG.WAVE == 1))
    else false
  | .ae _ =>
    if off = 0x40 then !inRange (f 20 16 * f 15 0) 9375 75000
    else if off = 0x70 then decide (0x40000 < f 17 0 + f 33 18)
    else if off = 0x100 then taskBad false w
    else false
  | .pe =>
    if off = 0x1C0 then taskBad true w
    else if off = 0x800 then
      if f 34 32 < 4 then f 29 29 == 0 && decide (2047 < f 28 0) else f 29 29 == 1 || f 28 24 != 0
    else if off = 0xA00 then f 4 4 == 1 && f 3 0 != 1
    else false
  | .fb _ =>
    if off = 0xC0 then (f 1 0 == 1 || f 1 0 == 2) && (f 21 12 == 0 || !inRange (f 9 4) 1 36)
    else if off = 0x400 then seqInsnBad w
    else false
  | .adc _ => off == 0x100 && f 8 8 == 1 && inRange (f 4 0) 16 19
  | .si j => j == 4 && off == 0x80 &&
      (List.range 9).any (fun k => let g := f (4 * k + 3) (4 * k); inRange g 8 14 || (decide (48 ≤ 9 * i + k) && g != 15))
  | .recorder j =>
    if j = 1 ∧ off = 0x40 then decide (probeMax (f 11 8) < f 7 0)
    else if j = 2 ∧ off = 0x40 then trigBad w (s.word p (0x48 + 0x40 * i)) (s.word p (0x50 + 0x40 * i))
    else if j = 2 ∧ off = 0x48 then trigBad (s.word p (0x40 + 0x40 * i)) w (s.word p (0x50 + 0x40 * i))
    else if j = 2 ∧ off = 0x50 then trigBad (s.word p (0x40 + 0x40 * i)) (s.word p (0x48 + 0x40 * i)) w
    else false
  | .can _ =>
    if off = 0x40 then decide (f 21 14 < f 29 22) || !inRange (nomProd w) 80 640 || decide (nomProd w < dataProd (s.word p 0x48))
    else if off = 0x48 then decide (f 24 20 < f 29 25) || dbtBad w (nomProd (s.word p 0x40))
    else if off = 0x88 then (f 15 8 &&& f 7 0) != 0
    else if off = 0x98 then f 33 33 == 0 && decide (2047 < f 28 0)
    else if off = 0xA0 then f 29 0 < 30000 && s.get p CAN.TT_CFG.ROLE != 0
    else if off = 0xC8 then f 34 34 == 0 && decide (2047 < f 28 0)
    else if off = 0x400 then (f 33 33 == 1 && f 34 34 == 0) || (f 31 31 == 1 && f 34 34 == 1) || (f 35 35 == 0 && decide (2047 < f 28 0))
    else false
  | .eth _ => off == 0x50 && f 8 8 == 1
  | .arb =>
    off == 0x80 && (List.range 6).any (fun k => (decide (i < 10) || decide (k < 4)) && inRange (f (6 * k + 5) (6 * k)) 29 62)
  | _ => false

/-- Whether a write of `w` to instance `i` of a register carries a reserved encoding (R13). -/
def State.carriesBad (s : State) (p : Pg) (d : RegD) (i : Nat) (w : Word) : Bool :=
  d.flds.any (fun f => f.carriesBad w) || s.crossBad p d.off i w

/-- The word a register holds after a write of `w` that is carried out (R11, R12): region entry 15 ignores writes (R47), a running
watchdog's EN stays 1 (R62), JTAG_EN is fixed on an unfused part (R434), BASE_LOAD.GO follows the load (R187), and TT10 holds
four slots. -/
def State.afterWrite (s : State) (p : Pg) (d : RegD) (i : Nat) (sec : Bool) (old w : Word) : Word :=
  let new := d.merged sec (s.flag p HDR.LOCK.LOCK) old w
  match p with
  | .sec => if (d.off = 0x100 ∨ d.off = 0x108) ∧ i = 15 then old else new
  | .rst => if inRange d.off 0x58 0x68 ∧ fld old 16 16 = 1 then setFld new 16 16 1 else new
  | .dbg => if d.off = 0x40 ∧ !Config.fused then setFld new 35 35 (fld old 35 35) else new
  | .ovl => if d.off = 0x50 then old else new
  | .arb => if d.off = 0x80 ∧ i = 10 then new &&& 0xFFFFFF else new
  | _ => new

end Sys2Proof.Machine
end

