-- ==== Sys2Proof/Machine/Pages.lean ====
section
/-! DEFINITION. The page header's operations: live and frozen status, disabling and enabling, queue flushes, soft reset
(R36, R37, R41, R84, R88, R250). -/

namespace Sys2Proof.Machine

/-- PAGE_STAT as it reads (R36): FAULT while a fault bit is set, BUSY during soft reset or an operation in progress, RUN. -/
def State.pageStat (s : State) (p : Pg) : Word :=
  let fault := (s.get p HDR.EV_RAW.RAW &&& pgFaultMask p) != 0
  let op := match p with
    | .adc _ => s.flag p ADC.ADC_STAT.CAL_BUSY
    | .ovl => s.ovl.load.isSome
    | _ => false
  BitVec.ofNat 36 (b2n fault <<< 2 ||| b2n (s.softResetting p || op) <<< 1 ||| b2n (s.runs p))

/-- The word of a slot as it stands now, those included that follow a running value (R36, R395, R407). -/
def State.liveWord (s : State) (p : Pg) (off : Nat) : Word :=
  if off = 0x10 then s.pageStat p
  else match p with
    | .time => if off = 0xB0 then s.timeStat else s.word p off
    | .can c => if off = 0xB0 then s.ttCtime c else s.word p off
    | _ => s.word p off

/-- The offsets of the status and counter registers of a page. -/
def statOffs (p : Pg) : List Nat :=
  ((pgBlockRegs p).filter (fun d => d.stat)).flatMap (fun d => (List.range (max 1 d.cnt)).map (fun i => d.off + d.stride * i))

/-- FREEZE: rising, the status and counter registers hold their words; falling, they are live again (R36). -/
def State.setFreeze (s : State) (p : Pg) (on : Bool) : State :=
  let was := s.flag p HDR.CTRL.FREEZE
  let s := s.put p HDR.CTRL.FREEZE (b2n on)
  if on ∧ ¬ was then
    (statOffs p).foldl (fun t off => { t with frozen := t.frozen.put (slotAddr p off) (t.liveWord p off) }) s
  else if ¬ on ∧ was then { s with frozen := s.frozen.filter (fun c => c.1 / 0x1000 != pgNum p) }
  else s

/-- A block's outputs take their reset state, at a disable or a soft reset (R36, R37, R88, R250). -/
def State.blockOff (s : State) (p : Pg) : State :=
  let s := match p with
    | .ax n => s.axDisable n
    | .dp n => s.dpDisable n
    | .fb n => s.updFb n (fun b => { b with outA := true, outC := none, setC := none })
    | .can c => s.updCan c (fun x => { x with stby := true, onBus := false })
    | .evt => s.irqUpdate
    | .eth i => s.linkDrop i
    | .fiob b => s.outsOff b
    | .si _ => s.siUpdate false
    | _ => s
  s.flushBlock p

/-- PAGE_CTRL.EN of a page takes a value (R36, R250): a disabled block's outputs take their reset state; a drive port that is
OFF and enabled enters HOLD_LOW. -/
def State.setEn (s : State) (p : Pg) (en : Bool) : State :=
  let was := s.flag p HDR.CTRL.EN
  let s := s.put p HDR.CTRL.EN (b2n en)
  if !en then (if was then s.blockOff p else s)
  else match p with
    | .dp n => s.dpLeaveOff n
    | .can c => s.updCan c (fun x => { x with stby := s.canMode c == 0 || s.slp c == 2 })
    | .ax n => s.doIf (!was) (fun s => s.updAx n (fun a => { a with sup := { a.sup with fbOk := [] } }))
    | .si _ => s.siUpdate false
    | .evt => s.irqUpdate
    | _ => s

/-! ### Debug halt (R268, R435, R436) -/

/-- A drive port's counters go on from where they froze `d` ticks ago (R268). -/
def DrivePort.resume (x : DrivePort) (now d : Nat) : DrivePort :=
  { x with carStart := x.carStart + d
           waves := x.waves.map (fun w => { w with start := w.start + d, edge := w.edge.map (fun e => e + 64 * d) })
           resumed := (now, d)
           coilA := { x.coilA with since := x.coilA.since + d, blank := x.coilA.blank + d }
           coilB := { x.coilB with since := x.coilB.since + d, blank := x.coilB.blank + d } }

/-- The halts that DBG_CTRL asks for come into force or end: engines stop or run, and with HALT_ALL the profile units and the
drive ports freeze; HALT and RESUME fire (R268, R435, R436). -/
def State.haltUpdate (s : State) : State :=
  let all := s.flag .dbg DBG.DBG_CTRL.HALT_ALL
  let eng := if all then 0x1FFF else s.get .dbg DBG.DBG_CTRL.HALT_ENG
  let wasAll := s.flag .dbg DBG.DBG_STAT.HALTED
  let wasEng := s.get .dbg DBG.DBG_STAT.ENG
  let s := (s.put .dbg DBG.DBG_STAT.HALTED (b2n all)).put .dbg DBG.DBG_STAT.ENG eng
  let ports := fun (v : Bool) (s : State) => forEach (List.finRange 48) (fun n s => s.put (.dp n) DP.DP_STAT.HALTED (b2n v)) s
  let s := if all ∧ ¬ wasAll then (ports true s).updHost (fun h => { h with haltAt := some s.now })
    else if ¬ all ∧ wasAll then
      let d := s.now - s.host.haltAt.getD s.now
      let s := (ports false s).updHost (fun h => { h with haltAt := none })
      { s with ports := s.ports.map (fun x => x.resume s.now d) }
    else s
  let rise := (all && !wasAll) || (List.range 13).any (fun e => bit eng e && !bit wasEng e)
  let fall := (!all && wasAll) || (List.range 13).any (fun e => !bit eng e && bit wasEng e)
  (s.doIf rise (fun s => s.fire .dbg 4)).doIf fall (fun s => s.fire .dbg 5)

/-! ### Soft reset (R37) -/

/-- The slots of a page that a soft reset keeps: PAGE_WORLD and PAGE_LOCK; RST_CAUSE, which only a write of 1 clears (R59); the
island's faults that are held until a cold or power reset, SIN_FAULT and DIAG_STAT (R308, R326). -/
def softKeeps (p : Pg) (off : Nat) : Bool :=
  off == 0x30 || off == 0x38 || (p == .rst && off == 0x40) || (p == .si 1 && off == 0x110) || (p == .si 5 && off == 0x40)

/-- The registers of a page go to their reset words; what shows a present condition shows it again: the occupancy of queues (R85;
HWM stays at its reset word 0 beside it, DESIGN CHOICE, log 24), a drive port's inputs and a debug halt (R268), the PLL's lock and
the oscillator fault that is held until power-on (R51, R54); what only a cold or power reset ends stays: SAFE_FAULT, the retained
ladder state and the lanes' mode (R75, R314, R329). -/
def State.softRegs (s : State) (p : Pg) : State :=
  let t := { s with
    regs := s.regs.filter (fun c => c.1 / 0x1000 != pgNum p || softKeeps p (c.1 % 0x1000))
    frozen := s.frozen.filter (fun c => c.1 / 0x1000 != pgNum p) }
  match p with
  | .ax n => forEach [.pq n, .fq n, .mq n, .oq n] (fun q t => t.put p (qOcc q) (t.qGet q).length) t
  | .dp n => t.dpPins n
  | .si j =>
    if j = 0 then
      let t := (t.put p SI0.SI_STAT.LADDER (s.get p SI0.SI_STAT.LADDER)).put p SI0.SI_STAT.LHOLD (s.get p SI0.SI_STAT.LHOLD)
      t.doIf (s.siState == 2) (fun t => (t.put p SI0.SI_STAT.STATE 2).put p SI0.SI_STAT.FCAUSE (s.get p SI0.SI_STAT.FCAUSE))
    else if j = 7 then
      let t := (t.put p SI7.LANE_STAT.MODE s.laneMode).put p SI7.LANE_STAT.CAUSE (s.get p SI7.LANE_STAT.CAUSE)
      t.doIf (s.laneMode != 0) (fun t => t.put p SI7.LANE_STAT.COPY (s.get p SI7.LANE_STAT.COPY))
    else t
  | .clk => (t.put p CLK.STAT.SI_OSC_FAULT (s.get p CLK.STAT.SI_OSC_FAULT)).put p CLK.STAT.ROOT_LOCK (s.get p CLK.STAT.ROOT_LOCK)
  | _ => t

/-- The internal state behind an SI page goes to its reset state (R37): SP's watch of PE and waiting reports, its input filters, its
function blocks; the lanes' copies and blocks, which lanes that have taken over keep (R329). The switches a decider has latched
stay until its own reset (R310). -/
def State.siPart (s : State) (j : Fin 8) : State :=
  s.updSi (fun i => match j.val with
    | 0 => { i with beat := false, good := 0, repQ := [] }
    | 1 => { i with sp := { i.sp with level := Dec.reset.level, onAt := Dec.reset.onAt } }
    | 3 => { i with sp := { i.sp with st := Dec.reset.st, hand := Dec.reset.hand, resetAt := Dec.reset.resetAt } }
    | 7 => if s.laneMode = 0 then { i with copyA := none, copyB := none, laneA := Dec.reset, laneB := Dec.reset } else i
    | _ => i)

/-- The internal state behind a REC page goes to its reset state (R37): the recorder, its probes, its trigger units, Baon. A probe's
source in GROUP 0 reads 0 (R361). -/
def State.recPart (s : State) (j : Fin 4) : State :=
  { s with recd :=
    let r := s.recd
    let z := RecPart.reset
    match j.val with
    | 0 => { z with lvl := r.lvl, trg := r.trg, emit := r.emit, measuring := r.measuring, clkLost := r.clkLost,
                    pulseC := r.pulseC, trigSeen := r.trigSeen, base := r.base, wptr := r.base + 4 }
    | 1 => { r with lvl := 0, chg := 0, multi := 0, meas := none, aps := z.aps, lastChg := z.lastChg, prevChg := z.prevChg, rise := z.rise,
                    period := z.period, chgCnt := 0, lvlWas := 0, lvlTick := 0 }
    | 2 => { r with trg := z.trg, fired := z.fired, seq0 := none }
    | _ => { r with emit := false, measuring := false, clkLost := false, pulseC := none, trigSeen := none } }

/-- The internal state of a block goes to its reset state; ARB's walk, requests and refresh run on (R354, R459). -/
def State.softPart (s : State) (p : Pg) : State :=
  match p with
  | .sys => s.updHost (fun h => { h with dmaSeq := Vector.replicate 9 0, txMoved := [], txBack := [] })
  | .rst => s.updRst (fun r => ((r.wdStart s.now .ctrl).wdStart s.now .data).wdStart s.now .mgmt)
  | .sec => { s with unlockWin := none }
  | .ovl => { s with ovl := OvlPart.reset }
  | .evt => { s with evt := EvtPart.reset }
  | .arb => { s with arb := { s.arb with tt := ArbPart.reset.tt, ttPend := none } }
  | .time => { s with timeC := 0, lastCor := 0, cor := none, cors := [], snaps := Vector.replicate 4 (0, 0) }
  | .ax n => { s with axes := s.axes.set n Axis.reset, refillQ := s.refillQ.filter (fun e => e.2 != n) }
  | .fb n => s.updFb n (fun b => { FbPart.reset with inp := b.inp })
  | .dp n => { s with ports := s.ports.set n s.ports[n].restart }
  | .ae k => s.updEng (engOf k) (fun x => { x.restart false with failed := x.failed, trapAt := x.trapAt })
  | .pe => { s with
      engs := s.engs.set peIx (s.engs[peIx].restart true)
      vms := Vector.replicate 8 VMast.reset
      doors := Vector.replicate 32 Door.reset }
  | .adc u => { s with adcs := s.adcs.set u AdcPart.reset }
  | .fiob b => s.updFiob b (fun f => { FiobPart.reset with rel := f.rel, scanAt := f.scanAt, cur := f.cur })
  | .recorder j => s.recPart j
  | .si j => s.siPart j
  | .can c => { s with cans := s.cans.set c CanPart.reset }
  | .eth i => { s with eths := s.eths.set i EthPart.reset }
  | .dbg => ((s.put .dbg DBG.DBG_CTRL.HALT_ALL 0).put .dbg DBG.DBG_CTRL.HALT_ENG 0).haltUpdate
  | .clk | .ec | .ptp => s

/-- SRST of a page (R37): the block's registers and internal state go to reset and its outputs with them; FREEZE and EN of the
write wait for the completion. -/
def State.softReset (s : State) (p : Pg) (freeze en : Bool) : State :=
  let s := ((((s.blockOff p).arbSoft p).softPart p).softRegs p).irqUpdate
  let s := { s with softRst := s.softRst ++ [(p, freeze, en)] }
  match p with
  | .si _ => s.siUpdate false
  | _ => s

/-- SOFT_RESET_DONE (R37): BUSY falls, and PAGE_CTRL takes the FREEZE and EN that the write carried. A
released AX page fetches its model record (R142). -/
def execSoftResetDone (p : Pg) (s : State) : Out :=
  match s.softRst.find? (fun e => e.1 == p) with
  | none => .next s
  | some (_, freeze, en) =>
    let s := { s with softRst := s.softRst.filter (fun e => e.1 != p) }
    let s := match p with
      | .ax n => { s with refillQ := s.refillQ ++ [(true, n)] }
      | _ => s
    .next ((s.setEn p (en || p == .arb)).setFreeze p freeze)

end Sys2Proof.Machine
end

