-- ==== Sys2Proof/Machine/Commit.lean ====
section
/-! DEFINITION. What stands between a write and its register: writes that a block's present state refuses, in whole or in part,
and what follows the commit of a configuration register (R87, R107, R123, R127, R143, R160, R209, R285, R286, R377, R386,
R392). -/

namespace Sys2Proof.Machine

/-- Whether a register of an axis page is one of R127: GEAR_CFG, the ratio and ramp registers, the stations. -/
def gearReg (off : Nat) : Bool := off == 0x100 || inRange off 0x110 0x128 || inRange off 0x200 0x2FF

/-- Whether a register of an axis page is staged by the buffer stop (R143). -/
def govReg (off : Nat) : Bool := inRange off 0x140 0x190

/-- A staged buffer-stop write (R143): it replaces an earlier one to the register. -/
def State.govStage (s : State) (n : Fin 48) (off : Nat) (w : Word) : State :=
  let s := s.updAx n (fun a => { a with gov := { a.gov with staged := (a.gov.staged.filter (fun e => e.1 != off)) ++ [(off, w)] } })
  s.put (.ax n) AX.GOV_STAT.PEND 1

/-- The word a record or write of part of a register starts from: the staged word of a buffer-stop register, else the word in
force. -/
def State.baseWord (s : State) (p : Pg) (off : Nat) : Word :=
  match p with
  | .ax n => match s.axes[n].gov.staged.find? (fun e => e.1 == off) with
    | some e => if govReg off then e.2 else s.word p off
    | none => s.word p off
  | _ => s.word p off

/-- Whether the fields of two words differ. -/
def differ (a b : Word) (hi lo : Nat) : Bool := fld a hi lo != fld b hi lo

/-- Whether a sequencer register of a feedback port takes no write now (R285). -/
def State.seqShut (s : State) (p : Pg) (base : Nat) : Bool :=
  match p with
  | .fb n => (base == 0xC0 || base == 0xC8 || base == 0x400) && s.seqState n != 0
  | _ => false

/-- Whether a page is REC1 or REC2 while a capture is ARMED or TRIGGERED: every write to it is dropped (R377). -/
def State.recShut (s : State) (p : Pg) : Bool := (p == .recorder 1 || p == .recorder 2) && (s.recState == 1 || s.recState == 2)

/-- What the present state of a block makes of a write: the word that commits (none: nothing does), and whether the write is
refused in whole or in part, with its event and reason. `old` is the word before the write, `new` the word it would leave. -/
def State.screen (s : State) (p : Pg) (base off : Nat) (old new : Word) : Bool × Option Word × State :=
  let pass := (false, some new, s)
  match p with
  | .ax n =>
    if base = 0x40 then
      if s.axState n ≠ 0 ∧ (differ old new 2 0 ∨ differ old new 9 8 ∨ differ old new 15 10) then
        let w := setFld (setFld (setFld new 2 0 (fld old 2 0)) 9 8 (fld old 9 8)) 15 10 (fld old 15 10)
        (true, some w, s.fire p 6)
      else pass
    else if base = 0x70 then
      if s.get p AX.PROF_STAT.PSTATE ≠ 0 ∧ differ old new 33 33 then (true, some (setFld new 33 33 (fld old 33 33)), s.refuse n 1)
      else pass
    else if gearReg base then (if s.geared n then (true, none, s.gearRefuse n 5) else pass)
    else if govReg base then (false, none, s.govStage n off new)
    else pass
  | .ae k =>
    if base = 0x40 then
      if old ≠ new ∧ (axesOf k).any (fun n => s.axState n != 0) then (true, none, s.fire p 16) else pass
    else if base = 0x100 ∨ base = 0x180 then (if s.engState k ≠ 0 then (true, none, s.fire p 5) else pass)
    else pass
  | .pe =>
    if base = 0x1C0 then (if old.msb ∧ new ≠ setFld old 35 35 0 then (true, none, s.fire p 5) else pass)
    else if base = 0x2C0 then (if (s.word p (off - 0x100)).msb then (true, none, s.fire p 5) else pass)
    else pass
  | .recorder _ => if s.recShut p then (true, none, s.fire (.recorder 0) 12) else pass
  | .can c =>
    if base = 0x40 ∨ base = 0x48 ∨ base = 0x50 then (if s.canMode c ≠ 0 then (true, none, s.fire p 30) else pass)
    else if 0x400 ≤ off ∧ ¬ s.txbFree c ((off - 0x400) / 0x100) then (true, none, s.fire p 18)
    else pass
  | _ => pass

/-- What follows the commit of a configuration register; `old` is the word before it. -/
def State.written (s : State) (p : Pg) (base off i : Nat) (old : Word) : State :=
  match p with
  | .sys => if h : base = 0x110 ∧ i < 9 then s.dmaCtl ⟨i, h.2⟩ old false else s
  | .evt =>
    let s := s.doIf (base = 0x800 || inRange base 0x400 0x7C0 || base = 0x100) (fun s => s.evtWritten off old)
    if base = 0x800 then s.irqUpdate else s
  | .recorder j => if j = 1 ∧ base = 0x40 then s.probeWritten i else if j = 2 then s.trgWritten ((off - 0x40) / 0x40) else s
  | .ax n => if base = 0xA8 then s.segPush n else if base = 0x80 then s.limCfgWritten n old else if inRange base 0x300 0x3B0 then s.parWrite n off old else s
  | .fb n => if base = 0x40 then s.fbCfgWritten n old else s
  | .dp n => if base = 0x68 then s.scaleWritten n else s
  | .adc u => if base = 0x40 ∨ base = 0x100 ∨ base = 0x200 then s.adcNote u off old else s
  | .pe => if h : base = 0x800 ∧ i < 8 then s.vmEnable ⟨i, h.2⟩ old else s
  | .si j => if j = 0 ∧ (base = 0x58 ∨ base = 0x60) then s.siUpdate false else s
  | .fiob b => if base = 0x100 then s.chCfgWritten b i old else s
  | .can c => if base = 0x58 then s.canModeWritten c old else if base = 0x98 then s.canTtWritten c old else s
  | .eth q => if base = 0x40 ∧ fld old 0 0 = 1 ∧ ¬ s.flag p ETH.ETH_CFG.EN then s.linkDrop q else s
  | .ovl => if base = 0x60 then
      { s.put p OVL.OVL_STAT.PEND 1 with ovl := { s.ovl with request := some (fld (s.word p 0x60) 19 0) } }
    else s
  | _ => s

end Sys2Proof.Machine
end

