-- ==== Sys2Proof/Machine/Overlay.lean ====
section
/-! DEFINITION. The base configuration and overlays (R67, R187-R191). -/

namespace Sys2Proof.Machine

/-- A record of an image: the three words (R187). -/
structure OvlRec where
  w0 : Word
  mask : Word
  value : Word
deriving DecidableEq, Repr

/-- The records among the words of an image. -/
def recsOf : List Word → List OvlRec
  | a :: m :: v :: r => ⟨a, m, v⟩ :: recsOf r
  | _ => []

/-- The records of an image in the store, read under OVL's world (R43, R46). -/
def State.recsAt (s : State) (base n : Nat) : List OvlRec × State :=
  let (ws, t) := s.tabletRead .block (s.pageSecure .ovl) ((List.range (3 * n)).map (fun k => base + k))
  (recsOf ws, t)

/-- Where the base image and the overlay slots lie in the configuration area (R346). -/
def imageBase : Nat := 0x40000
def slotBase (i : Nat) : Nat := 0x50000 + 0x1800 * i

/-- What a record names: a register of a page, or a word of the parameter region. -/
inductive RecTarget where
  | reg (p : Pg) (off : Nat) (d : RegD) (i : Nat)
  | par (w : Nat)

/-- The host byte address of a record. -/
def OvlRec.addr (r : OvlRec) : Nat := fld r.w0 24 0

/-- The target of a record, where R189 allows its address. -/
def OvlRec.target (r : OvlRec) : Option RecTarget :=
  let a := r.addr
  if 0x1400000 ≤ a ∧ a < 0x1600000 then some (.par ((a - 0x1400000) / 8))
  else if 0x100000 ≤ a then none
  else match pgOfNum (a / 0x1000) with
    | none => none
    | some .sec => none
    | some .rst => none
    | some .dbg => none
    | some (.si _) => none
    | some p =>
      if a % 0x1000 < 0x40 then none
      else match pgReg p (a % 0x1000) with
        | some (d, i) => some (.reg p (a % 0x1000) d i)
        | none => none

/-- The layout rules of a record (R187). -/
def OvlRec.wellFormed (r : OvlRec) : Bool := fld r.w0 35 25 == 0 && fld r.w0 2 0 == 0 && (r.value &&& ~~~r.mask) == 0

/-- A word with a record applied: (word AND NOT MASK) OR VALUE. -/
def OvlRec.apply (r : OvlRec) (w : Word) : Word := (w &&& ~~~r.mask) ||| r.value

/-- The bits of a register that a record may cover: those of fields that are neither RO, WO nor reserved (R189). -/
def RegD.maskable (d : RegD) : Word :=
  d.flds.foldl (fun a f => match f.acc with
    | .rw | .rws | .rwl | .rwsc | .w1c => setFld a f.hi f.lo (2 ^ 36 - 1)
    | .ro | .wo => a) 0

/-- The bits of a register's fields with a code. -/
def RegD.bitsOf (d : RegD) (c : Acc → Bool) : Word := d.flds.foldl (fun a f => if c f.acc then setFld a f.hi f.lo (2 ^ 36 - 1) else a) 0

/-- Whether a configuration write would be refused in the target's present state (R189). -/
def State.wouldRefuse (s : State) (p : Pg) (d : RegD) (off : Nat) (old new : Word) : Bool :=
  s.seqShut p d.off || (s.screen p d.off off old new).1 ||
  (match p with
    | .ax n => d.off == 0xA8 && (!s.flag p AX.PROF_CFG.SRC || decide (32 ≤ s.axes[n].hwq.length))
    | .fb n => d.off == 0x40 && (differ old new 2 0 || differ old new 11 8 || differ old new 15 12) && s.fbBusy n
    | .can c => d.off == 0x58 && s.canMode c != 0 && differ old new 2 2
    | _ => false)

/-- Whether a record that produces `new` over `old` in a register is invalid (R189); `secure` is the SECURE bit of its slot. -/
def State.recBad (s : State) (secure : Bool) (r : OvlRec) (old new : Word) : Bool :=
  !r.wellFormed ||
  (match r.target with
    | none => true
    | some (.par _) => false
    | some (.reg p off d i) =>
      (r.mask &&& ~~~d.maskable) != 0 || s.carriesBad p d i new ||
      (s.flag p HDR.LOCK.LOCK && ((old ^^^ new) &&& d.bitsOf (· == .rwl)) != 0) ||
      (!secure && ((old ^^^ new) &&& d.bitsOf (fun c => c == .rws || c == .rwsc)) != 0) ||
      s.wouldRefuse p d off old new)

/-- The word a record's target holds. -/
def State.recWord' (s : State) (r : OvlRec) : Word :=
  match r.target with
  | some (.reg p off _ _) => s.baseWord p off
  | some (.par w) => s.storeGet w
  | none => 0

/-- A computed word goes to its target: a register takes it as a write (one of a page in soft reset takes none, R37; COR_CMD commits its correction, R405), and a word of a doorway's entry is read again by PE (R180). -/
def State.recPutWord (s : State) (r : OvlRec) (w : Word) : State :=
  match r.target with
  | some (.reg p off d i) =>
    if s.softResetting p then s
    else
    let old := s.word p off
    let new := s.afterWrite p d i true old w
    if p = .time ∧ d.off = 0xA0 then s.corCommand (fld w 3 0) else
    match s.screen p d.off off old new with
    | (_, some v, t) => (t.setWord p off v).written p d.off off i old
    | (_, none, t) => t
  | some (.par a) =>
    let s := s.storePut a w
    if h : 0x3F800 ≤ a ∧ a < 0x3FA00 then s.dwNamed ⟨(a - 0x3F800) / 16, by omega⟩ else s
  | none => s

/-! ### Loading (R187, R188) -/

/-- The slots that a stack names, by level. -/
def stackSlots (st : Nat) : List (Nat × Fin 16) :=
  ((List.range 4).filter (fun n => bit st (5 * n + 4))).map (fun n => (n, ⟨(st >>> (5 * n)) % 16, Nat.mod_lt _ (by decide)⟩))

/-- Whether a stack names a slot. -/
def stackHas (st : Nat) (i : Fin 16) : Bool := (stackSlots st).any (fun x => x.2 == i)

/-- The stack in force. -/
def State.activeStack (s : State) : Nat := s.get .ovl OVL.OVL_STAT.ACTIVE

/-- OVL_LOAD (R187): LOAD copies COUNT records into a slot, with the SECURE bit of its requester; ERASE empties it. -/
def State.ovlLoad (s : State) (r : Req) (op : Nat) (slot : Fin 16) (src : Nat) : State :=
  let s := { s with ovl := { s.ovl with src := src } }
  let n := s.get .ovl OVL.OVL_CNT.COUNT
  match op with
  | 1 =>
    if stackHas s.activeStack slot || stackHas (s.ovl.request.getD 0) slot || decide (0x40000 < src + 3 * n) || decide (2048 < n) then
      s.fire .ovl 1
    else
      let sec := s.pageSecure .ovl
      let (ws, s) := s.tabletRead .block sec ((List.range (3 * n)).map (fun k => src + k))
      let (_, s) := s.tabletWrite .block sec (ws.zipIdx.map (fun x => (slotBase slot.val + x.2, x.1)))
      { s with ovl := { s.ovl with count := s.ovl.count.set slot n, secure := s.ovl.secure.set slot (s.secure r) } }
  | 2 => { s with ovl := { s.ovl with count := s.ovl.count.set slot 0, secure := s.ovl.secure.set slot false } }
  | _ => s

/-- The records of an image in order, each applied where it is valid; the index of the first invalid one, at which the load stops
(R188). -/
def State.applyImage (s : State) : List OvlRec → Nat → State × Option Nat
  | [], _ => (s, none)
  | r :: l, i =>
    let old := s.recWord' r
    let new := r.apply old
    if s.recBad true r old new then (s, some i) else State.applyImage (s.recPutWord r new) l (i + 1)

/-- BASE_LOAD.GO (R187, R188): accepted with every axis in state 0 and no switch pending; OVL checks the image's records, each on
what those before it leave. -/
def State.baseLoad (s : State) : State :=
  if (List.finRange 48).all (fun n => s.axState n == 0) && s.ovl.request.isNone && s.ovl.load.isNone then
    let s := (s.setWord .ovl 0x80 0).put .ovl OVL.BASE_LOAD.GO 1
    let n := s.get .ovl OVL.OVL_CNT.COUNT
    let (l, s) := s.recsAt s.ovl.src n
    { s with ovl := { s.ovl with load := some (s.ovl.src, n, (s.applyImage l 0).2) } }
  else s.fire .ovl 1

/-- A base load fails at a record (R188). -/
def State.baseFail (s : State) (i : Nat) : State :=
  ((s.put .ovl OVL.BASE_STAT.FAIL 1).put .ovl OVL.BASE_STAT.FAIL_REC i).fire .ovl 0

/-- BASE_LOAD_COMPLETE (R188): an image that its check found invalid changes nothing; a valid one is applied in record order, up to
a record that its target's present state refuses. -/
def execBaseLoadComplete (s : State) : Out :=
  match s.ovl.load with
  | none => .next s
  | some (src, n, bad) =>
    let s := { s.put .ovl OVL.BASE_LOAD.GO 0 with ovl := { s.ovl with load := none } }
    match bad with
    | some i => .next (s.baseFail i)
    | none =>
      let (l, s) := s.recsAt src n
      match s.applyImage l 0 with
      | (t, some i) => .next (t.baseFail i)
      | (t, none) =>
        let words := l.flatMap (fun r => [r.w0, r.mask, r.value])
        let (_, t) := t.tabletWrite .block (t.pageSecure .ovl) (words.zipIdx.map (fun x => (imageBase + x.2, x.1)))
        let t := { t with ovl := { t.ovl with baseCount := n } }
        .next (((t.put .ovl OVL.OVL_STAT.ACTIVE 0).put .ovl OVL.BASE_STAT.DONE 1).fire .ovl 2)

/-! ### Switching (R189-R191) -/

/-- The records of a stack, with level, index and the SECURE bit of their slot. -/
def State.stackRecs (s : State) : List (Nat × Fin 16) → List (Nat × Nat × Bool × OvlRec) × State
  | [] => ([], s)
  | (lv, i) :: l =>
    let (rs, t) := s.recsAt (slotBase i.val) s.ovl.count[i]
    let (more, u) := State.stackRecs t l
    (rs.zipIdx.map (fun x => (lv, x.2, s.ovl.secure[i], x.1)) ++ more, u)

/-- A named slot's word as computed so far: the record that names it, the bits named and the word. -/
structure OvlSlot where
  rec_ : OvlRec
  mask : Word
  word : Word

/-- Name the slot of a record: bits not named before take the base image's value. -/
def nameSlot (base : OvlRec → Word) (r : OvlRec) : List OvlSlot → List OvlSlot
  | [] => [⟨r, r.mask, base r⟩]
  | x :: l => if x.rec_.addr = r.addr then { x with mask := x.mask ||| r.mask } :: l else x :: nameSlot base r l

/-- The base image's word of a record's target: the image's records over the reset word; a parameter word that the image does not
name keeps what it holds. -/
def State.imageWord (s : State) (image : List OvlRec) (r : OvlRec) : Word :=
  let start := match r.target with
    | some (.reg p off _ _) => resetWord p off
    | some (.par w) => s.storeGet w
    | none => 0
  (image.filter (fun x => x.addr == r.addr)).foldl (fun w x => x.apply w) start

/-- The word a slot would hold: the named bits as computed, the others as they are. -/
def OvlSlot.now (x : OvlSlot) (s : State) : Word := (s.recWord' x.rec_ &&& ~~~x.mask) ||| (x.word &&& x.mask)

/-- Apply one record to the computed slots; answers whether it is invalid (R189). -/
def State.stackStep (s : State) (secure : Bool) (r : OvlRec) (l : List OvlSlot) : Bool × List OvlSlot :=
  let l := l.map (fun x => if x.rec_.addr = r.addr then { x with word := r.apply x.word } else x)
  match l.find? (fun x => x.rec_.addr == r.addr) with
  | some x => (s.recBad secure r (s.recWord' r) (x.now s), l)
  | none => (true, l)

/-- Apply a stack's records in order; the level and index of the first invalid one. -/
def State.stackRun (s : State) : List (Nat × Nat × Bool × OvlRec) → List OvlSlot → (Nat × Nat) ⊕ List OvlSlot
  | [], l => .inr l
  | (lv, i, sec, r) :: rest, l =>
    match s.stackStep sec r l with
    | (true, _) => .inl (lv, i)
    | (false, l) => State.stackRun s rest l

/-- The computed slots of a requested stack, or the level and index of the first record that is invalid now; and the state after
the reads (R189, R190). -/
def State.stackTry (s : State) (st : Nat) : ((Nat × Nat) ⊕ List OvlSlot) × State :=
  let (olds, s) := s.stackRecs (stackSlots s.activeStack)
  let (news, s) := s.stackRecs (stackSlots st)
  let (image, s) := s.recsAt imageBase s.ovl.baseCount
  let named := (olds ++ news).filter (fun x => x.2.2.2.target.isSome)
  let slots := named.foldl (fun l x => nameSlot (s.imageWord image) x.2.2.2 l) []
  match s.stackRun news slots with
  | .inl x => (.inl x, s)
  | .inr l =>
    let restore := olds.find? (fun x => match l.find? (fun y => y.rec_.addr == x.2.2.2.addr) with
      | some y => s.recBad x.2.2.1 x.2.2.2 (s.recWord' y.rec_) (y.now s)
      | none => false)
    (match restore with
     | some (lv, i, _, _) => .inl (lv, i)
     | none => .inr l, s)

/-- OVL prepares the requested switch: every record is checked (R190). -/
def State.ovlPrepare (s : State) : State :=
  match s.ovl.request with
  | none => s
  | some st =>
    let (r, s) := s.stackTry st
    { s with ovl := { s.ovl with bad := match r with
                                        | .inl x => some x
                                        | .inr _ => none } }

/-- The group whose cutoff times the commit (R190). -/
def State.ovlGroup (s : State) : Fin 12 := Fin.ofNat 12 (s.get .ovl OVL.OVL_SYNC.GRP)

/-- The requested stack commits as a whole; one with a record invalid at its preparation or now is abandoned (R190). -/
def State.ovlCommit (s : State) : State :=
  match s.ovl.request with
  | none => s
  | some st =>
    let bad := s.ovl.bad
    let (r, s) := s.stackTry st
    let s := { s.put .ovl OVL.OVL_STAT.PEND 0 with ovl := { s.ovl with request := none, bad := none } }
    match bad, r with
    | some (lv, i), _ | none, .inl (lv, i) => ((s.put .ovl OVL.OVL_STAT.FAIL_LVL lv).put .ovl OVL.OVL_STAT.FAIL_REC i).fire .ovl 0
    | none, .inr l =>
      let t := l.foldl (fun t x => t.recPutWord x.rec_ (x.now s)) s
      (t.put .ovl OVL.OVL_STAT.ACTIVE st).fire .ovl 2

/-- OVERLAY_COMMIT (R67, R190): in the cycle of the cutoff of group GRP. The cutoff itself commits a request that is there, ahead of
what it takes up; this row acts where one has come behind it in that cycle. -/
def execOverlayCommit (s : State) : Out :=
  .next (if !s.rst.periRel || s.flag .dbg DBG.DBG_STAT.HALTED || s.cars[s.ovlGroup].cutAt != some s.now then s else s.ovlCommit)

/-- PROFILE_CUTOFF (R108, R190, R191): a switch of configuration that group `k` times commits, and the axes of the group take up what
is in time for the coming boundary, the committed fields among it. -/
def execProfileCutoff (k : Fin 12) (s : State) : Out :=
  .next (if s.rst.periRel && !s.flag .dbg DBG.DBG_STAT.HALTED then
    let s := { s with cars := s.cars.set k { s.cars[k] with cutAt := some s.now } }
    (s.doIf (s.ovlGroup == k) State.ovlCommit).cutoff k
  else s)

end Sys2Proof.Machine
end

