-- ==== Sys2Proof/Machine/Bus.lean ====
section
/-! DEFINITION. Accesses to the register map: pages and their registers, engine windows, the parameter region, and the ways of
the host requesters (R11-R14, R29-R50, R64, R196, R197, R431). -/

namespace Sys2Proof.Machine

/-! ### The unlock of SEC (R49, R50) -/

/-- A write to SEC.UNLOCK that R44 lets through. -/
def State.unlockWrite (s : State) (r : Req) (w : Word) : State :=
  let win := s.unlockWin
  let s := { s with unlockWin := none }
  if !s.flag .sec SEC.STAT.BAR2_FUSE ∧ (w = 0x5EC0A11 ∨ w = 0xA1105EC) then s.fire .sec 1
  else if w = 0x5EC0A11 then { s with unlockWin := some r }
  else if w = 0xA1105EC then
    (if win = some r then s.put .sec SEC.STAT.UNLOCKED 1 else s.fire .sec 1)
  else ((s.put .sec SEC.STAT.UNLOCKED 0).put .sec SEC.BAR2_CTRL.EN 0).fire .sec 1

/-! ### Commands that a register write gives -/

/-- Clearing event bits in EV_ACK (R36, R42); one that has fired in this PCLK cycle stays set (R38): the latches that an acknowledged event's bit holds are cleared with it. -/
def State.eventAck (s : State) (p : Pg) (bits : Nat) : State :=
  let old := s.get p HDR.EV_RAW.RAW
  let new := (List.range 32).foldl (fun a i => if bit bits i && !s.firedNow p i then clrBit a i else a) old
  let s := s.put p HDR.EV_RAW.RAW new
  let gone := fun i => bit old i && !bit new i
  let s := match p with
    | .sys =>
      let s := s.doIf (gone 0) (fun s => s.setWord .sys 0x40 0)
      s.doIf ((gone 1 || gone 2) && !bit new 1 && !bit new 2) (fun s => s.setWord .sys 0x48 0)
    | .sec => s.doIf (gone 0) (fun s => s.setWord .sec 0x40 0)
    | .arb => s.doIf (gone 0) (fun s => s.setWord .arb 0x60 0)
    | .ae _ | .pe => s.doIf (gone 0) (fun s => s.setWord p 0x60 0)
    | _ => s
  s.irqUpdate

/-- The queue of a status register at an offset of a page (R85). -/
def statQueue (p : Pg) (off : Nat) : Option QId :=
  match p with
  | .ax n => if off = 0x1E0 then some (.oq n) else if off = 0x1E8 then some (.mq n) else if off = 0x1F0 then some (.pq n)
      else if off = 0x1F8 then some (.fq n) else none
  | .dp n => if off = 0x1F0 then some (.dq n) else none
  | .adc u => if off = 0x600 then some (.cq ⟨2 * u.val, by omega⟩) else if off = 0x608 then some (.cq ⟨2 * u.val + 1, by omega⟩) else none
  | _ => none

/-- The axis with a number below 32 as a doorway. -/
def doorOf (i : Nat) : Fin 32 := ⟨i % 32, Nat.mod_lt _ (by decide)⟩

/-- PLAT_CMD (R181): the operation as a command to every doorway its mask names, SYNC 0. -/
def State.platCmd (s : State) (op : Nat) (mask : Nat) : State :=
  forEach ((List.finRange 32).filter (fun d => bit mask d.val)) (fun d s => s.dwCommand d op false) s

/-- The effect of a write of `w` to a command register, beside what its fields hold. `sec`: whether the requester is secure. Blocks
in reset, disabled or in soft reset carry no command out; CLR of a queue's status acts on a disabled page too (R15, R85). -/
def State.commanded (s : State) (r : Req) (sec : Bool) (p : Pg) (base off i : Nat) (w : Word) : State :=
  let f := fld w
  let dp := match p with
    | .dp _ => s.released p
    | _ => false
  let s := match statQueue p off with
    | some q => s.doIf (w.msb && s.released p) (fun s => s.qClr q)
    | none => s
  if !s.runs p && !(p == .sec || p == .dbg || dp) then s
  else
    match p with
    | .sys => if h : base = 0x110 ∧ i < 9 then s.doIf (f 34 34 == 1) (fun s => s.dmaCtl ⟨i, h.2⟩ (s.word .sys off) true) else s
    | .rst =>
      if base = 0x48 then s.doIf sec (fun s => s.rstCommand (f 1 0))
      else if base = 0x70 then s.wdtKick r (f 2 0)
      else s
    | .sec => if base = 0x50 then s.unlockWrite r w else s
    | .ovl =>
      if base = 0x40 then s.ovlLoad r (f 35 32) ⟨f 31 28 % 16, Nat.mod_lt _ (by decide)⟩ (f 17 0)
      else if base = 0x50 then s.doIf (sec && f 0 0 == 1) (fun s => s.baseLoad)
      else if base = 0x60 then s.ovlPrepare
      else s
    | .arb => if base = 0x50 then (s.doIf (f 1 1 == 1) (fun s => s.arbCommit)).doIf (f 0 0 == 1) (fun s => s.arbClr) else s
    | .time => if base = 0xA0 then s.doIf sec (fun s => s.corCommand (f 3 0)) else s
    | .ax n =>
      if base = 0x60 then s.moveWrite n (f 3 0) (f 25 16)
      else if base = 0x48 then s.doIf w.msb (fun s => s.axisAck n)
      else if base = 0x108 then s.doIf (f 3 0 != 0) (fun s => s.queueCmd n .gear (f 3 0) 0)
      else if base = 0x1A0 then s.doIf (f 0 0 == 1) (fun s => s.modelPublish n)
      else if base = 0x3B8 then s.solCmd n (f 1 0)
      else if base = 0x3E8 then s.doIf (f 1 0 != 0) (fun s => s.queueCmd n .dice (f 1 0) 0)
      else s
    | .fb n => if base = 0x58 then s.fbCommand n (f 3 0) else s
    | .dp n => if base = 0x58 then s.doIf (f 0 0 == 1) (fun s => s.rearm n) else s
    | .ae k => if base = 0x48 then s.engCtrl r k (f 2 0) else s
    | .pe =>
      if base = 0xA00 then s.dwCommand (doorOf i) (f 3 0) (f 4 4 == 1)
      else if base = 0xC00 then s.platCmd (f 35 32) (f 31 0)
      else s
    | .adc u => if base = 0x48 then s.doIf (f 3 0 == 1) (fun s => s.adcZero u) else s
    | .si j => if j = 0 ∧ base = 0x40 then s.siCommand (f 3 0) else s
    | .fiob b =>
      if base = 0x48 then s.bankCommand b (f 3 0)
      else if base = 0x58 then s.put p FIOB.OUT.OUT (s.get p FIOB.OUT.OUT ||| f 31 0)
      else if base = 0x60 then s.put p FIOB.OUT.OUT (s.get p FIOB.OUT.OUT - (s.get p FIOB.OUT.OUT &&& f 31 0))
      else s
    | .recorder j =>
      if j = 0 ∧ base = 0x58 then s.recCommand (f 1 0)
      else if j = 3 ∧ base = 0x48 then s.doIf (f 0 0 == 1) (fun s => s.baonMeas)
      else s
    | .can c =>
      if base = 0x60 then s.doIf (f 0 0 == 1) (fun s => s.canRecover c)
      else if base = 0x88 then s.canTxCmd c (f 7 0) (f 15 8)
      else if base = 0xD8 then s.canSlpCmd c (f 1 0)
      else s
    | .dbg =>
      if base = 0x40 then
        let s := s.haltUpdate
        if f 31 30 = 1 then s.assertReset .dbg 1 else if f 31 30 = 2 then s.assertReset .dbg 2 else s
      else s
    | .clk | .evt | .ec | .eth _ | .ptp => s

/-! ### Writes to a page -/

/-- PAGE_CTRL (R36, R37, R41, R459). -/
def State.ctrlWrite (s : State) (r : Req) (sec : Bool) (p : Pg) (freeze srst en : Bool) : State :=
  let lock := s.flag p HDR.LOCK.LOCK
  if srst && !lock then s.softReset p freeze en
  else
    let dp := match p with
      | .dp _ => true
      | _ => false
    let enTakes := p != .arb && (!lock || (dp && !en && (sec || r == .pe)))
    (s.setFreeze p freeze).doIf enTakes (fun s => s.setEn p en)

/-- A write to a register that the page's world lets through, outside soft reset (R11-R14). -/
def State.regWrite (s : State) (r : Req) (sec : Bool) (p : Pg) (off : Nat) (d : RegD) (i : Nat) (w : Word) : State :=
  let addr := slotAddr p off
  let denyOnce := fun (s : State) => s.doIf (d.secureFields && !sec) (fun s => s.secDeny r false addr true)
  if s.seqShut p d.off then s.fire p 12
  else if s.recShut p then s.fire (.recorder 0) 12
  else if s.carriesBad p d i w then denyOnce (s.regReject r addr)
  else
    let s := denyOnce s
    if off = 0x08 then s.ctrlWrite r sec p (fld w 2 2 == 1) (fld w 1 1 == 1) (fld w 0 0 == 1)
    else if off = 0x28 then s.eventAck p (fld w 31 0)
    else if off = 0x30 then
      (if sec && !pgWorldFixed p && !s.flag p HDR.LOCK.LOCK then s.put p HDR.WORLD.WORLD (fld w 1 0) else s)
    else if off = 0x38 then s.put p HDR.LOCK.LOCK (if s.flag p HDR.LOCK.LOCK then 1 else fld w 0 0)
    else
      let old := s.word p off
      let base := s.baseWord p off
      let new := s.afterWrite p d i sec base w
      let s := match s.screen p d.off off base new with
        | (_, some v, s) => (s.setWord p off v).written p d.off off i old
        | (_, none, s) => s
      let s := s.doIf (off == 0x20) (fun s => s.irqUpdate)
      s.commanded r sec p d.off off i w

/-- A write to a slot of a page: worlds first (R44), then soft reset (R37), then unassigned slots (R30), then the register. Any write
to SEC that its world lets through closes an open unlock window (R49). -/
def State.pageWrite (s : State) (r : Req) (p : Pg) (off : Nat) (w : Word) : State :=
  let addr := slotAddr p off
  let sec := s.secure r
  if !worldAllows (s.get p HDR.WORLD.WORLD) sec true then s.secDeny r false addr true
  else
    let s := if p = .sec ∧ off ≠ 0x50 then { s with unlockWin := none } else s
    if s.softResetting p then s
    else match pgReg p off with
      | none => s.unassigned r addr true
      | some (d, i) => s.regWrite r sec p off d i w

/-- The word a read of a register gives: TIME's snapshots (R408), the read windows of rings and log (R375, R391, R424), held
words under FREEZE (R36) with OCC of a queue live (R85), else the word as it stands. -/
def State.regRead (s : State) (r : Req) (p : Pg) (off : Nat) (d : RegD) : Word × State :=
  let live := s.liveWord p off
  let held := (s.frozen.find (slotAddr p off)).getD live
  let held := if (statQueue p off).isSome then setFld held 24 20 (fld live 24 20) else held
  let plain := (if d.stat && s.flag p HDR.CTRL.FREEZE then held else live, s)
  match p with
  | .time => if inRange off 0x40 0x58 then s.timeRead r off else plain
  | .evt => if off = 0x60 then s.logRead else plain
  | .recorder j => if j = 0 ∧ off = 0x80 then s.recRead else plain
  | .can c => if off = 0x80 then s.canRead c else plain
  | _ => plain

/-- A read of a slot of a page (R30, R44). -/
def State.pageRead (s : State) (r : Req) (p : Pg) (off : Nat) : Word × State :=
  let addr := slotAddr p off
  if !worldAllows (s.get p HDR.WORLD.WORLD) (s.secure r) false then (0, s.secDeny r false addr false)
  else match pgReg p off with
    | none => (0, s.unassigned r addr false)
    | some (d, _) => s.regRead r p off d

/-! ### Engine windows and the parameter region (R29, R196, R197) -/

/-- What lies at a slot of the host map. -/
inductive Place where
  | page (p : Pg) (off : Nat)
  | ram (e : Fin 13) (space idx : Nat)
  | par (w : Nat)
  | nothing
deriving DecidableEq, Repr

/-- The RAM at an offset of an engine's window: program 0, X 1, Y 2, with its word (R29, R194). -/
def windowAt (e : Fin 13) (o : Nat) : Place :=
  let pe := e == 12
  let (pw, xb, yb, dw) := if pe then (0x10000, 0x80000, 0xC0000, 0x8000) else (0x4000, 0x20000, 0x30000, 0x2000)
  if o < 8 * pw then .ram e 0 (o / 8)
  else if xb ≤ o ∧ o < xb + 8 * dw then .ram e 1 ((o - xb) / 8)
  else if yb ≤ o ∧ o < yb + 8 * dw then .ram e 2 ((o - yb) / 8)
  else .nothing

/-- The place of a slot's byte address (R29). -/
def placeOf (a : Nat) : Place :=
  let a := a / 8 * 8
  if a < 0x100000 then
    match pgOfNum (a / 0x1000) with
    | some p => .page p (a % 0x1000)
    | none => .nothing
  else if h : 0x1000000 ≤ a ∧ a < 0x1300000 then windowAt ⟨(a - 0x1000000) / 0x40000, by omega⟩ ((a - 0x1000000) % 0x40000)
  else if 0x1300000 ≤ a ∧ a < 0x1400000 then windowAt 12 (a - 0x1300000)
  else if 0x1400000 ≤ a ∧ a < 0x1600000 then .par ((a - 0x1400000) / 8)
  else .nothing

/-- The word of an engine's RAM. -/
def State.ramGet (s : State) (e : Fin 13) (space idx : Nat) : Word :=
  let m := match space with
    | 0 => s.engs[e].pmem
    | 1 => s.engs[e].xmem
    | _ => s.engs[e].ymem
  (m.find idx).getD (Config.ramWord s.epoch e.val space idx)

/-- Put a word into an engine's RAM. -/
def State.ramPut (s : State) (e : Fin 13) (space idx : Nat) (w : Word) : State :=
  s.updEng e (fun x => match space with
    | 0 => { x with pmem := x.pmem.put idx w }
    | 1 => { x with xmem := x.xmem.put idx w }
    | _ => { x with ymem := x.ymem.put idx w })

/-- The buffered stores of an engine retire, oldest first (R204, R205). -/
def State.retireAll (s : State) (e : Fin 13) : State :=
  let l := s.engs[e].sbuf
  let s := s.updEng e (fun x => { x with sbuf := [] })
  l.foldl (fun s b => (b.words.zipIdx).foldl (fun s x => s.ramPut e (if b.ybus then 2 else 1) (b.addr + x.2) x.1) s) s

/-- Whether an engine's window word is secure: PE's program words at or above PSEC (R197). -/
def State.ramSecure (s : State) (e : Fin 13) (space idx : Nat) : Bool :=
  e == peIx && space == 0 && decide (s.get .pe PE.PE_PART.PSEC ≤ idx)

/-- A write through an engine window (R196, R197). -/
def State.ramWrite (s : State) (r : Req) (e : Fin 13) (space idx addr : Nat) (w : Word) : State :=
  let p := engPg e
  let world := if s.ramSecure e space idx then 1 else s.get p HDR.WORLD.WORLD
  if !worldAllows world (s.secure r) true || !worldAllows (s.get p HDR.WORLD.WORLD) (s.secure r) true then s.secDeny r false addr true
  else if e ≠ peIx ∧ space = 0 ∧ s.get p AE.ENG_STAT.STATE ≠ 0 then s.fire p 4
  else (s.retireAll e).ramPut e space idx w

/-- A read through an engine window (R196, R197). -/
def State.ramRead (s : State) (r : Req) (e : Fin 13) (space idx addr : Nat) : Word × State :=
  let p := engPg e
  let world := if s.ramSecure e space idx then 1 else s.get p HDR.WORLD.WORLD
  if !worldAllows world (s.secure r) false || !worldAllows (s.get p HDR.WORLD.WORLD) (s.secure r) false then (0, s.secDeny r false addr false)
  else
    let s := s.retireAll e
    (s.ramGet e space idx, s)

/-- A write of a whole word at a slot. -/
def State.slotWrite (s : State) (r : Req) (addr : Nat) (w : Word) : State :=
  match placeOf addr with
  | .page p off => s.pageWrite r p off w
  | .ram e space idx => s.ramWrite r e space idx (addr / 8 * 8) w
  | .par a => (s.xferWrite r (s.secure r) a w).2
  | .nothing => s.unassigned r addr true

/-- A read of a whole word at a slot. -/
def State.slotRead (s : State) (r : Req) (addr : Nat) : Word × State :=
  match placeOf addr with
  | .page p off => s.pageRead r p off
  | .ram e space idx => s.ramRead r e space idx (addr / 8 * 8)
  | .par a => s.xferRead r (s.secure r) a
  | .nothing => (0, s.unassigned r addr false)

/-! ### The host requesters (R31-R34, R64, R426, R431) -/

/-- Whether a requester is there: BAR2 with its fuse (R29); none before the management plane's release (R64). -/
def State.present (s : State) (r : Req) : Bool := s.rst.mgmtRel && (r != .bar2 || Config.bar2Fuse)

/-- Whether a place must wait for the store or the engines (R64). -/
def State.mustHold (s : State) (addr : Nat) : Bool :=
  match placeOf addr with
  | .ram _ _ _ => !s.rst.engRel
  | .par _ => !s.rst.storeRdy
  | .page _ _ => false
  | .nothing => false

/-- A host requester's port. -/
def State.port (s : State) : Req → HostPort
  | .bar2 => s.bar2
  | .spi => s.spi
  | _ => s.bar0

/-- Change a host requester's port; other requesters have none. -/
def State.updPort (s : State) (r : Req) (f : HostPort → HostPort) : State :=
  match r with
  | .bar0 => { s with bar0 := f s.bar0 }
  | .bar2 => { s with bar2 := f s.bar2 }
  | .spi => { s with spi := f s.spi }
  | _ => s

/-- Bits of a number, the least significant first, as they leave a shift register. -/
def bitsOut (n v : Nat) : List Bool := (List.range n).map (fun i => bit v i)

/-- The bytes of a slot as the SPI port sends them, most significant first (R32, R431). -/
def slotBytes (v : BitVec 64) : List (BitVec 8) := ([7, 6, 5, 4, 3, 2, 1, 0] : List Nat).map (fun k => BitVec.ofNat 8 (v.toNat >>> (8 * k)))

/-- Data of a read returns to a requester: on MISO behind 0xA5 (R431), through JTAG, or as read data. -/
def State.answer (s : State) (r : Req) (v : BitVec 64) : State :=
  match r with
  | .spi => (s.updHost (fun h => { h with spiOut := (if h.spiOut.isEmpty then [0xA5] else h.spiOut) ++ slotBytes v })).updPort r
      (fun p => { p with rdata := p.rdata ++ [v] })
  | .jtag => s.updHost (fun h => { h with jtagOut := bitsOut 36 v.toNat })
  | _ => s.updPort r (fun p => { p with rdata := p.rdata ++ [v] })

/-- Whether a requester has an access held; later ones of its keep their place behind it. -/
def State.holds (s : State) (r : Req) : Bool := s.held.any (fun h => h.req == r)

/-- Hold an access (R64). -/
def State.hold (s : State) (r : Req) (addr : Nat) (wr : Bool) (v : BitVec 64) (half : Option Bool) : State :=
  { s with held := s.held ++ [{ req := r, addr := addr, wr := wr, data := v, half := half }] }

/-- The high half of a word as a 32-bit read gives it: bits 35:32, bit 35 copied upward (R34). -/
def highHalf (w : Word) : BitVec 64 := BitVec.ofNat 64 ((wide w).toNat >>> 32)

/-- A 64-bit write: bits 63:36 are ignored (R32). One that must wait is held (R64). -/
def State.write64 (s : State) (r : Req) (addr : Nat) (v : BitVec 64) : State :=
  if s.mustHold addr || s.holds r then s.hold r addr true v none else s.slotWrite r addr (v.setWidth 36)

/-- A read of a whole word, or of a half with its snapshot (R32, R34), of a slot that is ready. -/
def State.readNow (s : State) (r : Req) (addr : Nat) (half : Option Bool) : State :=
  match half with
  | none =>
    let (w, s) := s.slotRead r addr
    s.answer r (wide w)
  | some false =>
    let (w, s) := s.slotRead r addr
    (s.updPort r (fun p => { p with snap := some (addr / 8, w) })).answer r (BitVec.ofNat 64 (w.toNat % 2 ^ 32))
  | some true =>
    match (s.port r).snap.filter (fun x => x.1 == addr / 8) with
    | some x => s.answer r (highHalf x.2)
    | none =>
      let (w, s) := s.slotRead r addr
      s.answer r (highHalf w)

/-- A read; one that must wait is held (R64). -/
def State.readAt (s : State) (r : Req) (addr : Nat) (half : Option Bool) : State :=
  if s.mustHold addr || s.holds r then s.hold r addr false 0 half else s.readNow r addr half

/-- A 32-bit write at +0 (R33): into the latch, unless the slot lies outside the map or is unassigned (R30). -/
def State.writeLow (s : State) (r : Req) (addr : Nat) (v : BitVec 32) : State :=
  let keep := s.updPort r (fun p => { p with latch := some (addr / 8, v) })
  match placeOf addr with
  | .nothing => s.unassigned r addr true
  | .page p off =>
    if worldAllows (s.get p HDR.WORLD.WORLD) (s.secure r) true && (pgReg p off).isNone && !s.softResetting p then s.unassigned r addr true
    else keep
  | .ram _ _ _ | .par _ => keep

/-- A 32-bit write at +4 (R33): commits the word of the recorded slot, else SPLIT_ORPHAN. ADDR_UNASSIGNED does not fire again
for this half (DESIGN CHOICE, log 22). -/
def State.writeHigh (s : State) (r : Req) (addr : Nat) (v : BitVec 32) : State :=
  match (s.port r).latch with
  | some (slot, lo) =>
    if slot = addr / 8 then
      (s.updPort r (fun p => { p with latch := none })).write64 r (addr / 8 * 8) (BitVec.ofNat 64 ((v.toNat % 16) <<< 32 ||| lo.toNat))
    else s.splitOrphan r addr
  | none => s.splitOrphan r addr

/-- The dwords of a PCI Express request from an address on, slot by slot in ascending order: a whole aligned slot as a 64-bit
access, a lone half as a 32-bit one (R31). -/
def State.pcieWrite (s : State) (r : Req) : Nat → List (BitVec 32) → State
  | _, [] => s
  | a, [v] => if a % 8 = 4 then s.writeHigh r a v else s.writeLow r a v
  | a, v :: w :: l =>
    if a % 8 = 4 then State.pcieWrite (s.writeHigh r a v) r (a + 4) (w :: l)
    else State.pcieWrite (s.write64 r a (BitVec.ofNat 64 (w.toNat <<< 32 ||| v.toNat))) r (a + 8) l

/-- The same for a read of `n` dwords. -/
def State.pcieRead (s : State) (r : Req) : Nat → Nat → State
  | _, 0 => s
  | a, 1 => s.readAt r a (some (a % 8 == 4))
  | a, n + 2 =>
    if a % 8 = 4 then State.pcieRead (s.readAt r a (some true)) r (a + 4) (n + 1)
    else State.pcieRead (s.readAt r a none) r (a + 8) n

/-- The accesses held whose target is ready are completed in order (R64). -/
def State.heldRun (s : State) : List HeldAcc → State
  | [] => s
  | h :: l =>
    let t := if s.mustHold h.addr then { s with held := s.held ++ [h] }
      else if h.wr then s.slotWrite h.req h.addr (h.data.setWidth 36)
      else s.readNow h.req h.addr h.half
    State.heldRun t l

/-- What an engine may reach in the register map: an axis engine its own pages, PE everything but the engine windows (R195). -/
def engReach (e : Fin 13) (addr : Nat) : Bool :=
  match placeOf addr with
  | .page p _ =>
    if h : e.val < 12 then
      let k : Fin 12 := ⟨e.val, h⟩
      match p with
      | .time => true
      | .ae j => j == k
      | .ax n | .fb n | .dp n => aeOf n == k
      | .adc u => u.val == k.val / 2
      | _ => false
    else true
  | .ram _ _ _ => false
  | .par _ => decide (12 ≤ e.val)
  | .nothing => false

/-- A whole-word write by any requester: the host's ways hold it where they must; an engine that reaches beyond R195 traps. -/
def State.busWrite (s : State) (r : Req) (addr : Nat) (w : Word) : State :=
  match r with
  | .bar0 | .bar2 | .spi => if s.present r then s.write64 r addr (wide w) else s
  | .ae k => if engReach (engOf k) addr then s.slotWrite r addr w else s.trap (engOf k) 4 s.engs[engOf k].pc
  | .pe => if engReach peIx addr then s.slotWrite r addr w else s.trap peIx 4 s.engs[peIx].pc
  | .si | .dma | .jtag | .block => s.slotWrite r addr w

/-- A whole-word read by any requester. -/
def State.busRead (s : State) (r : Req) (addr : Nat) : State :=
  match r with
  | .bar0 | .bar2 | .spi => if s.present r then s.readAt r addr none else s
  | .ae k => if engReach (engOf k) addr then (s.slotRead r addr).2 else s.trap (engOf k) 4 s.engs[engOf k].pc
  | .pe => if engReach peIx addr then (s.slotRead r addr).2 else s.trap peIx 4 s.engs[peIx].pc
  | .si | .dma | .jtag | .block => (s.slotRead r addr).2

/-- An access narrower than 32 bits or not aligned to 4 bytes is treated as one outside the map (R30). -/
def State.narrow (s : State) (r : Req) (addr : Nat) (wr : Bool) : State :=
  let s := s.unassigned r addr wr
  if wr then s else s.answer r 0

end Sys2Proof.Machine
end

