-- ==== Sys2Proof/Machine/Commands.lean ====
section
/-! DEFINITION. The commands that a requester gives by an access of the register map: each is the access it stands for. -/

namespace Sys2Proof.Machine

/-! ### Accesses (R11, R31-R34, R196) -/

/-- REGISTER_WRITE (R11, R32). -/
def execRegisterWrite (r : Req) (addr : Nat) (data : BitVec 64) (s : State) : Out :=
  .next (s.busWrite r addr (data.setWidth 36))

/-- PCIE_MEMORY_REQUEST (R30, R31): `data` holds the dwords of a write; its length is that of a read. -/
def execPcieMemoryRequest (r : Req) (addr : Nat) (wr narrow : Bool) (data : List (BitVec 32)) (s : State) : Out :=
  if (r != .bar0 && r != .bar2) || !s.present r then .next s
  else if narrow || addr % 4 != 0 then .next (s.narrow r addr wr)
  else .next (if wr then s.pcieWrite r addr data else s.pcieRead r addr data.length)

/-- Whether a requester has a staging latch and a snapshot, and is there (R33, R34, R35). -/
def State.splits (s : State) (r : Req) : Bool := (r == .bar0 || r == .bar2 || r == .spi) && s.present r

/-- WRITE_32_LOW (R33). -/
def execWrite32Low (r : Req) (addr : Nat) (data : BitVec 32) (s : State) : Out :=
  .next (if s.splits r then s.writeLow r addr data else s)

/-- WRITE_32_HIGH (R33). -/
def execWrite32High (r : Req) (addr : Nat) (data : BitVec 32) (s : State) : Out :=
  .next (if s.splits r then s.writeHigh r addr data else s)

/-- READ_32_LOW (R34). -/
def execRead32Low (r : Req) (addr : Nat) (s : State) : Out := .next (if s.splits r then s.readAt r addr (some false) else s)

/-- READ_32_HIGH (R34). -/
def execRead32High (r : Req) (addr : Nat) (s : State) : Out := .next (if s.splits r then s.readAt r addr (some true) else s)

/-- ENGINE_WINDOW_ACCESS (R196, R197). -/
def execEngineWindowAccess (r : Req) (addr : Nat) (wr : Bool) (w : Word) (s : State) : Out :=
  .next (if wr then s.busWrite r addr w else s.busRead r addr)

/-! ### The page header (R36, R37, R41, R42) -/

/-- A word of PAGE_CTRL. -/
def ctrlWord (freeze srst en : Bool) : Word := BitVec.ofNat 36 (b2n freeze <<< 2 ||| b2n srst <<< 1 ||| b2n en)

/-- SOFT_RESET (R37). -/
def execSoftReset (r : Req) (p : Pg) (freeze en : Bool) (s : State) : Out :=
  .next (s.busWrite r (slotAddr p 0x08) (ctrlWord freeze true en))

/-- PAGE_EN_WRITE, FREEZE as it stands (R36, R41). -/
def execPageEnWrite (r : Req) (p : Pg) (en : Bool) (s : State) : Out :=
  .next (s.busWrite r (slotAddr p 0x08) (ctrlWord (s.flag p HDR.CTRL.FREEZE) false en))

/-- EVENT_ACK (R36, R42). -/
def execEventAck (r : Req) (p : Pg) (bits : BitVec 32) (s : State) : Out :=
  .next (s.busWrite r (slotAddr p 0x28) (bits.setWidth 36))

/-! ### SEC (R49, R50) -/

/-- UNLOCK_KEY1 (R49). -/
def execUnlockKey1 (r : Req) (s : State) : Out := .next (s.busWrite r (slotAddr .sec 0x50) 0x5EC0A11)

/-- UNLOCK_KEY2 (R49). -/
def execUnlockKey2 (r : Req) (s : State) : Out := .next (s.busWrite r (slotAddr .sec 0x50) 0xA1105EC)

/-- UNLOCK_OTHER_VALUE (R50). -/
def execUnlockOtherValue (r : Req) (w : Word) (s : State) : Out := .next (s.busWrite r (slotAddr .sec 0x50) w)

/-- UNLOCK_WINDOW_EXPIRY (R49): 1,000 ticks have passed; no event. -/
def execUnlockWindowExpiry (s : State) : Out := .next { s with unlockWin := none }

/-! ### RST (R58, R62) -/

/-- WDT_KICK of MGMT (R62). -/
def execWdtKickMgmt (r : Req) (s : State) : Out := .next (s.busWrite r (slotAddr .rst 0x70) 4)

/-- WDT_KICK of DATA (R62). -/
def execWdtKickData (r : Req) (s : State) : Out := .next (s.busWrite r (slotAddr .rst 0x70) 2)

/-- WDT_KICK of CTRL (R62). -/
def execWdtKickCtrl (r : Req) (s : State) : Out := .next (s.busWrite r (slotAddr .rst 0x70) 1)

/-- SOFTWARE_WARM_RESET (R58). -/
def execSoftwareWarmReset (r : Req) (s : State) : Out := .next (s.busWrite r (slotAddr .rst 0x48) 0xA5C1)

/-- SOFTWARE_COLD_RESET (R58). -/
def execSoftwareColdReset (r : Req) (s : State) : Out := .next (s.busWrite r (slotAddr .rst 0x48) 0xA5C2)

/-! ### AX pages (R85, R87, R88, R107-R114, R123, R127-R131, R142, R143, R166, R168, R174) -/

/-- AX_CFG_WRITE (R87). -/
def execAxCfgWrite (r : Req) (n : Fin 48) (w : Word) (s : State) : Out := .next (s.busWrite r (slotAddr (.ax n) 0x40) w)

/-- AXIS_ACK (R88). -/
def execAxisAck (r : Req) (n : Fin 48) (s : State) : Out := .next (s.busWrite r (slotAddr (.ax n) 0x48) 0x800000000)

/-- QUEUE_STAT_CLR (R85). -/
def execQueueStatClr (r : Req) (q : QId) (s : State) : Out :=
  .next (s.busWrite r (slotAddr (qStatReg q).1 (qStatReg q).2) 0x800000000)

/-- MOVE_START (R108, R109). -/
def execMoveStart (r : Req) (n : Fin 48) (table : Nat) (s : State) : Out :=
  .next (s.busWrite r (slotAddr (.ax n) 0x60) (BitVec.ofNat 36 ((table % 1024) <<< 16 ||| 1)))

/-- MOVE_APPEND (R108, R109). -/
def execMoveAppend (r : Req) (n : Fin 48) (table : Nat) (s : State) : Out :=
  .next (s.busWrite r (slotAddr (.ax n) 0x60) (BitVec.ofNat 36 ((table % 1024) <<< 16 ||| 2)))

/-- MOVE_REPLACE (R108, R109). -/
def execMoveReplace (r : Req) (n : Fin 48) (table : Nat) (s : State) : Out :=
  .next (s.busWrite r (slotAddr (.ax n) 0x60) (BitVec.ofNat 36 ((table % 1024) <<< 16 ||| 3)))

/-- RAMP_STOP (R112). -/
def execRampStop (r : Req) (n : Fin 48) (s : State) : Out := .next (s.busWrite r (slotAddr (.ax n) 0x60) 4)

/-- HARD_STOP (R114). -/
def execHardStop (r : Req) (n : Fin 48) (s : State) : Out := .next (s.busWrite r (slotAddr (.ax n) 0x60) 5)

/-- MOVE_CLEAR (R109). -/
def execMoveClear (r : Req) (n : Fin 48) (s : State) : Out := .next (s.busWrite r (slotAddr (.ax n) 0x60) 6)

/-- SEGMENT_PUSH (R107). -/
def execSegmentPush (r : Req) (n : Fin 48) (w3 : Word) (s : State) : Out := .next (s.busWrite r (slotAddr (.ax n) 0xA8) w3)

/-- PROF_CFG_WRITE (R123). -/
def execProfCfgWrite (r : Req) (n : Fin 48) (w : Word) (s : State) : Out := .next (s.busWrite r (slotAddr (.ax n) 0x70) w)

/-- GEAR_ENGAGE (R130). -/
def execGearEngage (r : Req) (n : Fin 48) (s : State) : Out := .next (s.busWrite r (slotAddr (.ax n) 0x108) 1)

/-- GEAR_DISENGAGE (R131). -/
def execGearDisengage (r : Req) (n : Fin 48) (s : State) : Out := .next (s.busWrite r (slotAddr (.ax n) 0x108) 2)

/-- GEAR_CONFIG_WRITE (R127). -/
def execGearConfigWrite (r : Req) (n : Fin 48) (off : Nat) (w : Word) (s : State) : Out :=
  .next (s.busWrite r (slotAddr (.ax n) off) w)

/-- GOV_CONFIG_WRITE (R143). -/
def execGovConfigWrite (r : Req) (n : Fin 48) (off : Nat) (w : Word) (s : State) : Out :=
  .next (s.busWrite r (slotAddr (.ax n) off) w)

/-- LOOP_PARAM_WRITE (R168). -/
def execLoopParamWrite (r : Req) (n : Fin 48) (off : Nat) (w : Word) (s : State) : Out :=
  .next (s.busWrite r (slotAddr (.ax n) off) w)

/-- MODEL_PUBLISH (R142). -/
def execModelPublish (r : Req) (n : Fin 48) (s : State) : Out := .next (s.busWrite r (slotAddr (.ax n) 0x1A0) 1)

/-- SOLENOID_ON (R166). -/
def execSolenoidOn (r : Req) (n : Fin 48) (s : State) : Out := .next (s.busWrite r (slotAddr (.ax n) 0x3B8) 1)

/-- SOLENOID_OFF (R166). -/
def execSolenoidOff (r : Req) (n : Fin 48) (s : State) : Out := .next (s.busWrite r (slotAddr (.ax n) 0x3B8) 2)

/-- DICE_START (R174). -/
def execDiceStart (r : Req) (n : Fin 48) (s : State) : Out := .next (s.busWrite r (slotAddr (.ax n) 0x3E8) 1)

/-- DICE_CAPTURE (R174). -/
def execDiceCapture (r : Req) (n : Fin 48) (s : State) : Out := .next (s.busWrite r (slotAddr (.ax n) 0x3E8) 2)

/-- DICE_STOP (R174). -/
def execDiceStop (r : Req) (n : Fin 48) (s : State) : Out := .next (s.busWrite r (slotAddr (.ax n) 0x3E8) 3)

/-! ### PE, AE and OVL pages (R135, R160, R181, R182, R187-R190, R209, R219) -/

/-- VM_ENABLE (R135). -/
def execVmEnable (r : Req) (v : Fin 8) (w : Word) (s : State) : Out :=
  .next (s.busWrite r (slotAddr .pe (0x800 + 0x40 * v.val)) w)

/-- LOOP_RATE_WRITE (R160). -/
def execLoopRateWrite (r : Req) (k : Fin 12) (w : Word) (s : State) : Out := .next (s.busWrite r (slotAddr (.ae k) 0x40) w)

/-- DOOR_OPEN (R182). -/
def execDoorOpen (r : Req) (d : Fin 32) (sync : Bool) (s : State) : Out :=
  .next (s.busWrite r (slotAddr .pe (0xA00 + 8 * d.val)) (BitVec.ofNat 36 (b2n sync <<< 4 ||| 1)))

/-- DOOR_CLOSE (R182). -/
def execDoorClose (r : Req) (d : Fin 32) (s : State) : Out := .next (s.busWrite r (slotAddr .pe (0xA00 + 8 * d.val)) 2)

/-- DOOR_STOP (R182). -/
def execDoorStop (r : Req) (d : Fin 32) (s : State) : Out := .next (s.busWrite r (slotAddr .pe (0xA00 + 8 * d.val)) 3)

/-- DOOR_IN_SERVICE (R182). -/
def execDoorInService (r : Req) (d : Fin 32) (s : State) : Out := .next (s.busWrite r (slotAddr .pe (0xA00 + 8 * d.val)) 4)

/-- DOOR_OUT_OF_SERVICE (R182). -/
def execDoorOutOfService (r : Req) (d : Fin 32) (s : State) : Out :=
  .next (s.busWrite r (slotAddr .pe (0xA00 + 8 * d.val)) 5)

/-- DOOR_ACK_ALARM (R182). -/
def execDoorAckAlarm (r : Req) (d : Fin 32) (s : State) : Out := .next (s.busWrite r (slotAddr .pe (0xA00 + 8 * d.val)) 6)

/-- DOOR_RELOAD (R182). -/
def execDoorReload (r : Req) (d : Fin 32) (s : State) : Out := .next (s.busWrite r (slotAddr .pe (0xA00 + 8 * d.val)) 7)

/-- DOOR_RESET_BASE (R182). -/
def execDoorResetBase (r : Req) (d : Fin 32) (s : State) : Out := .next (s.busWrite r (slotAddr .pe (0xA00 + 8 * d.val)) 8)

/-- PLATFORM_COMMAND (R181). -/
def execPlatformCommand (r : Req) (op : Nat) (dmask : BitVec 32) (s : State) : Out :=
  .next (s.busWrite r (slotAddr .pe 0xC00) (BitVec.ofNat 36 ((op % 16) <<< 32 ||| dmask.toNat)))

/-- OVERLAY_LOAD (R187). -/
def execOverlayLoad (r : Req) (slot : Fin 16) (src : Nat) (s : State) : Out :=
  .next (s.busWrite r (slotAddr .ovl 0x40) (BitVec.ofNat 36 (1 <<< 32 ||| slot.val <<< 28 ||| src % 2 ^ 18)))

/-- OVERLAY_ERASE (R187). -/
def execOverlayErase (r : Req) (slot : Fin 16) (s : State) : Out :=
  .next (s.busWrite r (slotAddr .ovl 0x40) (BitVec.ofNat 36 (2 <<< 32 ||| slot.val <<< 28)))

/-- BASE_LOAD (R187, R188). -/
def execBaseLoad (r : Req) (s : State) : Out := .next (s.busWrite r (slotAddr .ovl 0x50) 1)

/-- OVERLAY_SWITCH_REQUEST (R190). -/
def execOverlaySwitchRequest (r : Req) (w : Word) (s : State) : Out := .next (s.busWrite r (slotAddr .ovl 0x60) w)

/-- ENGINE_START (R219). -/
def execEngineStart (r : Req) (k : Fin 12) (s : State) : Out := .next (s.busWrite r (slotAddr (.ae k) 0x48) 1)

/-- ENGINE_HALT (R219). -/
def execEngineHalt (r : Req) (k : Fin 12) (s : State) : Out := .next (s.busWrite r (slotAddr (.ae k) 0x48) 2)

/-- ENGINE_RESET (R219). -/
def execEngineReset (r : Req) (k : Fin 12) (s : State) : Out := .next (s.busWrite r (slotAddr (.ae k) 0x48) 3)

/-- TASK_TABLE_WRITE (R209). -/
def execTaskTableWrite (r : Req) (e : Fin 13) (off : Nat) (w : Word) (s : State) : Out :=
  .next (s.busWrite r (slotAddr (engPg e) off) w)

/-! ### DP, FB, EC and ADC pages (R262, R274, R279, R284-R288, R297) -/

/-- REARM (R262). -/
def execRearm (r : Req) (n : Fin 48) (s : State) : Out := .next (s.busWrite r (slotAddr (.dp n) 0x58) 1)

/-- SETPOS (R274). -/
def execSetpos (r : Req) (n : Fin 48) (s : State) : Out := .next (s.busWrite r (slotAddr (.fb n) 0x58) 1)

/-- LATCH (R279): by FB_CMD, or by the field channel that LAT_CFG selects. -/
def execLatch (r : Req) (n : Fin 48) (byChannel : Bool) (s : State) : Out :=
  .next (if byChannel then s.fbChannelLatch n else s.busWrite r (slotAddr (.fb n) 0x58) 2)

/-- SEQ_RUN (R284). -/
def execSeqRun (r : Req) (n : Fin 48) (s : State) : Out := .next (s.busWrite r (slotAddr (.fb n) 0x58) 3)

/-- SEQ_HALT (R284). -/
def execSeqHalt (r : Req) (n : Fin 48) (s : State) : Out := .next (s.busWrite r (slotAddr (.fb n) 0x58) 4)

/-- SEQ_ABORT (R284). -/
def execSeqAbort (r : Req) (n : Fin 48) (s : State) : Out := .next (s.busWrite r (slotAddr (.fb n) 0x58) 5)

/-- FB_COUNTER_CLR (R288). -/
def execFbCounterClr (r : Req) (n : Fin 48) (s : State) : Out := .next (s.busWrite r (slotAddr (.fb n) 0x58) 6)

/-- SEQ_PROGRAM_WRITE (R285). -/
def execSeqProgramWrite (r : Req) (n : Fin 48) (off : Nat) (w : Word) (s : State) : Out :=
  .next (s.busWrite r (slotAddr (.fb n) off) w)

/-- FB_CFG_WRITE (R286). -/
def execFbCfgWrite (r : Req) (n : Fin 48) (w : Word) (s : State) : Out := .next (s.busWrite r (slotAddr (.fb n) 0x40) w)

/-- ECHO_CFG_WRITE (R287). -/
def execEchoCfgWrite (r : Req) (i : Fin 12) (w : Word) (s : State) : Out :=
  .next (s.busWrite r (slotAddr .ec (0x40 + 8 * i.val)) w)

/-- ADC_ZERO (R297). -/
def execAdcZero (r : Req) (u : Fin 6) (s : State) : Out := .next (s.busWrite r (slotAddr (.adc u) 0x48) 1)

/-! ### The island, the field banks, ARB (R312, R325, R338-R344, R357, R359) -/

/-- SAFETY_ARM (R312). -/
def execSafetyArm (r : Req) (s : State) : Out := .next (s.busWrite r (slotAddr (.si 0) 0x40) 1)

/-- SAFETY_CLR_OUT (R325). -/
def execSafetyClrOut (r : Req) (s : State) : Out := .next (s.busWrite r (slotAddr (.si 0) 0x40) 2)

/-- KICK (R342). -/
def execKick (r : Req) (b : Fin 4) (s : State) : Out := .next (s.busWrite r (slotAddr (.fiob b) 0x48) 1)

/-- RESUME (R343). -/
def execResume (r : Req) (b : Fin 4) (s : State) : Out := .next (s.busWrite r (slotAddr (.fiob b) 0x48) 2)

/-- BANK_CLR (R338). -/
def execBankClr (r : Req) (b : Fin 4) (s : State) : Out := .next (s.busWrite r (slotAddr (.fiob b) 0x48) 3)

/-- OUT_SET (R344). -/
def execOutSet (r : Req) (b : Fin 4) (bits : BitVec 32) (s : State) : Out :=
  .next (s.busWrite r (slotAddr (.fiob b) 0x58) (bits.setWidth 36))

/-- OUT_CLR (R344). -/
def execOutClr (r : Req) (b : Fin 4) (bits : BitVec 32) (s : State) : Out :=
  .next (s.busWrite r (slotAddr (.fiob b) 0x60) (bits.setWidth 36))

/-- CHANNEL_DIRECTION_CHANGE (R341). -/
def execChannelDirectionChange (r : Req) (b : Fin 4) (i : Fin 32) (w : Word) (s : State) : Out :=
  .next (s.busWrite r (slotAddr (.fiob b) (0x100 + 8 * i.val)) w)

/-- TIMETABLE_COMMIT (R357). -/
def execTimetableCommit (r : Req) (s : State) : Out := .next (s.busWrite r (slotAddr .arb 0x50) 2)

/-- ARB_COUNTER_CLR (R359). -/
def execArbCounterClr (r : Req) (s : State) : Out := .next (s.busWrite r (slotAddr .arb 0x50) 1)

/-! ### The recorder (R372, R375, R377, R380) -/

/-- ARM (R372). -/
def execArm (r : Req) (s : State) : Out := .next (s.busWrite r (slotAddr (.recorder 0) 0x58) 1)

/-- FORCE (R372). -/
def execForce (r : Req) (s : State) : Out := .next (s.busWrite r (slotAddr (.recorder 0) 0x58) 2)

/-- STOP (R372). -/
def execStop (r : Req) (s : State) : Out := .next (s.busWrite r (slotAddr (.recorder 0) 0x58) 3)

/-- REC_READ_DATA (R375). -/
def execRecReadData (r : Req) (s : State) : Out := .next (s.busRead r (slotAddr (.recorder 0) 0x80))

/-- REC_CONFIG_WRITE (R377). -/
def execRecConfigWrite (r : Req) (pg2 : Bool) (off : Nat) (w : Word) (s : State) : Out :=
  .next (s.busWrite r (slotAddr (.recorder (if pg2 then 2 else 1)) off) w)

/-- BAON_MEASURE (R380). -/
def execBaonMeasure (r : Req) (s : State) : Out := .next (s.busWrite r (slotAddr (.recorder 3) 0x48) 1)

/-! ### CAN, Ethernet, time, EVT (R386-R408, R412, R424) -/

/-- CAN_READ_DATA (R391). -/
def execCanReadData (r : Req) (c : Fin 4) (s : State) : Out := .next (s.busRead r (slotAddr (.can c) 0x80))

/-- CAN_MODE_WRITE (R386). -/
def execCanModeWrite (r : Req) (c : Fin 4) (w : Word) (s : State) : Out := .next (s.busWrite r (slotAddr (.can c) 0x58) w)

/-- RECOVER (R387). -/
def execRecover (r : Req) (c : Fin 4) (s : State) : Out := .next (s.busWrite r (slotAddr (.can c) 0x60) 1)

/-- SEND (R392). -/
def execSend (r : Req) (c : Fin 4) (b : Fin 8) (s : State) : Out :=
  .next (s.busWrite r (slotAddr (.can c) 0x88) (BitVec.ofNat 36 (1 <<< b.val)))

/-- ABORT (R394). -/
def execAbort (r : Req) (c : Fin 4) (b : Fin 8) (s : State) : Out :=
  .next (s.busWrite r (slotAddr (.can c) 0x88) (BitVec.ofNat 36 (1 <<< (8 + b.val))))

/-- CAN_SLEEP_CMD (R398). -/
def execCanSleepCmd (r : Req) (c : Fin 4) (s : State) : Out := .next (s.busWrite r (slotAddr (.can c) 0xD8) 1)

/-- CAN_WAKE_CMD (R400). -/
def execCanWakeCmd (r : Req) (c : Fin 4) (s : State) : Out := .next (s.busWrite r (slotAddr (.can c) 0xD8) 2)

/-- TIME_SET (R405, R406). -/
def execTimeSet (r : Req) (s : State) : Out := .next (s.busWrite r (slotAddr .time 0xA0) 1)

/-- TIME_STEP (R405, R406). -/
def execTimeStep (r : Req) (s : State) : Out := .next (s.busWrite r (slotAddr .time 0xA0) 2)

/-- TIME_RATE (R405, R406). -/
def execTimeRate (r : Req) (s : State) : Out := .next (s.busWrite r (slotAddr .time 0xA0) 3)

/-- TIME_STEP_RATE (R405, R406). -/
def execTimeStepRate (r : Req) (s : State) : Out := .next (s.busWrite r (slotAddr .time 0xA0) 4)

/-- TIME_SNAPSHOT_READ (R408). -/
def execTimeSnapshotRead (r : Req) (s : State) : Out := .next (s.busRead r (slotAddr .time 0x40))

/-- ETH_TX_PRODUCE (R412). -/
def execEthTxProduce (r : Req) (p : Fin 2) (prod : Fin 128) (s : State) : Out :=
  .next (s.busWrite r (slotAddr (.eth p) 0x68) (BitVec.ofNat 36 prod.val))

/-- EVENT_LOG_READ (R424). -/
def execEventLogRead (r : Req) (s : State) : Out := .next (s.busRead r (slotAddr .evt 0x60))

/-! ### Host DMA and debug (R58, R428-R430, R435) -/

/-- DMA_CHANNEL_ENABLE: EN beside the fields as they stand (R428). -/
def execDmaChannelEnable (r : Req) (c : Fin 9) (s : State) : Out :=
  .next (s.busWrite r (slotAddr .sys (0x110 + 0x20 * c.val)) (setFld (s.word .sys (0x110 + 0x20 * c.val)) 35 35 1))

/-- GO with COUNT (R430). -/
def execGo (r : Req) (count : Nat) (s : State) : Out :=
  .next (s.busWrite r (slotAddr .sys 0x210) (setFld (setFld (s.word .sys 0x210) 34 34 1) 22 0 count))

/-- A write to DBG_CTRL that changes some bits of the word in force. -/
def State.dbgWrite (s : State) (r : Req) (hi lo v : Nat) : State := s.busWrite r (slotAddr .dbg 0x40) (setFld (s.word .dbg 0x40) hi lo v)

/-- HALT_ALL (R435). -/
def execHaltAll (r : Req) (s : State) : Out := .next (s.dbgWrite r 13 13 1)

/-- HALT_ALL_CLEAR (R435). -/
def execHaltAllClear (r : Req) (s : State) : Out := .next (s.dbgWrite r 13 13 0)

/-- HALT_ENG (R435). -/
def execHaltEng (r : Req) (e : Fin 13) (s : State) : Out := .next (s.dbgWrite r e.val e.val 1)

/-- HALT_ENG_CLEAR (R435). -/
def execHaltEngClear (r : Req) (e : Fin 13) (s : State) : Out := .next (s.dbgWrite r e.val e.val 0)

/-- DEBUG_WARM_RESET (R58). -/
def execDebugWarmReset (r : Req) (s : State) : Out := .next (s.dbgWrite r 31 30 1)

/-- DEBUG_COLD_RESET (R58). -/
def execDebugColdReset (r : Req) (s : State) : Out := .next (s.dbgWrite r 31 30 2)

end Sys2Proof.Machine
end

