-- ==== Sys2Proof/Machine/Operands.lean ====
section
/-! DEFINITION. What an engine instruction reads and writes: registers by name, pointers, program words, the data buses with
their store buffer (R194-R205, R222, R237-R240). -/

namespace Sys2Proof.Machine

/-! ### Registers (R200, R203, R222) -/

/-- Whether an engine is PE. -/
def isPe (e : Fin 13) : Bool := e.val == 12

/-- How many G registers an engine has. -/
def gCount (e : Fin 13) : Nat := if isPe e then 64 else 32

/-- How many accumulators an engine has. -/
def accCount (e : Fin 13) : Nat := if isPe e then 8 else 4

/-- How many entries the loop stack has (R243). -/
def stackSize (e : Fin 13) : Nat := if isPe e then 16 else 8

/-- The engine as a requester (R42). -/
def engReq (e : Fin 13) : Req := if h : e.val < 12 then .ae ⟨e.val, h⟩ else .pe

/-- ROT of an axis engine; PE has no rotation (R200, R203). -/
def State.rot (s : State) (e : Fin 13) : Nat := if h : e.val < 12 then s.get (.ae ⟨e.val, h⟩) AE.ENG_STAT.ROT else 0

/-- Put a value into ROT, modulo 16. -/
def State.setRot (s : State) (e : Fin 13) (v : Nat) : State :=
  if h : e.val < 12 then s.put (.ae ⟨e.val, h⟩) AE.ENG_STAT.ROT (v % 16) else s

/-- The physical register that a name selects (R200). -/
def gPhys (pe : Bool) (rot i : Nat) : Fin 64 :=
  if !pe && decide (16 ≤ i) then ⟨16 + (i + 16 - rot % 16) % 16, by omega⟩ else ⟨i % 64, Nat.mod_lt _ (by decide)⟩

/-- G(i). -/
def State.gGet (s : State) (e : Fin 13) (i : Nat) : Word := s.engs[e].g[gPhys (isPe e) (s.rot e) i]

/-- G(i) := w. -/
def State.gSet (s : State) (e : Fin 13) (i : Nat) (w : Word) : State :=
  s.updEng e (fun x => { x with g := x.g.set (gPhys (isPe e) (s.rot e) i) w })

/-- Write consecutive registers. -/
def State.gSets (s : State) (e : Fin 13) (i : Nat) (l : List Word) : State := (l.zipIdx).foldl (fun s x => s.gSet e (i + x.2) x.1) s

/-- Read consecutive registers. -/
def State.gGets (s : State) (e : Fin 13) (i n : Nat) : List Word := (List.range n).map (fun j => s.gGet e (i + j))

/-- An accumulator's index. -/
def accIx (a : Nat) : Fin 8 := ⟨a % 8, Nat.mod_lt _ (by decide)⟩

/-- A(a). -/
def State.aGet (s : State) (e : Fin 13) (a : Nat) : BitVec 88 := s.engs[e].acc[accIx a]

/-- A(a) := v. -/
def State.aSet (s : State) (e : Fin 13) (a : Nat) (v : BitVec 88) : State :=
  s.updEng e (fun x => { x with acc := x.acc.set (accIx a) v })

/-- An accumulator's value held within ±2^87 (R198, R227). -/
def satAcc (v : Int) : BitVec 88 := BitVec.ofInt 88 (satS 88 v)

/-- Whether a value lies outside a signed range of `n` bits. -/
def overflows (n : Nat) (v : Int) : Bool := satS n v != v

/-- The field of an accumulator that begins at a bit, rounded or not, before saturation to 36 bits (R198, R234). -/
def accField (a : BitVec 88) (lo : Nat) (rnd : Bool) : Int := if rnd then divRound a.toInt (2 ^ lo) else a.toInt / (2 ^ lo : Nat)

/-! ### Pointers (R202, R238) -/

/-- The index of a pointer: P0-P7, Q0-Q7, K0, K1 (R236). -/
def ptrIx (p : Nat) : Fin 18 := ⟨p % 18, Nat.mod_lt _ (by decide)⟩

/-- The address of a pointer. -/
def State.pAddr (s : State) (e : Fin 13) (p : Nat) : Nat := s.engs[e].ptr[ptrIx p].addr.toNat

/-- The low `n` bits of a number in reverse order. -/
def revBits (n v : Nat) : Nat := (List.range n).foldl (fun a i => a * 2 + b2n (bit v i)) 0

/-- The least power of two at or above `m`, `m` at most 4,096. -/
def pow2Above (m : Nat) : Nat := ((List.range 13).map (fun k => 2 ^ k)).find? (fun p => decide (m ≤ p)) |>.getD 4096

/-- A pointer advanced once under its mode (R202). -/
def Ptr.step (p : Ptr) : Ptr :=
  match p.mode with
  | .linear => { p with addr := BitVec.ofInt 24 (p.addr.toNat + p.inc.toInt) }
  | .modulo =>
    let m := p.len.toNat + 1
    let b := pow2Above m
    let a := p.addr.toNat
    { p with addr := BitVec.ofNat 24 (a / b * b + (((a % b : Nat) + p.inc.toInt) % (m : Int)).toNat) }
  | .bitrev =>
    let n := p.len.toNat % 16
    let a := p.addr.toNat
    let inc := (p.inc.toInt % (2 ^ n : Nat)).toNat
    { p with addr := BitVec.ofNat 24 (a / 2 ^ n * 2 ^ n + revBits n ((revBits n a + revBits n inc) % 2 ^ n)) }

/-- Advance a pointer. -/
def State.pStep (s : State) (e : Fin 13) (p : Nat) : State :=
  s.updEng e (fun x => { x with ptr := x.ptr.set (ptrIx p) x.ptr[ptrIx p].step })

/-- Set a pointer's address. -/
def State.pSet (s : State) (e : Fin 13) (p : Nat) (a : BitVec 24) : State :=
  s.updEng e (fun x => { x with ptr := x.ptr.set (ptrIx p) { x.ptr[ptrIx p] with addr := a } })

/-- Set a pointer's mode. -/
def State.pMode (s : State) (e : Fin 13) (p : Nat) (m : PtrMode) (inc : BitVec 11) (len : BitVec 12) : State :=
  s.updEng e (fun x => { x with ptr := x.ptr.set (ptrIx p) { x.ptr[ptrIx p] with mode := m, inc := inc, len := len } })

/-! ### Program memory (R194, R199, R208) -/

/-- Whether a program address lies in program RAM. -/
def progRam (e : Fin 13) (a : Nat) : Bool := decide (a < if isPe e then 0x10000 else 0x4000)

/-- Whether a program address lies in kernel ROM. -/
def progRom (e : Fin 13) (a : Nat) : Bool :=
  if isPe e then decide (0x10000 ≤ a ∧ a < 0x14000) else decide (0x8000 ≤ a ∧ a < 0xA000)

/-- Whether a program address is implemented. -/
def progOk (e : Fin 13) (a : Nat) : Bool := progRam e a || progRom e a

/-- A word of program memory. -/
def State.progWord (s : State) (e : Fin 13) (a : Nat) : Word :=
  if progRam e a then s.ramGet e 0 a else Config.romWord (isPe e) a

/-- The innermost loop's body, where it fits the repeat cache and holds an address (R199). -/
def State.cached (s : State) (e : Fin 13) (a : Nat) : Bool :=
  match s.engs[e].stack with
  | .loop first last _ _ :: _ => decide (first ≤ a ∧ a ≤ last ∧ last < first + 16)
  | _ => false

/-- The word that the repeat cache holds for an address (R199). -/
def State.cachedWord (s : State) (e : Fin 13) (a : Nat) : Option Word :=
  if s.cached e a then s.engs[e].cache.find a else none

/-- The instruction word at an address, from the repeat cache where it holds it (R199, R239). -/
def State.fetch (s : State) (e : Fin 13) (a : Nat) : Word :=
  (s.cachedWord e a).getD (s.progWord e a)

/-- The repeat cache takes an instruction word of the innermost loop's body that it does not hold yet (R199). -/
def State.cacheFill (s : State) (e : Fin 13) (a : Nat) (w : Word) : State :=
  if s.cached e a && (s.engs[e].cache.find a).isNone then s.updEng e (fun x => { x with cache := x.cache.put a w }) else s

/-- Whether PE code at a program address is secure (R208). -/
def State.codeSecure (s : State) (a : Nat) : Bool := decide (min (s.get .pe PE.PE_PART.PSEC) 0x10000 ≤ a)

/-- Whether control may not pass from one program address of PE to another (R208). -/
def State.gateShut (s : State) (e : Fin 13) (from_ dest : Nat) : Bool :=
  isPe e && !s.codeSecure from_ && s.codeSecure dest && !(progRom e dest && Config.romGate dest)

/-! ### The data buses (R194, R195, R204, R205, R208) -/

/-- What lies at a data address of an engine. -/
inductive DataAt where
  | ram (a : Nat)
  | par (w : Nat)
  | slot (addr : Nat)
  | nothing
deriving DecidableEq, Repr

/-- The place of a data address (R194): the bus's RAM, on X the parameter region, on Y the register map. -/
def dataAt (e : Fin 13) (ybus : Bool) (a : Nat) : DataAt :=
  if a < (if isPe e then 0x8000 else 0x2000) then .ram a
  else if !ybus && decide (0x40000 ≤ a ∧ a < 0x80000) then .par (a - 0x40000)
  else if ybus && decide (0x400000 ≤ a) then .slot (8 * (a - 0x400000))
  else .nothing

/-- The cause with which an access to a data address traps, if it does (R195, R208, R214). -/
def State.dataTrap (s : State) (e : Fin 13) (ybus : Bool) (a : Nat) : Option Nat :=
  match dataAt e ybus a with
  | .ram w => if isPe e && !s.codeSecure s.engs[e].pc && decide (s.get .pe PE.PE_PART.DSEC ≤ w) then some 7 else none
  | .par _ => none
  | .slot addr => if engReach e addr then none else some 4
  | .nothing => some 4

/-- `n` consecutive data addresses from one on. -/
def addrRun (a n : Nat) : List Nat := (List.range n).map (fun i => (a + i) % 2 ^ 24)

/-- The first trap among consecutive addresses. -/
def State.runTrap (s : State) (e : Fin 13) (ybus : Bool) (a n : Nat) : Option Nat := (addrRun a n).findSome? (fun x => s.dataTrap e ybus x)

/-- The oldest buffered store retires (R204). -/
def State.retireOne (s : State) (e : Fin 13) : State :=
  match s.engs[e].sbuf with
  | [] => s
  | b :: r => (b.words.zipIdx).foldl (fun s x => s.ramPut e (if b.ybus then 2 else 1) (b.addr + x.2) x.1)
      (s.updEng e (fun x => { x with sbuf := r }))

/-- The `n` oldest buffered stores retire. -/
def State.retireN (s : State) (e : Fin 13) : Nat → State
  | 0 => s
  | n + 1 => State.retireN (s.retireOne e) e n

/-- Whether a buffered store holds a word. -/
def StoreEnt.holds (b : StoreEnt) (ybus : Bool) (a : Nat) : Bool := b.ybus == ybus && decide (b.addr ≤ a ∧ a < b.addr + b.words.length)

/-- A word of X or Y RAM as the engine sees it: from the youngest buffered store that holds it, else from the RAM (R205, R225). -/
def State.ramSee (s : State) (e : Fin 13) (ybus : Bool) (a : Nat) : Word :=
  match s.engs[e].sbuf.reverse.find? (fun b => b.holds ybus a) with
  | some b => b.words.getD (a - b.addr) 0
  | none => s.ramGet e (if ybus then 2 else 1) a

/-- How many buffered stores must retire before a load of `n` words may read: none where one store holds all of them or none holds
any, else all up to the youngest that overlaps (R205). -/
def State.loadWait (s : State) (e : Fin 13) (ybus : Bool) (a n : Nat) : Nat :=
  let l := s.engs[e].sbuf
  let beyond := fun (b : StoreEnt) => (List.range n).any (fun i => b.holds ybus (a + i))
  let all := fun (b : StoreEnt) => (List.range n).all (fun i => b.holds ybus (a + i))
  if l.any all then 0 else l.length - (l.reverse.takeWhile (fun b => !beyond b)).length

/-- One word read from beyond the engine's RAM (R195). -/
def State.outRead (s : State) (e : Fin 13) (ybus : Bool) (a : Nat) : Word × State :=
  let r := engReq e
  match dataAt e ybus a with
  | .ram w => (s.ramSee e ybus w, s)
  | .par w => s.xferRead r (s.secure r) w
  | .slot addr => s.slotRead r addr
  | .nothing => (0, s)

/-- Words read from beyond the engine's RAM, in order. -/
def State.outReads (s : State) (e : Fin 13) (ybus : Bool) : List Nat → List Word × State
  | [] => ([], s)
  | a :: l =>
    let (w, s) := s.outRead e ybus a
    let (ws, s) := State.outReads s e ybus l
    (w :: ws, s)

/-- A load of `n` consecutive words; its addresses trap nowhere. -/
def State.loadRun (s : State) (e : Fin 13) (ybus : Bool) (a n : Nat) : List Word × State :=
  match dataAt e ybus a with
  | .ram _ => ((List.range n).map (fun i => s.ramSee e ybus (a + i)), s.retireN e (s.loadWait e ybus a n))
  | _ => s.outReads e ybus (addrRun a n)

/-- One word written beyond the engine's RAM: to the parameter region, or to the register map under R11 to R14 (R237). -/
def State.outWrite (s : State) (e : Fin 13) (ybus : Bool) (a : Nat) (w : Word) : State :=
  let r := engReq e
  match dataAt e ybus a with
  | .ram i => s.ramPut e (if ybus then 2 else 1) i w
  | .par i => (s.xferWrite r (s.secure r) i w).2
  | .slot addr => s.slotWrite r addr w
  | .nothing => s

/-- A store of consecutive words; its addresses trap nowhere. One to RAM enters the buffer, the oldest retiring from a full one;
one beyond RAM waits for those before it and completes (R195, R204). -/
def State.storeRun (s : State) (e : Fin 13) (ybus : Bool) (a : Nat) (l : List Word) : State :=
  match dataAt e ybus a with
  | .ram _ =>
    let s := s.doIf (decide (4 ≤ s.engs[e].sbuf.length)) (fun s => s.retireOne e)
    s.updEng e (fun x => { x with sbuf := x.sbuf ++ [{ ybus := ybus, addr := a, words := l }] })
  | _ => (l.zipIdx).foldl (fun s x => s.outWrite e ybus ((a + x.2) % 2 ^ 24) x.1) (s.retireN e s.engs[e].sbuf.length)

/-- A cycle of an instruction that loads from the buses named: the oldest buffered store retires if its port is free (R204). -/
def State.retireFree (s : State) (e : Fin 13) (loadsX loadsY : Bool) : State :=
  match s.engs[e].sbuf with
  | [] => s
  | b :: _ => if if b.ybus then loadsY else loadsX then s else s.retireOne e

/-! ### Queues (R240) -/

/-- An axis by its number. -/
def axNum (i : Nat) : Option (Fin 48) := if h : i < 48 then some ⟨i, h⟩ else none

/-- The queue that a code names on the pop side (`push` false) or on the push side. -/
def engQueue (e : Fin 13) (push : Bool) (qc : Nat) : Option QId :=
  if h : e.val < 12 then
    let k : Fin 12 := ⟨e.val, h⟩
    let slot := fun i => axOf k ⟨i % 4, Nat.mod_lt _ (by decide)⟩
    if push then (if qc < 4 then some (.dq (slot qc)) else if qc < 8 then some (.oq (slot (qc - 4))) else none)
    else if qc < 4 then some (.pq (slot qc)) else if qc < 8 then some (.fq (slot (qc - 4)))
    else if qc = 8 then some (.cq k) else none
  else (axNum qc).map (fun n => if push then .mq n else .oq n)

/-- The words of an entry (R240). -/
def qWords : QId → Nat
  | .pq _ | .mq _ | .oq _ | .dq _ => 4
  | .fq _ | .cq _ => 3

end Sys2Proof.Machine
end

