-- ==== Sys2Proof/Machine/Flags.lean ====
section
/-! DEFINITION. The flags of an engine and the results that set them (R8, R226, R231, R232). -/

namespace Sys2Proof.Machine

/-- Change an engine's flags. -/
def State.updFlags (s : State) (e : Fin 13) (f : Flags → Flags) : State := s.updEng e (fun x => { x with flags := f x.flags })

/-- S is set by a saturation and stays set (R226). -/
def State.sticky (s : State) (e : Fin 13) (b : Bool) : State := s.updFlags e (fun f => { f with s := f.s || b })

/-- Z and N from a result, with C and V. -/
def State.flagsOf (s : State) (e : Fin 13) (w : Word) (c v : Bool) : State :=
  s.updFlags e (fun f => { f with z := w == 0, n := w.msb, c := c, v := v })

/-- Z and N from an accumulator, V where it saturated; C is unchanged (R226). -/
def State.flagsAcc (s : State) (e : Fin 13) (a : BitVec 88) (v : Bool) : State :=
  s.updFlags e (fun f => { f with z := a == 0, n := a.msb, v := v })

/-- C alone: the outcome of a queue function (R226). -/
def State.setC (s : State) (e : Fin 13) (c : Bool) : State := s.updFlags e (fun f => { f with c := c })

/-- A result goes to G(d), saturated (R8), with its flags. -/
def State.result (s : State) (e : Fin 13) (d : Nat) (v : Int) (c vf : Bool) : State :=
  ((s.gSet e d (wordS v)).flagsOf e (wordS v) c vf).sticky e (overflows 36 v)

/-- Carry out of a 36-bit sum. -/
def carryOut (a b : Word) : Bool := decide (2 ^ 36 ≤ a.toNat + b.toNat)

/-- Borrow of a 36-bit difference. -/
def borrow (a b : Word) : Bool := decide (a.toNat < b.toNat)

/-- The flags word of MOVS: S, V, C, N, Z in bits 4 to 0 (R236). -/
def Flags.word (f : Flags) : Word := BitVec.ofNat 36 (b2n f.s <<< 4 ||| b2n f.v <<< 3 ||| b2n f.c <<< 2 ||| b2n f.n <<< 1 ||| b2n f.z)

/-- The flags that a MOVS write gives (R236). -/
def Flags.ofWord (w : Word) : Flags :=
  { z := bit w.toNat 0, n := bit w.toNat 1, c := bit w.toNat 2, v := bit w.toNat 3, s := bit w.toNat 4 }

/-- Whether a condition holds (R242). -/
def Flags.cond (f : Flags) : Nat → Bool
  | 0 => true
  | 1 => f.z
  | 2 => !f.z
  | 3 => f.n
  | 4 => !f.n
  | 5 => !f.n && !f.z
  | 6 => f.n || f.z
  | 7 => f.c
  | 8 => !f.c
  | 9 => f.v
  | 10 => !f.v
  | _ => f.s

/-! ### Shifts (R232) -/

/-- The kinds of shift, in the order of FN bits 1:0. -/
inductive ShiftOp where
  | asl | asr | lsr | rol
deriving DecidableEq, Repr

/-- The exact result of a shift; ASL may leave the range. -/
def ShiftOp.value (k : ShiftOp) (x : Word) (n : Nat) : Int :=
  match k with
  | .asl => x.toInt * (2 ^ n : Nat)
  | .asr => x.toInt / (2 ^ n : Nat)
  | .lsr => (BitVec.ofNat 36 (x.toNat >>> n)).toInt
  | .rol => (x.rotateLeft (n % 36)).toInt

/-- The last bit shifted out; none where no bit is. -/
def ShiftOp.out (k : ShiftOp) (x : Word) (n : Nat) : Option Bool :=
  match k with
  | .asl => if n = 0 then none else some (decide (n ≤ 36) && bit x.toNat (36 - n))
  | .asr => if n = 0 then none else some (bit x.toNat (min (n - 1) 35))
  | .lsr => if n = 0 then none else some (decide (n ≤ 36) && bit x.toNat (n - 1))
  | .rol => if n % 36 = 0 then none else some (bit x.toNat (36 - n % 36))

/-- A bit that the manual leaves open. -/
def State.freshBit (s : State) : Bool × State :=
  let (w, s) := s.fresh
  (w.getLsbD 0, s)

end Sys2Proof.Machine
end

