-- ==== Sys2Proof/Machine/Loops.lean ====
section
/-! DEFINITION. The kernels of the axis engines and PE's observation of an axis: the servo and stepper kernels, the current
kernel, dice and capture, learning and obstacle detection (R90-R92, R150-R156, R162-R177). Real-valued expressions are exact
and rounded where they are stored (R456). -/

namespace Sys2Proof.Machine

/-! ### Shared pieces -/

/-- Whether the engine generates the setpoint itself: its stop ramp or the hold after it (R89, R92, R121, R215). -/
def State.engineSets (s : State) (n : Fin 48) : Bool := s.axes[n].kern.engRamp.isSome

/-- Store signals of R176 by code. -/
def State.sigPut (s : State) (n : Fin 48) (l : List (Nat × Word)) : State :=
  s.updAx n (fun a => { a with kern := { a.kern with recd := l.foldl (fun v x => v.set! x.1 x.2) a.kern.recd } })

/-- A real number as CUR36, VEL36 and so on with `f` fraction bits, saturated. -/
def wordQ (f : Nat) (q : Rat) : Word := wordS (roundQ (q * 2 ^ f))

/-- A real number clamped to `-m .. m`. -/
def clampQ (m x : Rat) : Rat := if x < -m then -m else if m < x then m else x

/-- The sign of a real number, 0 for 0. -/
def sgnQ (x : Rat) : Rat := if 0 < x then 1 else if x < 0 then -1 else 0

/-- One step of a maximal-length register of R173: `ord` stages with taps `ord` and `tap`. -/
def lfsrStep (ord tap v : Nat) : Nat :=
  let b := (b2n (bit v (ord - 1)) + b2n (bit v (tap - 1))) % 2
  (v * 2 + b) % 2 ^ ord

/-- Order and second tap of DICE_CFG.ORDER (R173). -/
def lfsrShape (c : Nat) : Nat × Nat := if c = 0 then (9, 5) else if c = 1 then (11, 9) else (15, 14)

/-- The dice signal of an axis in the raw units of DICE_AMP, with samples `per` ticks apart (R173). -/
def State.diceNow (s : State) (n : Fin 48) (per : Nat) : Int :=
  let d := s.axes[n].dice
  if !d.run then 0
  else
    let amp := s.getI (.ax n) AX.DICE_AMP.AMP
    let sh := lfsrShape (s.get (.ax n) AX.DICE_CFG.ORDER)
    let t : Rat := (d.n * per : Nat) / 300000000
    let f0 : Rat := (s.get (.ax n) AX.DICE_F0.FREQ : Rat) / 65536
    let f1 : Rat := (s.get (.ax n) AX.DICE_F1.FREQ : Rat) / 65536
    let dur : Rat := (s.get (.ax n) AX.DICE_T.DUR : Rat) / 300000000
    let sine := fun (turn : Rat) => roundQ ((amp : Rat) * (engSin false (turnWord turn) : Rat) / 2 ^ 35)
    match s.get (.ax n) AX.DICE_CFG.WAVE with
    | 0 => if bit d.lfsr (sh.1 - 1) then amp else -amp
    | 1 => sine (f0 * t + (f1 - f0) * t ^ 2 / (2 * dur))
    | 2 => amp
    | _ => sine (f0 * t)

/-- Count a sample of the dice signal: the register steps after every HOLD samples (R173). -/
def State.diceTick (s : State) (n : Fin 48) : State :=
  let d := s.axes[n].dice
  if !d.run then s
  else
    let sh := lfsrShape (s.get (.ax n) AX.DICE_CFG.ORDER)
    let v := d.lfsr % 2 ^ sh.1
    let v' := if (d.n + 1) % s.get (.ax n) AX.DICE_CFG.HOLD = 0 then lfsrStep sh.1 sh.2 v else v
    s.updAx n (fun a => { a with dice := { a.dice with n := d.n + 1, lfsr := v' } })

/-- Whether dice injects at a point (R172). -/
def State.diceAt (s : State) (n : Fin 48) (pt : Nat) : Bool := s.axes[n].dice.run && s.get (.ax n) AX.DICE_CFG.POINT == pt

/-! ### What the kernels take from their queues (R90, R91) -/

/-- The kernel takes the newest feedback sample present (R91). Of entries popped together the newest alone says whether the
cycle is fresh (DESIGN CHOICE, log 45). -/
def State.takeFb (s : State) (n : Fin 48) (elapsed : Nat) : State :=
  let (e, s) := s.qPopAll (.fq n)
  match e with
  | some (x, _) =>
    let stale := fld (x.getD 2 0) 35 35 == 1
    s.updAx n (fun a => { a with kern := { a.kern with
      fbP := (x.getD 0 0).toInt, fbV := (x.getD 1 0).toInt, fbStale := stale, fbSeen := a.kern.fbSeen || !stale,
      sinceFb := 0 } })
  | none => s.updAx n (fun a => { a with kern := { a.kern with sinceFb := a.kern.sinceFb + elapsed } })

/-- FB_MISS_RUN counts servo cycles without a fresh sample, in the states of R90; from FB_MISS_LIM on the loss is due, once in a run
(R90-R92). -/
def State.countFb (s : State) (n : Fin 48) : State :=
  if (s.fbPort n).isNone then s
  else
    let fresh := s.axes[n].kern.fbSeen
    let s := s.updAx n (fun a => { a with kern := { a.kern with fbSeen := false, fbFresh := fresh } })
    if fresh then
      (s.updAx n (fun a => { a with sup := { a.sup with fbHit := false } })).put (.ax n) AX.CHAIN_STAT.FB_MISS_RUN 0
    else if !s.axKernel n then s
    else
      let s := s.inc (.ax n) AX.CHAIN_STAT.FB_MISS_RUN
      let hit := !s.axes[n].sup.fbHit &&
        decide (s.get (.ax n) AX.CHAIN_LIM.FB_MISS_LIM ≤ s.get (.ax n) AX.CHAIN_STAT.FB_MISS_RUN)
      s.doIf hit (fun s => s.updAx n (fun a => { a with sup := { a.sup with fbLossDue := true, fbHit := true } }))

/-- A dispatch that finds PQ empty counts in STARVE_RUN, in the states of R90; from STARVE_LIM on the fault is due, once in a run
(R90, R92). -/
def State.starveCount (s : State) (n : Fin 48) : State :=
  if !s.axKernel n then s
  else
    let s := s.inc (.ax n) AX.CHAIN_STAT.STARVE_RUN
    let hit := !s.axes[n].sup.starveHit &&
      decide (s.get (.ax n) AX.CHAIN_LIM.STARVE_LIM ≤ s.get (.ax n) AX.CHAIN_STAT.STARVE_RUN)
    s.doIf hit (fun s => s.updAx n (fun a => { a with sup := { a.sup with starveDue := true, starveHit := true } }))

/-- A successful pop ends a run of STARVE_RUN; the older entries popped with the newest count in SKIP (R91, R92). -/
def State.popCount (s : State) (n : Fin 48) (older : Nat) : State :=
  let s := s.updAx n (fun a => { a with sup := { a.sup with starveHit := false } })
  let s := s.put (.ax n) AX.CHAIN_STAT.STARVE_RUN 0
  s.doIf (older != 0) (fun s =>
    (s.put (.ax n) AX.CHAIN_STAT.SKIP (min 255 (s.get (.ax n) AX.CHAIN_STAT.SKIP + older))).fire (.ax n) 5)

/-- While the engine generates a stop ramp in state 3, its kernel still pops PQ at each dispatch: an entry left there is passed over,
and an empty queue counts (R90); in state 4, and in fault mode, where no servo kernel runs, it does not (R89, R215). -/
def State.rampPop (s : State) (n : Fin 48) : State :=
  if s.axState n = 3 ∧ s.get (.ae (aeOf n)) AE.ENG_STAT.STATE = 1 then
    match s.qPopAll (.pq n) with
    | (some x, s) => s.popCount n x.2
    | (none, s) => s.starveCount n
  else s

/-- The setpoint of this servo cycle: the engine's own ramp or hold, the newest PQ entry, or what R90 puts in its place. -/
def State.takeSetp (s : State) (n : Fin 48) : State :=
  let k := s.axes[n].kern
  match k.engRamp with
  | some r =>
    let s := s.rampPop n
    let tau := k.engTau + s.servoP n * 65536
    if k.engHold then s.doIf (s.axState n == 3) (fun s => s.faultRested n)
    else if r.rest ≤ tau then
      let s := s.updAx n (fun a => { a with
        kern := { a.kern with setp := ⟨r.restPos, 0, 0⟩, engTau := tau, engHold := true } })
      s.doIf (s.axState n == 3) (fun s => s.faultRested n)
    else s.updAx n (fun a => { a with kern := { a.kern with setp := (r.at (ticksOf tau)).setp, engTau := tau } })
  | none =>
    let (e, s) := s.qPopAll (.pq n)
    match e with
    | some (x, older) =>
      let s := s.updAx n (fun a => { a with
        kern := { a.kern with
          setp := ⟨(x.getD 0 0).toInt, (x.getD 1 0).toInt, (x.getD 2 0).toInt⟩, flagW := x.getD 3 0, starvedOnce := false } })
      s.popCount n older
    | none =>
      let adv := (k.setp.pva.p + k.setp.pva.v * msOf (s.servoP n))
      let sp : Setp := if k.starvedOnce then ⟨k.setp.p, 0, 0⟩ else ⟨(PVA.setp ⟨adv, 0, 0⟩).p, k.setp.v, 0⟩
      (s.updAx n (fun a => { a with kern := { a.kern with setp := sp, starvedOnce := true } })).starveCount n

/-- The ROM ramp generator takes an axis's setpoint over by a stop ramp of the engine's own, or goes on with the one in progress; a
stepper runs open-loop (R215, R220). -/
def State.ownRamp (s : State) (n : Fin 48) : State :=
  let r := mkRamp s.axes[n].kern.setp (s.getI (.ax n) AX.STOP_DEC.DEC) (s.get (.ax n) AX.PROF_CFG.BLEND_T)
  s.updAx n (fun a => { a with kern :=
    if a.kern.engRamp.isSome then { a.kern with mode := 1 }
    else { a.kern with engRamp := some r, engTau := 0, engHold := false, mode := 1 } })

/-- In fault mode the ROM ramp generator has the setpoint (R215). -/
def State.faultModeRamp (s : State) (n : Fin 48) : State :=
  if s.get (.ae (aeOf n)) AE.ENG_STAT.STATE = 2 ∧ s.axKernel n then s.ownRamp n else s

/-- The closing clamp of R149 on a current reference: ILIM and CDIR of the last PQ entry. -/
def closeClamp (flagW : Word) (i : Rat) : Rat :=
  let lim : Rat := (fld flagW 34 24 : Rat) / 2048
  if fld flagW 35 35 = 1 then min i lim else max i (-lim)

/-! ### The servo kernel (R150, R167) -/

/-- Push the observation entry of a servo cycle: none where no current pass completed (R150). The mean is over the passes since the
previous run of the servo kernel, and the entry carries the number of the cycle the kernel runs in (DESIGN CHOICE, log 52). -/
def State.pushOq (s : State) (n : Fin 48) (p v : Int) (stale : Bool) : State :=
  let k := s.axes[n].kern
  if k.iqCnt = 0 then s
  else
    let f : Rat := (k.iqSum : Rat) / k.iqCnt / 2 ^ 35 * ((s.getI (.ax n) AX.GOV_FFS.VALUE : Rat) / 65536)
    let fw := wordQ 16 f
    let e : List Word := [wordS p, wordS v, fw, BitVec.ofNat 36 (b2n stale <<< 35 ||| k.cycle % 65536)]
    ((s.qPush (.oq n) e).2.updAx n (fun a => { a with kern := { a.kern with iqSum := 0, iqCnt := 0 } })).sigPut n [(13, fw)]

/-- The position loop of R167. -/
def State.servoLoop (s : State) (n : Fin 48) : State :=
  let k := s.axes[n].kern
  let per := s.servoP n
  let t := msOf per
  let sp := k.setp.pva
  let pm : Rat := (k.fbP : Rat) / 4096
  let vm : Rat := (k.fbV : Rat) / 65536
  let dice := s.diceNow n per
  let d0 : Rat := if s.diceAt n 0 then (dice : Rat) / 4096 else 0
  let d1 : Rat := if s.diceAt n 1 then (dice : Rat) / 2 ^ 35 else 0
  let ps := sp.p + d0
  let e := ps - pm
  let nT := s.par28 n AX.POS_N.VALUE * t
  let alpha := nT / (1 + nT)
  let dv0 : Rat := (k.dv : Rat) / 2 ^ 48
  let dv := dv0 + alpha * ((sp.v - vm) - dv0)
  let integ : Rat := (k.integ : Rat) / 2 ^ 35
  let u := s.par28 n AX.POS_KP.VALUE * e + integ + s.par28 n AX.POS_KD.VALUE * dv + s.par28 n AX.FF_KV.VALUE * sp.v +
    s.par28 n AX.FF_KA.VALUE * sp.a + (s.parI n AX.FF_KC.VALUE : Rat) / 2 ^ 35 * sgnQ sp.v + d1
  let iq := closeClamp k.flagW (clampQ ((s.par n AX.CUR_LIM.IQ_MAX : Rat) / 32768) u)
  let lim : Rat := (s.parI n AX.POS_ILIM.VALUE : Rat) / 2 ^ 35
  let integ' := if iq = u ∨ sgnQ e ≠ sgnQ u then clampQ lim (integ + s.par28 n AX.POS_KI.VALUE * e * t) else integ
  let s := s.updAx n (fun a => { a with kern := { a.kern with
    dv := roundQ (dv * 2 ^ 48), integ := roundQ (integ' * 2 ^ 35), iqRef := roundQ (iq * 2 ^ 35)
    e := satS 36 (roundQ (e * 4096)) } })
  let s := s.setWord (.ax n) 0x398 (wordQ 12 e)
  let s := s.sigPut n ([(0, wordQ 12 ps), (1, BitVec.ofInt 36 k.fbP), (2, wordQ 12 e), (3, BitVec.ofInt 36 k.setp.v),
    (4, BitVec.ofInt 36 k.fbV), (5, BitVec.ofInt 36 k.setp.a), (6, wordQ 35 iq),
    (14, BitVec.ofNat 36 (s.get (.ax n) AX.GOV_STAT.SIGMA))] ++ (if s.diceAt n 0 || s.diceAt n 1 then [(12, wordS dice)] else []))
  s.doIf (s.diceAt n 0 || s.diceAt n 1) (fun s => s.diceTick n)

/-- The servo kernel of a TYPE 1 or 3 axis runs for one servo cycle, in every axis state (R88, R90, R91, R150, R167, R170). -/
def State.servoTask (s : State) (n : Fin 48) : State :=
  if s.engineLive n && (s.axType n == 1 || s.axType n == 3) then
    let s := ((s.faultModeRamp n).takeSetp n).takeFb n 0
    let s := s.countFb n
    let s := (s.servoLoop n).watchError n
    let k := s.axes[n].kern
    let s := s.pushOq n k.fbP k.fbV (k.fbStale || !k.fbFresh)
    s.capSample n false
  else s

/-- SERVO_TASK. -/
def execServoTask (n : Fin 48) (s : State) : Out := .next (s.servoTask n)

/-! ### The stepper kernel (R90, R169) -/

/-- A push into DQ: a full queue frees a slot in this cycle where its port pops (R80, R83); else the duty is lost, and in the states of R90 fault cause 4 disables the port at once (R90, R92). -/
def State.dqPush (s : State) (n : Fin 48) (e : List Word) : Bool × State :=
  let due := s.dpLive n && s.axType n != 0 && !(s.qOld (.dq n)).isEmpty && (s.qCyc (.dq n)).popped == 0
  let s := s.doIf (due && decide (qDepth (.dq n) ≤ (s.qGet (.dq n)).length)) (fun s => s.dqPop n)
  let (ok, s) := s.qPush (.dq n) e
  if ok then (true, s) else (false, s.doIf (s.axKernel n) (fun s => (s.fire (.ax n) 3).raiseFault n 4 2))

/-- The stepper loop: the encoder's error, the lead, and the address sent (R169). The profile unit's address is the one of the PQ
entry popped (R86, R119); a setpoint that the engine makes itself, or that dice moves, has its own. -/
def State.stepperLoop (s : State) (n : Fin 48) : State :=
  let k := s.axes[n].kern
  let fb := (s.fbPort n).isSome
  let micro : Rat := (2 ^ s.get (.ax n) AX.STEP_CFG.MICRO : Nat)
  let dice := s.diceNow n (s.servoP n)
  let d0 : Rat := if s.diceAt n 0 then (dice : Rat) / 4096 else 0
  let ps := k.setp.pva.p + d0
  let own := k.engRamp.isNone && !k.starvedOnce && !s.diceAt n 0
  let aSet := if own then fld k.flagW 23 16 else s.stepAddr n ps
  let pe := ((k.fbP : Rat) / 4096 - k.enc0) * s.par28 n AX.ENC_SCALE.VALUE
  let e := ps - pe
  let was := k.e.natAbs
  let lim := s.par n AX.STEP_CL.STALL_FS * 2 ^ s.get (.ax n) AX.STEP_CFG.MICRO * 4096
  let lead := clampQ (s.par n AX.STEP_CL.LEAD_MAX : Rat) ((s.par n AX.STEP_CL.KST : Rat) / 65536 * e * 64 / micro)
  let closed := fb && s.par n AX.STEP_CL.CL_EN == 1 && k.mode == 0
  let addr := if closed then (((aSet : Int) + roundQ lead) % 256).toNat else aSet
  let eRaw := satS 36 (roundQ (e * 4096))
  let s := s.doIf fb (fun s => (s.updAx n (fun a => { a with kern := { a.kern with e := eRaw } })).setWord (.ax n) 0x398 (BitVec.ofInt 36 eRaw))
  let s := s.sigPut n ([(0, wordQ 12 ps), (1, BitVec.ofInt 36 k.fbP), (2, BitVec.ofInt 36 eRaw), (3, BitVec.ofInt 36 k.setp.v),
    (4, BitVec.ofInt 36 k.fbV), (5, BitVec.ofInt 36 k.setp.a), (14, BitVec.ofNat 36 (s.get (.ax n) AX.GOV_STAT.SIGMA)),
    (15, BitVec.ofNat 36 addr)] ++ (if s.diceAt n 0 then [(12, wordS dice)] else []))
  let s := s.doIf (s.diceAt n 0) (fun s => s.diceTick n)
  let s := (s.dqPush n [BitVec.ofNat 36 addr, 0, 0, 0]).2
  s.doIf (fb && decide (lim ≤ eRaw.natAbs) && decide (was < lim)) (fun s =>
    let s := s.updAx n (fun a => { a with kern := { a.kern with mode := 1 } })
    (s.fire (.ax n) 29).raiseFault n 7 (s.faultAct n))

/-- The stepper kernel of a TYPE 2 axis runs for one servo cycle (R90, R91, R169, R170). -/
def State.stepperTask (s : State) (n : Fin 48) : State :=
  if s.engineLive n && s.axType n == 2 then
    let s := ((s.faultModeRamp n).takeSetp n).takeFb n 0
    let s := ((s.countFb n).stepperLoop n).watchError n
    s.capSample n false
  else s

/-- STEPPER_LOOP_TASK. -/
def execStepperLoopTask (n : Fin 48) (s : State) : Out := .next (s.stepperTask n)

/-! ### The current kernel (R90, R162-R166) -/

/-- The state as a current pass in progress sees it: with the loop parameters it was dispatched with (R168). -/
def State.passView (s : State) (n : Fin 48) : State :=
  s.updAx n (fun a => { a with params := a.kern.passOld ++ a.params })

/-- How many converter results a pass of a type waits for (R162, R165). -/
def resultsOf (t : Nat) : Nat := if t = 1 then 2 else 1

/-- Take CQ entries until the pass has its results; entries of other inputs are discarded (R162). -/
def State.takeCq (s : State) (n : Fin 48) : Nat → State
  | 0 => s
  | fuel + 1 =>
    let have' := s.axes[n].kern.sampled
    if resultsOf (s.axType n) ≤ have'.length then s
    else match s.qOld (.cq (aeOf n)) with
      | [] => s
      | e :: _ =>
        let s := (s.qPop (.cq (aeOf n))).2
        let u := adcOf n
        let i := (e.getD 0 0).toNat % 32
        let input := s.get (.adc u) (ADC.SEQ.INPUT.nth i)
        let mine := input < 16 && 8 * u.val + input / 2 == n.val
        let ph := input % 2
        let want := mine && !(have'.any (fun x => x.1 == ph)) && (s.axType n == 1 || ph == 0)
        let v := if (s.passView n).par n AX.MOT_CFG.ISRC = 1 then e.getD 1 0 else e.getD 2 0
        let s := s.doIf want (fun s => s.updAx n (fun a => { a with kern := { a.kern with sampled := have' ++ [(ph, v)] } }))
        s.takeCq n fuel

/-- A sampled current as a real number. -/
def sampleOf (l : List (Nat × Word)) (ph : Nat) : Rat :=
  match l.find? (fun x => x.1 == ph) with
  | some x => (x.2.toInt : Rat) / 2 ^ 35
  | none => 0

/-- The rotor position of a pass: the last sample advanced by its speed (R90). -/
def State.rotor (s : State) (n : Fin 48) : Rat × Rat :=
  let k := s.axes[n].kern
  let v : Rat := (k.fbV : Rat) / 65536
  ((k.fbP : Rat) / 4096 + v * msOf k.sinceFb, v)

/-- An unsigned 1.35 duty word (R253). -/
def dutyWord (d : Rat) : Word := wordU (roundQ (d * 2 ^ 35))

/-- An integrator of the current loop after a pass: frozen while its clamp holds it, then held within ±VC (R162). -/
def integStep (vc ki x e u uc : Rat) : Rat :=
  clampQ vc (if u ≠ uc ∧ sgnQ e = sgnQ (if u > uc then 1 else -1) then x else x + ki * e)

/-- VSAT's run counters after a pass (R163). -/
def State.vsatCount (s : State) (n : Fin 48) (clamped : Bool) : State :=
  s.updAx n (fun a =>
    let k := a.kern
    let run := if clamped then k.vsatRun + 1 else 0
    let ok := if clamped then 0 else k.vsatOk + 1
    let hit := k.vsatArm && run == 16
    { a with
      kern := { k with vsatRun := min 16 run, vsatOk := min 16 ok, vsatArm := if hit then false else k.vsatArm || ok == 16 }
      sup := { a.sup with vsatDue := a.sup.vsatDue || hit } })

/-- The results of a pass: what the kernel keeps, whether uq was clamped, the duty words, and the signals of R176. -/
structure Pass where
  xd : Int
  xq : Int
  clamped : Bool
  iq : Rat
  duty : List Word
  sig : List (Nat × Word)
deriving DecidableEq, Repr

/-- The dice signal in Q1.35 at a point, else 0. -/
def State.diceQ (s : State) (n : Fin 48) (pt : Nat) : Rat :=
  if s.diceAt n pt then (s.diceNow n (s.curPer (aeOf n)) : Rat) / 2 ^ 35 else 0

/-- The d/q loop of a TYPE 1 axis (R162); while the port is disabled both integrators are held at zero (R164). -/
def State.dqLoop (s : State) (n : Fin 48) : Pass :=
  let k := s.axes[n].kern
  let (p, v) := s.rotor n
  let ecpr : Rat := s.par n AX.MOT_CFG.ECPR
  let turn := turnWord ((p - (s.parI n AX.ANG_OFS.VALUE : Rat) / 4096) / ecpr)
  let sn : Rat := (engSin false turn : Rat) / 2 ^ 35
  let cs : Rat := (engSin true turn : Rat) / 2 ^ 35
  let w := 2 * piQ * v / ecpr
  let iu := sampleOf k.sampled 0
  let iv := sampleOf k.sampled 1
  let ial := iu
  let ibe := (iu + 2 * iv) * invSqrt3
  let id := cs * ial + sn * ibe
  let iq := cs * ibe - sn * ial
  let kp := s.par28 n AX.CUR_KP.VALUE
  let ki := s.par28 n AX.CUR_KI.VALUE
  let kx := s.par28 n AX.CUR_KX.VALUE
  let ke := s.par28 n AX.CUR_KE.VALUE
  let vc : Rat := (s.par n AX.CUR_LIM.VC : Rat) / 32768
  let idr := (s.parI n AX.ID_REF.VALUE : Rat) / 2 ^ 35 + s.diceQ n 3
  let ed := idr - id
  let eq := (k.iqRef : Rat) / 2 ^ 35 - iq
  let run := s.runs (.dp n)
  let xd : Rat := if run then (k.xd : Rat) / 2 ^ 35 else 0
  let xq : Rat := if run then (k.xq : Rat) / 2 ^ 35 else 0
  let ud := kp * ed + xd - kx * w * iq
  let uq := kp * eq + xq + kx * w * id + ke * w + s.diceQ n 2
  let udc := clampQ vc ud
  let uqc := clampQ (sqrtQ (vc ^ 2 - udc ^ 2)) uq
  let ual := cs * udc - sn * uqc
  let ube := sn * udc + cs * uqc
  let h := sqrtQ 3 / 2
  let ua := ual
  let ub := -ual / 2 + h * ube
  let uc := -ual / 2 - h * ube
  let cm := (max ua (max ub uc) + min ua (min ub uc)) / 2
  let duty := fun (x : Rat) => dutyWord (1 / 2 + (x - cm) * invSqrt3)
  { xd := if run then roundQ (integStep vc ki xd ed ud udc * 2 ^ 35) else 0
    xq := if run then roundQ (integStep vc ki xq eq uq uqc * 2 ^ 35) else 0
    clamped := decide (uq ≠ uqc), iq := iq, duty := [duty ua, duty ub, duty uc, 0]
    sig := [(7, wordQ 35 iq), (8, wordQ 35 idr), (9, wordQ 35 id), (10, wordQ 35 uqc), (11, wordQ 35 udc)] }

/-- The reference and the clamp of the coil current of a TYPE 4 axis: the reference, and whether it turns off (R166). -/
def State.solRef (s : State) (n : Fin 48) : Rat :=
  match s.axes[n].sol with
  | 1 => (s.par n AX.SOL_CFG.PULL : Rat) / 4096
  | 2 => (s.par n AX.SOL_CFG.HOLD : Rat) / 4096
  | _ => 0

/-- The scalar loop of a TYPE 3 or 4 axis (R165, R166): -VC while a solenoid turns off, and both half-bridges low once it has. For the
integrator, an output forced to -VC from above is an upper clamp (DESIGN CHOICE, log 49). -/
def State.scalarLoop (s : State) (n : Fin 48) : Pass :=
  let k := s.axes[n].kern
  let t4 := s.axType n == 4
  let (_, v) := s.rotor n
  let i := sampleOf k.sampled 0
  let vc : Rat := (s.par n AX.CUR_LIM.VC : Rat) / 32768
  let w := 2 * piQ * v / (s.par n AX.MOT_CFG.ECPR : Rat)
  let ref := if t4 then s.solRef n + s.diceQ n 1 else (k.iqRef : Rat) / 2 ^ 35
  let e := ref - i
  let run := s.runs (.dp n)
  let x : Rat := if run then (k.xq : Rat) / 2 ^ 35 else 0
  let u := s.par28 n AX.CUR_KP.VALUE * e + x + (if t4 then 0 else s.par28 n AX.CUR_KE.VALUE * w) + s.diceQ n 2
  let sol := s.axes[n].sol
  let c := if t4 then (if sol = 3 then -vc else if sol = 4 then 0 else max 0 (min vc u)) else clampQ vc u
  let d : List Word := if t4 then (if 0 ≤ c then [dutyWord c, 0, 0, 0] else [0, dutyWord 1, 0, 0])
    else [dutyWord (1 / 2 + c / 2), dutyWord (1 / 2 - c / 2), 0, 0]
  { xd := 0, xq := if run then roundQ (integStep vc (s.par28 n AX.CUR_KI.VALUE) x e u c * 2 ^ 35) else 0
    clamped := decide (u ≠ c), iq := i, duty := d, sig := [(7, wordQ 35 i), (10, wordQ 35 c)] }

/-- The pass has its currents: close the loop and push the duty (R162-R166, R90). A SOL_CMD written while the pass waited for CQ is the one
it uses (DESIGN CHOICE, log 49). -/
def State.closePass (s : State) (n : Fin 48) : State :=
  let t := s.axType n
  let v := s.passView n
  let p := if t = 1 then v.dqLoop n else v.scalarLoop n
  let curDice := s.diceAt n 2 || s.diceAt n 3 || (t == 4 && s.diceAt n 1)
  let dv := s.diceNow n (s.curPer (aeOf n))
  let off := t == 4 && s.axes[n].sol == 3 && decide (p.iq < 1 / 50)
  let s := s.updAx n (fun a => { a with
    kern := { a.kern with xd := p.xd, xq := p.xq, sampled := [], cqWait := false, passOld := [] }
    sup := { a.sup with curHit := false }
    sol := if off then 4 else a.sol })
  let s := s.sigPut n (p.sig ++ (if curDice then [(12, wordS dv)] else []))
  let s := s.doIf curDice (fun s => s.diceTick n)
  let s := s.put (.ax n) AX.CHAIN_STAT.CUR_MISS_RUN 0
  let s := s.doIf (t == 1) (fun s => s.vsatCount n p.clamped)
  let (ok, s) := s.dqPush n (if off then [0, 0, 0, 0] else p.duty)
  let s := s.doIf ok (fun s => s.updAx n (fun a => { a with
    kern := { a.kern with iqSum := a.kern.iqSum + roundQ (p.iq * 2 ^ 35), iqCnt := a.kern.iqCnt + 1 } }))
  s.capSample n true

/-- The current kernel of a TYPE 1, 3 or 4 axis takes its samples and closes the loop; where CQ does not hold its results yet the
pass waits, and the next one goes on with it (R90, R162, R165). -/
def State.currentPass (s : State) (n : Fin 48) : State :=
  let t := s.axType n
  if s.engineLive n && (t == 1 || t == 3 || t == 4) then
    let s := if s.axes[n].kern.cqWait then s else s.takeFb n (s.curPer (aeOf n))
    let s := s.takeCq n 17
    if resultsOf t ≤ s.axes[n].kern.sampled.length then s.closePass n
    else s.updAx n (fun a => { a with kern := { a.kern with cqWait := true } })
  else s

/-- CURRENT_PASS. -/
def execCurrentPass (n : Fin 48) (s : State) : Out := .next (s.currentPass n)

/-- CUR_WAIT_EXPIRY: the pass ends without a push; CUR_MISS_RUN counts, and at its limit the miss is due (R90, R92). -/
def execCurWaitExpiry (n : Fin 48) (s : State) : Out :=
  if s.axes[n].kern.cqWait then
    let s := s.updAx n (fun a => { a with kern := { a.kern with cqWait := false, sampled := [], passOld := [] } })
    if !s.axKernel n then .next s
    else
    let s := s.inc (.ax n) AX.CHAIN_STAT.CUR_MISS_RUN
    let hit := !s.axes[n].sup.curHit &&
      decide (s.get (.ax n) AX.CHAIN_LIM.CUR_MISS_LIM ≤ s.get (.ax n) AX.CHAIN_STAT.CUR_MISS_RUN)
    .next (s.doIf hit (fun s => s.updAx n (fun a => { a with sup := { a.sup with curMissDue := true, curHit := true } })))
  else .next s

/-! ### PE's observation of an axis (R150-R156) -/

/-- A word of an axis's model record (R142). -/
def State.recWord (s : State) (n : Fin 48) (i : Nat) : Word := s.storeGet (recordBase n + i)

/-- The friction bin of a position (R152); with an empty span the manual states none. -/
def State.fricBin (s : State) (n : Fin 48) (p : Int) : Nat :=
  let lo := (s.recWord n 7).toInt
  let hi := (s.recWord n 8).toInt
  let x := if hi = lo then Config.freeInt 1 [p, lo, hi] else (((p - lo) * 64 : Int) / (hi - lo : Int) : Rat).floor
  (clamp 0 63 x).toNat

/-- Friction of a bin in N. -/
def State.fric (s : State) (n : Fin 48) (b : Nat) : Rat := ((s.recWord n (64 + b)).toInt : Rat) / 65536

/-- +1 where closing runs toward higher positions, -1 toward lower ones (R153). -/
def State.closeSign (s : State) (n : Fin 48) : Rat := if s.flag (.ax n) AX.GOV_CFG.CDIR then 1 else -1

/-- One sample of the mass identification (R151). -/
def State.learnMass (s : State) (n : Fin 48) (y a : Rat) : State :=
  let k := s.axes[n].kern
  let lam : Rat := ((s.recWord n 3).toNat : Rat) / 2 ^ 24
  let m := k.mass.getD (((s.recWord n 0).toNat : Rat) / 2 ^ 24)
  let pm := k.pm.getD Config.pmInit
  let g := pm * a / (lam + a * pm * a)
  let m' := m + g * (y - a * m)
  let pm' := (pm - g * a * pm) / lam
  let r2 := (y - a * m') ^ 2
  s.updAx n (fun x => { x with kern := { x.kern with
    mass := some m', pm := some pm', s2 := k.s2 + (r2 - k.s2) / (k.sN + 1 : Nat), sN := k.sN + 1, idPhase := true } })

/-- The end of an identified acceleration phase: PE writes words 0 to 2 of the record and publishes it (R151). -/
def State.endPhase (s : State) (n : Fin 48) : State :=
  let k := s.axes[n].kern
  let old := (s.recWord n 2)
  let strokes := if k.counted then fld old 23 0 else satInc 24 (fld old 23 0)
  let unc := wordU (roundQ (3 * sqrtQ (k.pm.getD Config.pmInit * k.s2) * 2 ^ 24))
  let valid := decide (3 ≤ strokes) && decide (unc.toNat ≤ (s.recWord n 5).toNat)
  let s := s.storePut (recordBase n) (wordU (roundQ (k.mass.getD 0 * 2 ^ 24)))
  let s := s.storePut (recordBase n + 1) unc
  let s := s.storePut (recordBase n + 2) (BitVec.ofNat 36 (b2n valid <<< 35 ||| strokes))
  (s.updAx n (fun x => { x with kern := { x.kern with idPhase := false, counted := true } })).modelPublish n

/-- OQ_ENTRY_PROCESS: PE, unless it has trapped (R217), takes one observation entry: the residual, the obstacle and force counts, and
learning, against what the entry's own servo cycle was given (R150-R153, R156). The position of the friction bin is the entry's
measured one, and an entry whose setpoint does not close counts as no obstacle unless OBS_DIR is 1 (DESIGN CHOICE, log 52). -/
def execOqEntryProcess (n : Fin 48) (s : State) : Out :=
  if !s.peLive then .next s else
  match s.qOld (.oq n) with
  | [] => .next s
  | x :: _ =>
    let s := (s.qPop (.oq n)).2
    let k := s.axes[n].kern
    let p := (x.getD 0 0).toInt
    let vm : Rat := ((x.getD 1 0).toInt : Rat) / 65536
    let f : Rat := ((x.getD 2 0).toInt : Rat) / 65536
    let stale := fld (x.getD 3 0) 35 35 == 1
    let cyc := fld (x.getD 3 0) 15 0
    let vs := ((x.getD 1 0).toInt :: k.vHist).take 4
    let s := s.updAx n (fun a => { a with kern := { a.kern with vHist := vs, lastCycle := cyc } })
    let gaps := vs.length - 1
    let aCnt : Rat := if gaps = 0 then 0 else
      (((vs.headD 0 - vs.getLastD 0 : Int) : Rat) / 65536) / gaps / msOf (s.servoP n)
    let aM := aCnt / s.cpmm n * 1000
    let c0 : CycPlan := { cyc := cyc, plan := s.axes[n].held, out := s.setp n, fLim := s.fLim n (s.setp n).pva.p,
                          zone := s.inZone n (s.setp n).pva.p }
    let g := (s.axes[n].plans.find? (fun c => c.cyc == cyc)).getD c0
    let b := s.fricBin n p
    let fr := s.fric n b
    let m := if (s.recWord n 2).msb then ((s.recWord n 0).toNat : Rat) / 2 ^ 24 else (s.get (.ax n) AX.GOV_MFLOOR.VALUE : Rat) / 2 ^ 24
    let c := s.closeSign n
    let res := c * (f - m * aM - sgn g.out.v * fr)
    let thr := s.get (.ax n) AX.GOV_CFG.OBS_THR
    let closing := decide (0 < c * (g.out.v : Rat))
    let counts := thr != 0 && decide ((thr : Rat) < res) && (closing || s.flag (.ax n) AX.GOV_CFG.OBS_DIR)
    let cnt := if stale then k.obsCnt else if counts then min 256 (k.obsCnt + 1) else 0
    let hitO := !stale && counts && !k.obsHit && decide (s.get (.ax n) AX.GOV_CFG.OBS_T ≤ cnt)
    let beyond := decide ((g.fLim : Rat) / 65536 + s.get (.ax n) AX.GOV_WATCH.FORCE_TOL < c * f)
    let fc := if beyond then k.forceCnt + 1 else 0
    let hitF := beyond && decide (s.get (.ax n) AX.GOV_WATCH.FORCE_N ≤ fc)
    let opening := decide (c * (g.plan.v : Rat) < 0)
    let s := s.updAx n (fun a => { a with
      kern := { a.kern with obsCnt := cnt, obsHit := hitO || (k.obsHit && cnt != 0), forceCnt := if hitF then 0 else fc, stroke := opening
                            counted := a.kern.counted && (opening && a.kern.stroke) }
      sup := { a.sup with obsDue := a.sup.obsDue || hitO, forceDue := a.sup.forceDue || hitF } })
    let quiet := decide (res < (thr : Rat))
    let ident := opening && decide (((s.recWord n 4).toInt : Int) ≤ (g.plan.a.natAbs : Int)) &&
      !g.zone && quiet
    let s := if ident then s.learnMass n (f - sgnQ vm * fr) aM
      else s.doIf s.axes[n].kern.idPhase (fun s => s.endPhase n)
    let train := g.plan.a == 0 && g.plan.v != 0 && quiet
    let gain : Rat := ((s.recWord n 9).toNat : Rat) / 2 ^ 24
    .next (s.doIf train (fun s =>
      s.storePut (recordBase n + 64 + b) (wordQ 16 (fr + gain * (sgnQ vm * f - fr)))))

end Sys2Proof.Machine
end

