-- ==== Sys2Proof/Machine/EngineIsa.lean ====
section
/-! DEFINITION. The engines' instruction set (R221-R247): instructions, their decoding, their effects, and the flow of control. -/

namespace Sys2Proof.Machine

/-! ### Instructions (R221-R223) -/

/-- What the multiplier does (R227). -/
inductive MacOp where
  | move | mpy | mac | msu | macsu | macuu | maca
deriving DecidableEq, Repr

/-- ALU functions, in FN order (R231). -/
inductive AluOp where
  | add | sub | and | or | xor | andn | min | max | abs | neg | mov | not | cmp | tst
deriving DecidableEq, Repr

/-- Accumulator functions, in FN order (R233). -/
inductive AccOp where
  | clr | lda | ldai | adda | suba | nega | absa | shla | shra
deriving DecidableEq, Repr

/-- Format I operations (R235). -/
inductive ImmOp where
  | ldi | ldih | addi | cmpi
deriving DecidableEq, Repr

/-- Queue functions, in FN order (R240). -/
inductive QueueOp where
  | pop | push | waitp | waitc | occ | cred
deriving DecidableEq, Repr

/-- Special functions, in FN order (R241). -/
inductive SpecOp where
  | sincos | norm | div | sqrt
deriving DecidableEq, Repr

/-- An engine instruction with its fields. `xm` and `ym` are the move fields of format M, 8 bits each (R221). -/
inductive EIns where
  | mac (op : MacOp) (lane : Bool) (acc s1 s2 co xm ym : Nat)
  | alu (op : AluOp) (d s1 s2 : Nat)
  | shift (op : ShiftOp) (d s1 : Nat) (byReg : Bool) (amt : Nat)
  | acc (op : AccOp) (d s1 amt : Nat)
  | mva (d s1 fld : Nat) (rnd : Bool)
  | imm (op : ImmOp) (d imm : Nat)
  | movs (d s1 : Nat) (toSpecial : Bool)
  | mem (st : Bool) (g : Nat) (ybus : Bool) (ptr am off : Nat)
  | pset (ptr addr : Nat)
  | pmode (ptr mode inc len : Nat)
  | pmem (wr : Bool) (d : Nat) (k1 : Bool)
  | queue (op : QueueOp) (g qc : Nat)
  | spec (op : SpecOp) (d s1 s2 : Nat)
  | br (cond target : Nat)
  | call (cond target : Nat)
  | ret
  | jr (s1 : Nat) (link : Bool)
  | loop (rotf csrc : Bool) (cnt len : Nat)
  | brk (cond : Nat)
  | rep (csrc : Bool) (cnt : Nat)
  | hbeat
  | tend
  | nop
deriving DecidableEq, Repr

/-- The instructions that exist on PE only (R223). -/
def EIns.peOnly : EIns → Bool
  | .mac _ lane _ _ _ _ _ _ => lane
  | .rep _ _ => true
  | _ => false

/-- Whether a move field is one that R229 and R230 allow. -/
def moveOk (lane : Bool) (m : Nat) : Bool :=
  decide (m < 256) && (decide (64 ≤ m) || m == 0) && !(lane && decide (192 ≤ m) && bit m 1)

/-- Whether a special register's code may be named (R236). -/
def specialOk (e : Fin 13) (c : Nat) (wr : Bool) : Bool :=
  decide (c < 18) || (c == 18 && !isPe e) || c == 19 || ((c == 20 || c == 21) && !wr) ||
  (decide (24 ≤ c ∧ c < 24 + 4 * accCount e) && c % 4 != 3)

/-- Whether the mode fields of PMODE are allowed (R238). -/
def modeOk (mode len : Nat) : Bool :=
  match mode with
  | 0 => len == 0
  | 1 => decide (len < 4096)
  | 2 => decide (1 ≤ len ∧ len ≤ 12)
  | _ => false

/-- Whether a queue function's registers and queue exist (R240). -/
def queueOk (e : Fin 13) (op : QueueOp) (g qc : Nat) : Bool :=
  match op with
  | .pop => (engQueue e false qc).any (fun q => decide (g + qWords q ≤ gCount e))
  | .push => (engQueue e true qc).any (fun q => decide (g + qWords q ≤ gCount e))
  | .waitp | .occ => (engQueue e false qc).isSome && decide (g < gCount e)
  | .waitc | .cred => (engQueue e true qc).isSome && decide (g < gCount e)

/-- Whether an instruction carries no reserved encoding on an engine: its register, accumulator, pointer, special-register, queue
and function codes are in range, and its fields are ones this chapter allows (R222, R223). -/
def EIns.valid (e : Fin 13) : EIns → Bool
  | .mac op lane a s1 s2 co xm ym =>
    moveOk lane xm && moveOk lane ym && decide (a < 4 ∧ s1 < 32 ∧ s2 < 32 ∧ co < 3) && (co == 0 || s2 == 0) &&
    (!lane || (decide (a < 2) && op != .macsu && op != .macuu && op != .maca)) &&
    (op != .move || (a == 0 && s1 == 0 && s2 == 0 && co == 0))
  | .alu op d s1 s2 =>
    decide (d < gCount e ∧ s1 < gCount e ∧ s2 < gCount e) &&
    (match op with
      | .abs | .neg | .mov | .not => s2 == 0
      | .cmp | .tst => d == 0
      | _ => true)
  | .shift _ d s1 byReg amt => decide (d < gCount e ∧ s1 < gCount e) && decide (amt < if byReg then gCount e else 36)
  | .acc op d s1 amt =>
    decide (d < accCount e ∧ amt < 64) &&
    (match op with
      | .lda | .ldai => decide (s1 < gCount e)
      | .adda | .suba => decide (s1 < accCount e)
      | _ => s1 == 0) &&
    (match op with
      | .shla | .shra => true
      | _ => amt == 0)
  | .mva d s1 f _ => decide (d < gCount e ∧ s1 < accCount e ∧ f < 4)
  | .imm op d i => decide (d < gCount e ∧ i < 2 ^ 24) && (op != .ldih || decide (i < 4096))
  | .movs d s1 wr => decide (d < gCount e) && specialOk e s1 wr
  | .mem _ g _ ptr am off =>
    decide (g < gCount e ∧ ptr < 8 ∧ off < 2 ^ 18) &&
    (match am with
      | 0 | 1 => off == 0
      | 2 => true
      | 3 => ptr == 0
      | _ => false)
  | .pset ptr a => decide (ptr < 18 ∧ a < 2 ^ 24)
  | .pmode ptr mode inc len => decide (ptr < 18 ∧ inc < 2 ^ 11) && modeOk mode len
  | .pmem _ d _ => decide (d < gCount e)
  | .queue op g qc => queueOk e op g qc
  | .spec op d s1 s2 =>
    decide (d + (if op = .sincos then 1 else 0) < gCount e ∧ s1 < gCount e ∧ s2 < gCount e) && (op == .div || s2 == 0)
  | .br c t | .call c t => decide (c < 12 ∧ t < 2 ^ 20)
  | .brk c => decide (c < 12)
  | .jr s1 _ => decide (s1 < gCount e)
  | .loop rotf csrc cnt len =>
    !(rotf && isPe e) && decide (1 ≤ len ∧ len < 2 ^ 16) && (if csrc then decide (cnt < gCount e) else decide (1 ≤ cnt ∧ cnt < 4096))
  | .rep csrc cnt => decide (cnt < 4096) && (!csrc || decide (cnt % 64 < gCount e))
  | .ret | .hbeat | .tend | .nop => true

/-! ### Decoding (R221, R223) -/

/-- What a word is: of an undefined opcode, of a reserved encoding, or an instruction. -/
inductive EDec where
  | undefined
  | reserved
  | ins (i : EIns)
deriving DecidableEq, Repr

/-- The multiplier operation of an opcode of format M, with `lane`. -/
def macOf : Nat → Option (MacOp × Bool)
  | 0x01 => some (.move, false) | 0x02 => some (.mpy, false) | 0x03 => some (.mac, false) | 0x04 => some (.msu, false)
  | 0x05 => some (.macsu, false) | 0x06 => some (.macuu, false) | 0x07 => some (.maca, false)
  | 0x08 => some (.move, true) | 0x09 => some (.mpy, true) | 0x0A => some (.mac, true) | 0x0B => some (.msu, true)
  | _ => none

/-- An ALU function by FN. -/
def aluOf (n : Nat) : Option AluOp :=
  ([.add, .sub, .and, .or, .xor, .andn, .min, .max, .abs, .neg, .mov, .not, .cmp, .tst] : List AluOp)[n]?

/-- An accumulator function by FN. -/
def accOf (n : Nat) : Option AccOp := ([.clr, .lda, .ldai, .adda, .suba, .nega, .absa, .shla, .shra] : List AccOp)[n]?

/-- A shift by FN bits 1:0. -/
def shiftOf (n : Nat) : Option ShiftOp := ([.asl, .asr, .lsr, .rol] : List ShiftOp)[n]?

/-- A queue function by FN. -/
def queueOf (n : Nat) : Option QueueOp := ([.pop, .push, .waitp, .waitc, .occ, .cred] : List QueueOp)[n]?

/-- A special function by FN. -/
def specOf (n : Nat) : Option SpecOp := ([.sincos, .norm, .div, .sqrt] : List SpecOp)[n]?

/-- A decoded instruction where the fields marked zero are zero. -/
def keep (b : Bool) (i : EIns) : Option EIns := if b then some i else none

/-- The instruction of a word by its opcode; none of a reserved encoding. Register ranges are `valid`'s. -/
def decodeFields (op : Nat) (w : Word) : Option EIns :=
  let f := fld w
  let d := f 29 24
  let s1 := f 23 18
  let s2 := f 17 12
  let aux := f 11 6
  let fn := f 5 0
  match macOf op with
  | some (m, lane) =>
    let acc := f 29 28
    some (.mac m lane acc (f 27 23) (f 22 18) (f 17 16) (f 15 8) (f 7 0))
  | none =>
    match op with
    | 0x10 => (aluOf fn).bind (fun a => keep (aux == 0) (.alu a d s1 s2))
    | 0x11 => if 8 ≤ fn then none
        else (shiftOf (fn % 4)).map (fun k => .shift k d s1 (bit fn 2) (if bit fn 2 then s2 else aux))
    | 0x12 => (accOf fn).bind (fun a => keep (s2 == 0) (.acc a d s1 aux))
    | 0x13 => keep (decide (fn < 8) && s2 == 0 && aux == 0) (.mva d s1 (fn % 4) (bit fn 2))
    | 0x14 => some (.imm .ldi d (f 23 0))
    | 0x15 => some (.imm .ldih d (f 23 0))
    | 0x16 => some (.imm .addi d (f 23 0))
    | 0x17 => some (.imm .cmpi d (f 23 0))
    | 0x18 => some (.mem false d (f 23 23 == 1) (f 22 20) (f 19 18) (f 17 0))
    | 0x19 => some (.mem true d (f 23 23 == 1) (f 22 20) (f 19 18) (f 17 0))
    | 0x1A => keep (f 24 24 == 0) (.pset (f 29 25) (f 23 0))
    | 0x1B => some (.pmode (f 29 25) (f 24 23) (f 22 12) (f 11 0))
    | 0x1C => keep (decide (fn < 2) && s2 == 0 && aux == 0) (.movs d s1 (fn == 1))
    | 0x1D => (queueOf (f 17 15)).bind (fun q => keep (f 14 0 == 0) (.queue q d s1))
    | 0x1E => (specOf fn).bind (fun q => keep (aux == 0) (.spec q d s1 s2))
    | 0x1F => keep (decide (fn < 4) && s1 == 0 && s2 == 0 && aux == 0) (.pmem (bit fn 0) d (bit fn 1))
    | 0x20 => keep (f 25 20 == 0) (.br (f 29 26) (f 19 0))
    | 0x21 => keep (f 25 20 == 0) (.call (f 29 26) (f 19 0))
    | 0x22 => keep (f 29 0 == 0) .ret
    | 0x23 => keep (decide (fn < 2) && d == 0 && s2 == 0 && aux == 0) (.jr s1 (fn == 1))
    | 0x24 => some (.loop (f 29 29 == 1) (f 28 28 == 1) (f 27 16) (f 15 0))
    | 0x25 => keep (f 25 0 == 0) (.brk (f 29 26))
    | 0x26 => keep (f 29 29 == 0 && f 15 0 == 0) (.rep (f 28 28 == 1) (f 27 16))
    | 0x27 => keep (f 29 0 == 0) .hbeat
    | 0x28 => keep (f 29 0 == 0) .tend
    | 0x29 => keep (f 29 0 == 0) .nop
    | _ => none

/-- Whether an opcode is defined on an engine (R223). -/
def opDefined (pe : Bool) (op : Nat) : Bool :=
  if pe then decide (1 ≤ op ∧ op ≤ 0x0B) || decide (0x10 ≤ op ∧ op ≤ 0x29)
  else decide (1 ≤ op ∧ op ≤ 0x07) || (decide (0x10 ≤ op ∧ op ≤ 0x29) && op != 0x26)

/-- What a word is on an engine. -/
def decodeW (e : Fin 13) (w : Word) : EDec :=
  let op := fld w 35 30
  if !opDefined (isPe e) op then .undefined
  else match decodeFields op w with
    | some i => if i.valid e then .ins i else .reserved
    | none => .reserved

/-! ### Encoding (R221) -/

/-- The opcode of a multiplier operation, with `lane`. -/
def MacOp.code (op : MacOp) (lane : Bool) : Nat :=
  (match op with
    | .move => 1 | .mpy => 2 | .mac => 3 | .msu => 4 | .macsu => 5 | .macuu => 6 | .maca => 7) + (if lane then 7 else 0)

/-- FN of an ALU function. -/
def AluOp.code : AluOp → Nat
  | .add => 0 | .sub => 1 | .and => 2 | .or => 3 | .xor => 4 | .andn => 5 | .min => 6 | .max => 7
  | .abs => 8 | .neg => 9 | .mov => 10 | .not => 11 | .cmp => 12 | .tst => 13

/-- FN of an accumulator function. -/
def AccOp.code : AccOp → Nat
  | .clr => 0 | .lda => 1 | .ldai => 2 | .adda => 3 | .suba => 4 | .nega => 5 | .absa => 6 | .shla => 7 | .shra => 8

/-- FN bits 1:0 of a shift. -/
def ShiftOp.code : ShiftOp → Nat
  | .asl => 0 | .asr => 1 | .lsr => 2 | .rol => 3

/-- FN of a queue function. -/
def QueueOp.code : QueueOp → Nat
  | .pop => 0 | .push => 1 | .waitp => 2 | .waitc => 3 | .occ => 4 | .cred => 5

/-- FN of a special function. -/
def SpecOp.code : SpecOp → Nat
  | .sincos => 0 | .norm => 1 | .div => 2 | .sqrt => 3

/-- The opcode of a format I operation. -/
def ImmOp.code : ImmOp → Nat
  | .ldi => 0x14 | .ldih => 0x15 | .addi => 0x16 | .cmpi => 0x17

/-- A word of format R. -/
def wordR (op d s1 s2 aux fn : Nat) : Word := BitVec.ofNat 36 (op * 2 ^ 30 + d * 2 ^ 24 + s1 * 2 ^ 18 + s2 * 2 ^ 12 + aux * 2 ^ 6 + fn)

/-- The word of an instruction; its free bits are 0. -/
def EIns.word : EIns → Word
  | .mac op lane a s1 s2 co xm ym =>
    BitVec.ofNat 36 (op.code lane * 2 ^ 30 + a * 2 ^ 28 + s1 * 2 ^ 23 + s2 * 2 ^ 18 + co * 2 ^ 16 + xm * 2 ^ 8 + ym)
  | .alu op d s1 s2 => wordR 0x10 d s1 s2 0 op.code
  | .shift op d s1 byReg amt => if byReg then wordR 0x11 d s1 amt 0 (4 + op.code) else wordR 0x11 d s1 0 amt op.code
  | .acc op d s1 amt => wordR 0x12 d s1 0 amt op.code
  | .mva d s1 f rnd => wordR 0x13 d s1 0 0 (f + if rnd then 4 else 0)
  | .imm op d v => BitVec.ofNat 36 (op.code * 2 ^ 30 + d * 2 ^ 24 + v)
  | .movs d s1 toSpecial => wordR 0x1C d s1 0 0 (b2n toSpecial)
  | .mem st g ybus ptr am off =>
    BitVec.ofNat 36 ((0x18 + b2n st) * 2 ^ 30 + g * 2 ^ 24 + b2n ybus * 2 ^ 23 + ptr * 2 ^ 20 + am * 2 ^ 18 + off)
  | .pset ptr addr => BitVec.ofNat 36 (0x1A * 2 ^ 30 + ptr * 2 ^ 25 + addr)
  | .pmode ptr mode inc len => BitVec.ofNat 36 (0x1B * 2 ^ 30 + ptr * 2 ^ 25 + mode * 2 ^ 23 + inc * 2 ^ 12 + len)
  | .pmem wr d k1 => wordR 0x1F d 0 0 0 (b2n wr + 2 * b2n k1)
  | .queue op g qc => BitVec.ofNat 36 (0x1D * 2 ^ 30 + g * 2 ^ 24 + qc * 2 ^ 18 + op.code * 2 ^ 15)
  | .spec op d s1 s2 => wordR 0x1E d s1 s2 0 op.code
  | .br cond target => BitVec.ofNat 36 (0x20 * 2 ^ 30 + cond * 2 ^ 26 + target)
  | .call cond target => BitVec.ofNat 36 (0x21 * 2 ^ 30 + cond * 2 ^ 26 + target)
  | .ret => BitVec.ofNat 36 (0x22 * 2 ^ 30)
  | .jr s1 link => wordR 0x23 0 s1 0 0 (b2n link)
  | .loop rotf csrc cnt len => BitVec.ofNat 36 (0x24 * 2 ^ 30 + b2n rotf * 2 ^ 29 + b2n csrc * 2 ^ 28 + cnt * 2 ^ 16 + len)
  | .brk cond => BitVec.ofNat 36 (0x25 * 2 ^ 30 + cond * 2 ^ 26)
  | .rep csrc cnt => BitVec.ofNat 36 (0x26 * 2 ^ 30 + b2n csrc * 2 ^ 28 + cnt * 2 ^ 16)
  | .hbeat => BitVec.ofNat 36 (0x27 * 2 ^ 30)
  | .tend => BitVec.ofNat 36 (0x28 * 2 ^ 30)
  | .nop => BitVec.ofNat 36 (0x29 * 2 ^ 30)

/-! ### Effects (R225-R241) -/

/-- Where control goes after an instruction: on, past an address (the end of a skipped or left body), to an address, or nowhere yet
(a wait). -/
inductive Flow where
  | next
  | past (a : Nat)
  | jump (a : Nat)
  | stay
deriving DecidableEq, Repr

/-- An effect: the cause of a trap, or the flow and the state. -/
abbrev Eff := Except Nat (Flow × State)

/-- What the multiplier gives for an accumulator's value and two operands (R227). -/
def MacOp.value (op : MacOp) (a : Int) (x y : Word) : Int :=
  match op with
  | .move => a
  | .mpy => x.toInt * y.toInt
  | .mac => a + x.toInt * y.toInt
  | .msu => a - x.toInt * y.toInt
  | .macsu => a + x.toNat * y.toInt
  | .macuu => a + (x.toNat * y.toNat : Nat)
  | .maca => a / (2 ^ 36 : Nat) + x.toInt * y.toInt

/-- A parallel move of a bus: its kind (0 none, 1 load, 2 store, 3 accumulator store), pointer and code (R229). -/
structure Move where
  ybus : Bool
  lane : Bool
  op : Nat
  ptr : Nat
  r : Nat

/-- The move of a field of format M. -/
def moveOf (ybus lane : Bool) (m : Nat) : Move :=
  { ybus := ybus, lane := lane, op := m / 64 % 4, ptr := m / 8 % 8 + (if ybus then 8 else 0), r := m % 8 }

/-- The words a move carries: four in a lane move. -/
def Move.width (m : Move) : Nat := if m.lane then 4 else 1

/-- The first register of a move: G(16 + XR), G(24 + YR), or G(32 + 4 XR) in a lane move (R229, R230). -/
def Move.reg (m : Move) : Nat := if m.lane then 32 + 4 * m.r else if m.ybus then 24 + m.r else 16 + m.r

/-- The field of an accumulator as a store takes it (R229): bits 70:35 rounded, or bits 35:0. -/
def storeField (a : BitVec 88) (low : Bool) : Int := accField a (if low then 0 else 35) (!low)

/-- The values that a move stores, before saturation: registers or accumulators as they stand (R225, R229, R230). -/
def Move.stored (m : Move) (s : State) (e : Fin 13) : List Int :=
  if m.op = 2 then (s.gGets e m.reg m.width).map BitVec.toInt
  else if m.lane then (List.range 4).map (fun l => storeField (s.aGet e (4 * (m.r / 4) + l)) (bit m.r 0))
  else [storeField (s.aGet e (m.r / 2)) (bit m.r 0)]

/-- The trap of a move's addresses. -/
def Move.trap (m : Move) (s : State) (e : Fin 13) : Option Nat :=
  if m.op = 0 then none else s.runTrap e m.ybus (s.pAddr e m.ptr) m.width

/-- The loads of a move: its words, with what reading them does. -/
def Move.load (m : Move) (s : State) (e : Fin 13) (a : Nat) : List Word × State :=
  if m.op = 1 then s.loadRun e m.ybus a m.width else ([], s)

/-- The stores of a move (R204, R229). -/
def Move.store (m : Move) (s : State) (e : Fin 13) (a : Nat) (vals : List Int) : State :=
  if 2 ≤ m.op then (s.storeRun e m.ybus a (vals.map wordS)).sticky e (vals.any (overflows 36)) else s

/-- The accumulators and operands of a multiply-accumulate: one, or four lanes (R227, R230). -/
def lanesOf (lane : Bool) (acc s1 s2 : Nat) : List (Nat × Nat × Nat) :=
  if lane then (List.range 4).map (fun l => (4 * acc + l, 32 + (s1 + l) % 32, 32 + (s2 + l) % 32)) else [(acc, s1, s2)]

/-- The multiply-accumulate of one instruction: new accumulators, flags from lane 0. -/
def State.macAll (s : State) (e : Fin 13) (op : MacOp) (coef : Option Word) (l : List (Nat × Nat × Nat)) : State :=
  let res := l.map (fun x => (x.1, op.value (s.aGet e x.1).toInt (s.gGet e x.2.1) (coef.getD (s.gGet e x.2.2))))
  let t := res.foldl (fun t x => t.aSet e x.1 (satAcc x.2)) s
  match res with
  | [] => t
  | x :: _ => t.flagsAcc e (satAcc x.2) (overflows 88 x.2)

/-- Formats M: the multiply-accumulate with its parallel moves (R225, R227-R230). Sources are read first; a load reaches its register
at the end. Two lane loads of the same registers leave them open. -/
def State.effMac (s : State) (e : Fin 13) (op : MacOp) (lane : Bool) (acc s1 s2 co xm ym : Nat) : Eff :=
  let x := moveOf false lane xm
  let y := moveOf true lane ym
  let kp := 15 + co
  let ka := s.pAddr e kp
  if co ≠ 0 ∧ !progOk e ka then .error 4
  else match x.trap s e, y.trap s e with
    | some c, _ => .error c
    | none, some c => .error c
    | none, none =>
      let coef := if co = 0 then none else some (s.progWord e ka)
      let xa := s.pAddr e x.ptr
      let ya := s.pAddr e y.ptr
      let xv := x.stored s e
      let yv := y.stored s e
      let t := if op = .move then s else s.macAll e op coef (lanesOf lane acc s1 s2)
      let t := t.retireFree e (x.op == 1) (y.op == 1)
      let (xw, t) := x.load t e xa
      let (yw, t) := y.load t e ya
      let t := y.store (x.store t e xa xv) e ya yv
      let t := t.doIf (x.op != 0) (fun t => t.pStep e x.ptr)
      let t := t.doIf (y.op != 0) (fun t => t.pStep e y.ptr)
      let t := t.doIf (co != 0) (fun t => t.pStep e kp)
      let t := (t.gSets e x.reg xw).gSets e y.reg yw
      if lane ∧ x.op = 1 ∧ y.op = 1 ∧ x.r = y.r then
        .ok (.next, (List.range 4).foldl (fun t i =>
          let (w, t) := t.fresh
          t.gSet e (x.reg + i) w) t)
      else .ok (.next, t)

/-- ALU (R231). -/
def State.effAlu (s : State) (e : Fin 13) (op : AluOp) (d s1 s2 : Nat) : State :=
  let a := s.gGet e s1
  let b := s.gGet e s2
  let plain := fun (v : Int) => s.result e d v false false
  match op with
  | .add => s.result e d (a.toInt + b.toInt) (carryOut a b) (overflows 36 (a.toInt + b.toInt))
  | .sub => s.result e d (a.toInt - b.toInt) (borrow a b) (overflows 36 (a.toInt - b.toInt))
  | .and => plain (a &&& b).toInt
  | .or => plain (a ||| b).toInt
  | .xor => plain (a ^^^ b).toInt
  | .andn => plain (a &&& ~~~b).toInt
  | .min => plain (min a.toInt b.toInt)
  | .max => plain (max a.toInt b.toInt)
  | .abs => plain (a.toInt.natAbs : Int)
  | .neg => plain (-a.toInt)
  | .mov => plain a.toInt
  | .not => plain (~~~a).toInt
  | .cmp => s.flagsOf e (wordS (a.toInt - b.toInt)) (borrow a b) (overflows 36 (a.toInt - b.toInt))
  | .tst => s.flagsOf e (a &&& b) false false

/-- SHIFT (R232). Where no bit leaves, C is open. -/
def State.effShift (s : State) (e : Fin 13) (op : ShiftOp) (d s1 : Nat) (byReg : Bool) (amt : Nat) : State :=
  let x := s.gGet e s1
  let n := if byReg then (s.gGet e amt).toNat % 64 else amt
  let v := op.value x n
  match op.out x n with
  | some c => s.result e d v c (overflows 36 v)
  | none =>
    let (c, s) := s.freshBit
    s.result e d v c (overflows 36 v)

/-- ACCOP (R233). -/
def State.effAcc (s : State) (e : Fin 13) (op : AccOp) (d s1 amt : Nat) : State :=
  let a := (s.aGet e d).toInt
  let v : Int := match op with
    | .clr => 0
    | .lda => (s.gGet e s1).toInt * (2 ^ 35 : Nat)
    | .ldai => (s.gGet e s1).toInt
    | .adda => a + (s.aGet e s1).toInt
    | .suba => a - (s.aGet e s1).toInt
    | .nega => -a
    | .absa => (a.natAbs : Int)
    | .shla => a * (2 ^ amt : Nat)
    | .shra => a / (2 ^ amt : Nat)
  s.aSet e d (satAcc v)

/-- The lowest bit of a field of MVA (R234). -/
def mvaLow : Nat → Nat
  | 0 => 35
  | 1 => 34
  | 2 => 0
  | _ => 36

/-- MVA (R234). -/
def State.effMva (s : State) (e : Fin 13) (d s1 f : Nat) (rnd : Bool) : State :=
  s.result e d (accField (s.aGet e s1) (mvaLow f) rnd) false false

/-- Format I (R235). -/
def State.effImm (s : State) (e : Fin 13) (op : ImmOp) (d imm : Nat) : State :=
  let g := s.gGet e d
  let i := BitVec.signExtend 36 (BitVec.ofNat 24 imm)
  match op with
  | .ldi => s.result e d i.toInt false false
  | .ldih => s.result e d (BitVec.ofNat 36 ((imm % 4096) * 2 ^ 24 + g.toNat % 2 ^ 24)).toInt false false
  | .addi => s.result e d (g.toInt + i.toInt) (carryOut g i) (overflows 36 (g.toInt + i.toInt))
  | .cmpi => s.flagsOf e (wordS (g.toInt - i.toInt)) (borrow g i) (overflows 36 (g.toInt - i.toInt))

/-- The iterations left in the innermost loop. -/
def leftOf : List LoopEnt → Option Nat
  | [] => none
  | .loop _ _ n _ :: _ => some n
  | .ret _ :: r => leftOf r

/-- The value of a special register (R236); LC with no loop is open. -/
def State.special (s : State) (e : Fin 13) (c : Nat) : Word × State :=
  if c < 18 then (BitVec.ofNat 36 (s.pAddr e c), s)
  else if c = 18 then (BitVec.ofNat 36 (s.rot e), s)
  else if c = 19 then (s.engs[e].flags.word, s)
  else if c = 20 then
    match leftOf s.engs[e].stack with
    | some n => (BitVec.ofNat 36 n, s)
    | none => s.fresh
  else if c = 21 then (BitVec.ofNat 36 s.engs[e].stack.length, s)
  else
    let a := s.aGet e ((c - 24) / 4)
    match (c - 24) % 4 with
    | 0 => (BitVec.ofNat 36 a.toNat, s)
    | 1 => (BitVec.ofNat 36 (a.toNat >>> 36), s)
    | _ => (BitVec.ofInt 36 (a.toInt / (2 ^ 72 : Nat)), s)

/-- An accumulator with one part replaced (R236). -/
def accPart (a : BitVec 88) (p : Nat) (w : Word) : BitVec 88 :=
  let lo := a.toNat % 2 ^ 36
  let mid := a.toNat / 2 ^ 36 % 2 ^ 36
  let hi := a.toNat / 2 ^ 72
  BitVec.ofNat 88 (match p with
    | 0 => hi * 2 ^ 72 + mid * 2 ^ 36 + w.toNat
    | 1 => hi * 2 ^ 72 + w.toNat * 2 ^ 36 + lo
    | _ => (w.toNat % 2 ^ 16) * 2 ^ 72 + mid * 2 ^ 36 + lo)

/-- Write a special register (R236). -/
def State.setSpecial (s : State) (e : Fin 13) (c : Nat) (w : Word) : State :=
  if c < 18 then s.pSet e c (BitVec.ofNat 24 w.toNat)
  else if c = 18 then s.setRot e w.toNat
  else if c = 19 then s.updFlags e (fun _ => Flags.ofWord w)
  else if c < 24 then s
  else s.aSet e ((c - 24) / 4) (accPart (s.aGet e ((c - 24) / 4)) ((c - 24) % 4) w)

/-- MOVS (R236). -/
def State.effMovs (s : State) (e : Fin 13) (d c : Nat) (wr : Bool) : State :=
  if wr then s.setSpecial e c (s.gGet e d)
  else
    let (w, s) := s.special e c
    s.gSet e d w

/-- The data address of LD and ST (R237). -/
def State.memAddr (s : State) (e : Fin 13) (ybus : Bool) (ptr am off : Nat) : Nat :=
  let p := s.pAddr e (ptr + if ybus then 8 else 0)
  match am with
  | 0 | 1 => p
  | 2 => ((p + sx 18 off) % (2 ^ 24 : Nat)).toNat
  | _ => off

/-- LD and ST (R237). -/
def State.effMem (s : State) (e : Fin 13) (st : Bool) (g : Nat) (ybus : Bool) (ptr am off : Nat) : Eff :=
  let a := s.memAddr e ybus ptr am off
  match s.dataTrap e ybus a with
  | some c => .error c
  | none =>
    let step := fun (t : State) => t.doIf (am == 0) (fun t => t.pStep e (ptr + if ybus then 8 else 0))
    if st then .ok (.next, step ((s.retireFree e false false).storeRun e ybus a [s.gGet e g]))
    else
      let (l, t) := (s.retireFree e (!ybus) ybus).loadRun e ybus a 1
      .ok (.next, (step t).gSets e g l)

/-- PMEM (R239). -/
def State.effPmem (s : State) (e : Fin 13) (wr : Bool) (d : Nat) (k1 : Bool) : Eff :=
  let p := if k1 then 17 else 16
  let a := s.pAddr e p
  if !progOk e a then .error 4
  else if wr then
    if progRam e a then .ok (.next, (s.ramPut e 0 a (s.gGet e d)).pStep e p) else .error 5
  else .ok (.next, (s.pStep e p).gSet e d (s.progWord e a))

/-- Whether the condition of a queue wait holds: an entry on the pop side, a credit on the push side (R240). -/
def State.waitHolds (s : State) (e : Fin 13) (credit : Bool) (qc : Nat) : Bool :=
  match engQueue e credit qc with
  | some q => if credit then decide ((s.qGet q).length < qDepth q) else !(s.qOld q).isEmpty
  | none => false

/-- Push an entry; a duty refused by a full DQ is the fault of R92. -/
def State.engPush (s : State) (q : QId) (l : List Word) : Bool × State :=
  match q with
  | .dq n => s.dqPush n l
  | _ => s.qPush q l

/-- QUEUE (R240). -/
def State.effQueue (s : State) (e : Fin 13) (op : QueueOp) (g qc : Nat) : Flow × State :=
  let limit := (s.gGet e g).toInt
  let wait := fun (credit : Bool) =>
    if s.waitHolds e credit qc then (Flow.next, s.setC e true)
    else if limit ≤ 0 then (Flow.next, s.setC e false)
    else (Flow.stay, s.updEng e (fun x => { x with waiting := some (credit, qc) }))
  let side := match op with
    | .push | .waitc | .cred => true
    | _ => false
  match engQueue e side qc with
  | none => (.next, s)
  | some q =>
    match op with
    | .pop =>
      match s.qPop q with
      | (some l, s) => (.next, (s.gSets e g ((List.range (qWords q)).map (fun i => l.getD i 0))).setC e true)
      | (none, s) => (.next, s.setC e false)
    | .push =>
      let (ok, s) := s.engPush q (s.gGets e g (qWords q))
      let s := s.setC e ok
      (.next, s.doIf (!ok) (fun s => s.qNote { s.qCyc q with eng := some (e, s.engs[e].flags) }))
    | .waitp => wait false
    | .waitc => wait true
    | .occ => (.next, (s.gSet e g (BitVec.ofNat 36 (s.qGet q).length)).setC e true)
    | .cred => (.next, (s.gSet e g (BitVec.ofNat 36 (qDepth q - (s.qGet q).length))).setC e true)

/-- Bits of a word below its sign bit that equal it, counted from the top. -/
def redundant (w : Word) : Nat := ((List.range 35).takeWhile (fun i => bit w.toNat (34 - i) == w.msb)).length

/-- A quotient in units of 2^-35, before saturation; an inexact one rounds either way (R241). -/
def quotient (a b : Word) : Int :=
  let n := a.toInt * (2 ^ 35 : Nat)
  let q := (n * b.toInt.sign) / (b.toInt.natAbs : Int)
  if q * b.toInt = n then q else if Config.roundsUp 2 a b then q + 1 else q

/-- DIV (R241): the value and whether it saturated. -/
def divide (a b : Word) : Int × Bool :=
  let top : Int := 2 ^ 35 - 1
  let bot : Int := -2 ^ 35
  if b = 0 then (if a.msb then bot else top, true)
  else if b.toInt.natAbs ≤ a.toInt.natAbs then (if a.msb == b.msb then top else bot, true)
  else (satS 36 (quotient a b), overflows 36 (quotient a b))

/-- SQRT (R241): an inexact root rounds either way. -/
def root (a : Word) : Nat :=
  let n := a.toNat * 2 ^ 35
  let r := isqrt n
  if r * r = n then r else if Config.roundsUp 3 a 0 then r + 1 else r

/-- SPEC (R241). -/
def State.effSpec (s : State) (e : Fin 13) (op : SpecOp) (d s1 s2 : Nat) : State :=
  let a := s.gGet e s1
  match op with
  | .sincos =>
    let c := sinRaw true a
    ((s.result e d (sinRaw false a) false false).gSet e (d + 1) (wordS c)).sticky e (overflows 36 c)
  | .norm => s.result e d (redundant a) false false
  | .div =>
    let (v, sat) := divide a (s.gGet e s2)
    (s.result e d v false false).sticky e sat
  | .sqrt => if a.msb then (s.result e d 0 false false).sticky e true else s.result e d (root a) false false

/-! ### Control flow (R242-R247) -/

/-- Why control may not go to an address: unimplemented, or into the secure partition past a gate (R208, R242). -/
def State.targetTrap (s : State) (e : Fin 13) (t : Nat) : Option Nat :=
  if !progOk e t then some 4 else if s.gateShut e s.engs[e].pc t then some 7 else none

/-- The loop stack after a jump: loops whose bodies the target leaves are abandoned, innermost first, up to a return address
(R245). -/
def abandon (t : Nat) : List LoopEnt → List LoopEnt
  | [] => []
  | .ret a :: r => .ret a :: r
  | .loop first last n rotf :: r => if first ≤ t ∧ t ≤ last then .loop first last n rotf :: r else abandon t r

/-- The loop stack without its innermost loop, and that loop's last address (R245). -/
def dropLoop : List LoopEnt → Option (List LoopEnt × Nat)
  | [] => none
  | .loop _ last _ _ :: r => some (r, last)
  | .ret a :: r => (dropLoop r).map (fun x => (.ret a :: x.1, x.2))

/-- Replace the loop stack; the repeat cache holds the innermost loop only, and is cleared where a loop is abandoned (R199). -/
def State.setStack (s : State) (e : Fin 13) (l : List LoopEnt) (left : Bool) : State :=
  s.updEng e (fun x => { x with stack := l, cache := if left then [] else x.cache })

/-- A jump: with `link`, the return address is pushed and nothing is abandoned. -/
def State.jumpTo (s : State) (e : Fin 13) (t : Nat) (link : Bool) : Eff :=
  match s.targetTrap e t with
  | some c => .error c
  | none =>
    let st := s.engs[e].stack
    if link then
      if stackSize e ≤ st.length then .error 6 else .ok (.jump t, s.setStack e (.ret (s.engs[e].pc + 1) :: st) false)
    else .ok (.jump t, s.setStack e (abandon t st) (decide ((abandon t st).length < st.length)))

/-- RET (R242, R243). -/
def State.effRet (s : State) (e : Fin 13) : Eff :=
  match s.engs[e].stack with
  | .ret a :: r =>
    match s.targetTrap e a with
    | some c => .error c
    | none => .ok (.jump a, s.setStack e r false)
  | _ => .error 6

/-- LOOP (R244). The repeat cache is cleared at every loop entry (R199). -/
def State.effLoop (s : State) (e : Fin 13) (rotf csrc : Bool) (cnt len : Nat) : Eff :=
  let pc := s.engs[e].pc
  let n : Int := if csrc then (s.gGet e cnt).toInt else cnt
  if n ≤ 0 then .ok (.past (pc + len), s)
  else if stackSize e ≤ s.engs[e].stack.length then .error 6
  else .ok (.next, s.updEng e (fun x => { x with
    stack := .loop (pc + 1) (pc + len) n.toNat rotf :: x.stack
    cache := [] }))

/-- BREAK (R245). -/
def State.effBreak (s : State) (e : Fin 13) (c : Nat) : Eff :=
  if s.engs[e].flags.cond c then
    match dropLoop s.engs[e].stack with
    | some (l, last) => .ok (.past last, s.updEng e (fun x => { x with stack := l, cache := [] }))
    | none => .error 6
  else .ok (.next, s)

/-- HBEAT (R218, R247). -/
def State.effHbeat (s : State) (e : Fin 13) : State :=
  if h : e.val < 12 then
    let k : Fin 12 := ⟨e.val, h⟩
    s.put (.ae k) AE.ENG_STAT.HB_CNT (s.get (.ae k) AE.ENG_STAT.HB_CNT + 1)
  else s.updSi (fun i => { i with beat := true })

/-- The effect of an instruction whose encoding is valid, REPEAT and TEND apart. -/
def EIns.eff (i : EIns) (e : Fin 13) (s : State) : Eff :=
  let on := fun (f : State → State) => Except.ok (Flow.next, f (s.retireFree e false false))
  match i with
  | .mac op lane a s1 s2 co xm ym => s.effMac e op lane a s1 s2 co xm ym
  | .alu op d s1 s2 => on (fun s => s.effAlu e op d s1 s2)
  | .shift op d s1 byReg amt => on (fun s => s.effShift e op d s1 byReg amt)
  | .acc op d s1 amt => on (fun s => s.effAcc e op d s1 amt)
  | .mva d s1 f rnd => on (fun s => s.effMva e d s1 f rnd)
  | .imm op d v => on (fun s => s.effImm e op d v)
  | .movs d c wr => on (fun s => s.effMovs e d c wr)
  | .mem st g ybus ptr am off => s.effMem e st g ybus ptr am off
  | .pset p a => on (fun s => s.pSet e p (BitVec.ofNat 24 a))
  | .pmode p m inc len => on (fun s => s.pMode e p (if m = 0 then .linear else if m = 1 then .modulo else .bitrev)
      (BitVec.ofNat 11 inc) (BitVec.ofNat 12 len))
  | .pmem wr d k1 => (s.retireFree e false false).effPmem e wr d k1
  | .queue op g qc => .ok ((s.retireFree e false false).effQueue e op g qc)
  | .spec op d s1 s2 => on (fun s => s.effSpec e op d s1 s2)
  | .br c t => if s.engs[e].flags.cond c then (s.retireFree e false false).jumpTo e t false else on id
  | .call c t => if s.engs[e].flags.cond c then (s.retireFree e false false).jumpTo e t true else on id
  | .ret => (s.retireFree e false false).effRet e
  | .jr s1 link => (s.retireFree e false false).jumpTo e ((s.gGet e s1).toNat % 2 ^ 20) link
  | .loop rotf csrc cnt len => (s.retireFree e false false).effLoop e rotf csrc cnt len
  | .brk c => (s.retireFree e false false).effBreak e c
  | .hbeat => on (fun s => s.effHbeat e)
  | .rep _ _ | .tend | .nop => on id

/-- The instructions that must not end a body (R244). -/
def EIns.isFlow : EIns → Bool
  | .br _ _ | .call _ _ | .ret | .jr _ _ | .loop _ _ _ _ | .brk _ | .rep _ _ | .tend => true
  | _ => false

/-- Whether an address ends the body of the loop that runs. -/
def State.bodyEnd (s : State) (e : Fin 13) (a : Nat) : Bool :=
  match s.engs[e].stack with
  | .loop _ last _ _ :: _ => last == a
  | _ => false

/-- The loop stack after the last instruction of bodies that end at an address: the inner loop completes first. Answers the stack,
the next address and how many rotating iterations ended (R200, R244). -/
def loopEnd (a : Nat) : List LoopEnt → List LoopEnt × Nat × Nat
  | .loop first last n rotf :: r =>
    if last = a then
      if 1 < n then (.loop first last (n - 1) rotf :: r, first, b2n rotf)
      else
        let (l, pc, k) := loopEnd a r
        (l, pc, k + b2n rotf)
    else (.loop first last n rotf :: r, a + 1, 0)
  | l => (l, a + 1, 0)

/-- Control goes on past an address; the repeat cache holds the innermost loop only (R199, R244). -/
def State.goPast (s : State) (e : Fin 13) (a : Nat) : State :=
  let st := s.engs[e].stack
  let (l, pc, k) := loopEnd a st
  let s := s.doIf (k != 0) (fun s => s.setRot e (s.rot e + k))
  s.updEng e (fun x => { x with stack := l, pc := pc, cache := if l.length < st.length then [] else x.cache })

/-- The engine is still as the instruction left it: no reset has taken it. -/
def State.engStands (s : State) (e : Fin 13) : Bool := s.released (engPg e) && !s.softResetting (engPg e)

/-- The slot a task works for: the one its trigger selects, else the one of its place in the task table (R209, R211). -/
def State.taskSlot (s : State) (e : Fin 13) : Fin 4 :=
  match s.engs[e].running with
  | some r => if fld (s.taskW e r.task) 34 33 = 0 then Fin.ofNat 4 (fld (s.taskW e r.task) 32 29) else Fin.ofNat 4 r.task
  | none => 0

/-- The work of an entry of the ROM entry table (R220), for the axis of a slot; a kernel does its work for the axis types that
are its own. -/
def State.romWork (s : State) (k : Fin 12) (n : Fin 48) (i : Nat) : State :=
  let t := s.axType n
  match i with
  | 0 => s.doIf (t == 1) (fun s => s.currentPass n)
  | 1 => s.doIf (t == 3 || t == 4) (fun s => s.currentPass n)
  | 2 => s.servoTask n
  | 3 => s.stepperTask n
  | 4 => s.effHbeat (engOf k)
  | _ => s.ownRamp n

/-- A call into the ROM entry table (R220): the kernel does its work for the slot of the running task, and returns (the manual does
not say how a caller names the slot: DESIGN CHOICE, log 65). -/
def State.entryCall (s : State) (e : Fin 13) (t : Nat) : State :=
  if h : e.val < 12 then
    if 0x8010 ≤ t ∧ t ≤ 0x8015 ∧ s.engs[e].running.isSome then
      match s.engs[e].stack with
      | .ret a :: r =>
        let k : Fin 12 := ⟨e.val, h⟩
        (s.updEng e (fun x => { x with pc := a, stack := r })).romWork k (axOf k (s.taskSlot e)) (t - 0x8010)
      | _ => s
    else s
  else s

/-- Control after an instruction at an address (R208, R242-R245). -/
def State.flow (s : State) (e : Fin 13) (a : Nat) (f : Flow) : State :=
  if !s.engStands e then s
  else match f with
    | .stay => s
    | .jump t => (s.updEng e (fun x => { x with pc := t })).entryCall e t
    | .next => let t := s.goPast e a
      if t.gateShut e a t.engs[e].pc then t.trap e 7 a else t
    | .past b => let t := s.goPast e b
      if t.gateShut e a t.engs[e].pc then t.trap e 7 a else t

/-- The instructions that REPEAT may repeat (R246). -/
def EIns.repeatable : EIns → Bool
  | .mac _ _ _ _ _ _ _ _ | .mem _ _ _ _ _ _ | .alu _ _ _ _ | .shift _ _ _ _ _ | .acc _ _ _ _ | .mva _ _ _ _ => true
  | _ => false

/-- The opcodes that REPEAT may repeat. -/
def opRepeatable (op : Nat) : Bool := decide (1 ≤ op ∧ op ≤ 0x0B) || decide (0x10 ≤ op ∧ op ≤ 0x13) || op == 0x18 || op == 0x19

/-- The repetitions of an instruction; a trap ends them (R246). -/
def State.repeatGo (s : State) (e : Fin 13) (i : EIns) : Nat → State
  | 0 => s.flow e s.engs[e].pc .next
  | n + 1 => match i.eff e s with
    | .error c => s.trap e c s.engs[e].pc
    | .ok (_, t) => if t.engStands e then State.repeatGo t e i n else t

/-- REPEAT: executes the next instruction n times; zero or below skips it (R246). -/
def State.runRepeat (s : State) (e : Fin 13) (csrc : Bool) (cnt : Nat) : State :=
  let pc := s.engs[e].pc
  let n : Int := if csrc then min (s.gGet e (cnt % 64)).toInt 4096 else if cnt = 0 then 4096 else cnt
  let at_ := pc + 1
  if n ≤ 0 then s.flow e pc (.past at_)
  else if !progOk e at_ then s.trap e 4 at_
  else if s.gateShut e pc at_ then s.trap e 7 pc
  else
    let w := s.fetch e at_
    let op := fld w 35 30
    if !opDefined true op then s.trap e 1 at_
    else if !opRepeatable op then s.trap e 2 pc
    else match decodeW e w with
      | .ins i => ((s.cacheFill e at_ w).updEng e (fun x => { x with pc := at_ })).repeatGo e i n.toNat
      | _ => s.trap e 2 at_

/-- Whether an engine stands at an instruction boundary and executes: no queue wait is in progress. -/
def State.engIdle (s : State) (e : Fin 13) : Bool := s.engRuns e && s.engs[e].waiting.isNone

/-- An engine executes an instruction that it has fetched (R221-R247): undefined and reserved encodings and a body end that R244
forbids trap before any effect. The repeat cache takes its word (R199). -/
def State.engRun (s : State) (e : Fin 13) (i : EIns) : State :=
  let pc := s.engs[e].pc
  if !progOk e pc then s.trap e 4 pc
  else if i.peOnly && !isPe e then s.trap e 1 pc
  else if !i.valid e then s.trap e 2 pc
  else if s.bodyEnd e pc && i.isFlow then s.trap e 2 pc
  else
    let s := s.cacheFill e pc i.word
    match i with
    | .rep csrc cnt => (s.retireFree e false false).runRepeat e csrc cnt
    | .tend => (s.retireFree e false false).taskEnd e
    | _ => match i.eff e s with
      | .error c => s.trap e c pc
      | .ok (f, t) => t.flow e pc f

/-- An engine executes an instruction at its program counter: the one given, or from the second iteration of a cached loop on the
one that the repeat cache holds (R199). -/
def State.engExec (s : State) (e : Fin 13) (i : EIns) : State :=
  let pc := s.engs[e].pc
  if !s.engIdle e then s
  else match s.cachedWord e pc with
    | none => s.engRun e i
    | some w => match decodeW e w with
      | .ins j => s.engRun e j
      | .undefined => s.trap e 1 pc
      | .reserved => s.trap e 2 pc

/-- A WAITP or WAITC in progress ends: C is 1 where its condition holds, and 0 where its limit has passed (R240). -/
def State.waitEnd (s : State) (e : Fin 13) : State :=
  match s.engs[e].waiting with
  | some (credit, qc) =>
    if s.engRuns e then
      ((s.setC e (s.waitHolds e credit qc)).updEng e (fun x => { x with waiting := none })).flow e s.engs[e].pc .next
    else s
  | none => s

end Sys2Proof.Machine
end

