-- ==== Sys2Proof/Machine/EngineRows.lean ====
section
/-! DEFINITION. The instruction rows of the engines: each engine instruction as a command, executed at its engine's program
counter (R221-R247), and the two rows of words that no engine executes (R223, R224). -/

namespace Sys2Proof.Machine

/-- UNDEFINED_OPCODE: an engine comes to a word whose opcode is undefined on it, and traps with cause 1 (R223). -/
def execUndefinedOpcode (e : Fin 13) (w : Word) (s : State) : Out :=
  .next (if s.engIdle e && decodeW e w == .undefined then s.trap e 1 s.engs[e].pc else s)

/-- RESERVED_ENCODING_TRAP: an engine comes to a word of a defined opcode that carries a reserved encoding, and traps with cause 2
(R223, R224). -/
def execReservedEncodingTrap (e : Fin 13) (w : Word) (s : State) : Out :=
  .next (if s.engIdle e && decodeW e w == .reserved then s.trap e 2 s.engs[e].pc else s)

/-- QUEUE_WAIT_END (R240). -/
def execInsQueueWaitEnd (e : Fin 13) (s : State) : Out := .next (s.waitEnd e)

/-- MOVE (R229). -/
def execInsMove (e : Fin 13) (xm ym : Nat) (s : State) : Out := .next (s.engExec e (.mac .move false 0 0 0 0 xm ym))

/-- MPY (R227). -/
def execInsMpy (e : Fin 13) (acc s1 s2 co xm ym : Nat) (s : State) : Out := .next (s.engExec e (.mac .mpy false acc s1 s2 co xm ym))

/-- MAC (R227). -/
def execInsMac (e : Fin 13) (acc s1 s2 co xm ym : Nat) (s : State) : Out := .next (s.engExec e (.mac .mac false acc s1 s2 co xm ym))

/-- MSU (R227). -/
def execInsMsu (e : Fin 13) (acc s1 s2 co xm ym : Nat) (s : State) : Out := .next (s.engExec e (.mac .msu false acc s1 s2 co xm ym))

/-- MACSU (R227). -/
def execInsMacsu (e : Fin 13) (acc s1 s2 co xm ym : Nat) (s : State) : Out := .next (s.engExec e (.mac .macsu false acc s1 s2 co xm ym))

/-- MACUU (R227). -/
def execInsMacuu (e : Fin 13) (acc s1 s2 co xm ym : Nat) (s : State) : Out := .next (s.engExec e (.mac .macuu false acc s1 s2 co xm ym))

/-- MACA (R227). -/
def execInsMaca (e : Fin 13) (acc s1 s2 co xm ym : Nat) (s : State) : Out := .next (s.engExec e (.mac .maca false acc s1 s2 co xm ym))

/-- LMOVE (R230). -/
def execInsLmove (e : Fin 13) (xm ym : Nat) (s : State) : Out := .next (s.engExec e (.mac .move true 0 0 0 0 xm ym))

/-- LMPY (R230). -/
def execInsLmpy (e : Fin 13) (acc s1 s2 co xm ym : Nat) (s : State) : Out := .next (s.engExec e (.mac .mpy true acc s1 s2 co xm ym))

/-- LMAC (R230). -/
def execInsLmac (e : Fin 13) (acc s1 s2 co xm ym : Nat) (s : State) : Out := .next (s.engExec e (.mac .mac true acc s1 s2 co xm ym))

/-- LMSU (R230). -/
def execInsLmsu (e : Fin 13) (acc s1 s2 co xm ym : Nat) (s : State) : Out := .next (s.engExec e (.mac .msu true acc s1 s2 co xm ym))

/-- ADD (R231). -/
def execInsAdd (e : Fin 13) (d s1 s2 : Nat) (s : State) : Out := .next (s.engExec e (.alu .add d s1 s2))

/-- SUB (R231). -/
def execInsSub (e : Fin 13) (d s1 s2 : Nat) (s : State) : Out := .next (s.engExec e (.alu .sub d s1 s2))

/-- AND (R231). -/
def execInsAnd (e : Fin 13) (d s1 s2 : Nat) (s : State) : Out := .next (s.engExec e (.alu .and d s1 s2))

/-- OR (R231). -/
def execInsOr (e : Fin 13) (d s1 s2 : Nat) (s : State) : Out := .next (s.engExec e (.alu .or d s1 s2))

/-- XOR (R231). -/
def execInsXor (e : Fin 13) (d s1 s2 : Nat) (s : State) : Out := .next (s.engExec e (.alu .xor d s1 s2))

/-- ANDN (R231). -/
def execInsAndn (e : Fin 13) (d s1 s2 : Nat) (s : State) : Out := .next (s.engExec e (.alu .andn d s1 s2))

/-- MIN (R231). -/
def execInsMin (e : Fin 13) (d s1 s2 : Nat) (s : State) : Out := .next (s.engExec e (.alu .min d s1 s2))

/-- MAX (R231). -/
def execInsMax (e : Fin 13) (d s1 s2 : Nat) (s : State) : Out := .next (s.engExec e (.alu .max d s1 s2))

/-- ABS (R231). -/
def execInsAbs (e : Fin 13) (d s1 : Nat) (s : State) : Out := .next (s.engExec e (.alu .abs d s1 0))

/-- NEG (R231). -/
def execInsNeg (e : Fin 13) (d s1 : Nat) (s : State) : Out := .next (s.engExec e (.alu .neg d s1 0))

/-- MOV (R231). -/
def execInsMov (e : Fin 13) (d s1 : Nat) (s : State) : Out := .next (s.engExec e (.alu .mov d s1 0))

/-- NOT (R231). -/
def execInsNot (e : Fin 13) (d s1 : Nat) (s : State) : Out := .next (s.engExec e (.alu .not d s1 0))

/-- CMP (R231). -/
def execInsCmp (e : Fin 13) (s1 s2 : Nat) (s : State) : Out := .next (s.engExec e (.alu .cmp 0 s1 s2))

/-- TST (R231). -/
def execInsTst (e : Fin 13) (s1 s2 : Nat) (s : State) : Out := .next (s.engExec e (.alu .tst 0 s1 s2))

/-- ASL (R232): by `amt`, or with `byReg` by the low 6 bits of G(amt). -/
def execInsAsl (e : Fin 13) (d s1 : Nat) (byReg : Bool) (amt : Nat) (s : State) : Out := .next (s.engExec e (.shift .asl d s1 byReg amt))

/-- ASR (R232): by `amt`, or with `byReg` by the low 6 bits of G(amt). -/
def execInsAsr (e : Fin 13) (d s1 : Nat) (byReg : Bool) (amt : Nat) (s : State) : Out := .next (s.engExec e (.shift .asr d s1 byReg amt))

/-- LSR (R232): by `amt`, or with `byReg` by the low 6 bits of G(amt). -/
def execInsLsr (e : Fin 13) (d s1 : Nat) (byReg : Bool) (amt : Nat) (s : State) : Out := .next (s.engExec e (.shift .lsr d s1 byReg amt))

/-- ROL (R232): by `amt`, or with `byReg` by the low 6 bits of G(amt). -/
def execInsRol (e : Fin 13) (d s1 : Nat) (byReg : Bool) (amt : Nat) (s : State) : Out := .next (s.engExec e (.shift .rol d s1 byReg amt))

/-- CLR (R233). -/
def execInsClr (e : Fin 13) (d : Nat) (s : State) : Out := .next (s.engExec e (.acc .clr d 0 0))

/-- NEGA (R233). -/
def execInsNega (e : Fin 13) (d : Nat) (s : State) : Out := .next (s.engExec e (.acc .nega d 0 0))

/-- ABSA (R233). -/
def execInsAbsa (e : Fin 13) (d : Nat) (s : State) : Out := .next (s.engExec e (.acc .absa d 0 0))

/-- LDA (R233). -/
def execInsLda (e : Fin 13) (d s1 : Nat) (s : State) : Out := .next (s.engExec e (.acc .lda d s1 0))

/-- LDAI (R233). -/
def execInsLdai (e : Fin 13) (d s1 : Nat) (s : State) : Out := .next (s.engExec e (.acc .ldai d s1 0))

/-- ADDA (R233). -/
def execInsAdda (e : Fin 13) (d s1 : Nat) (s : State) : Out := .next (s.engExec e (.acc .adda d s1 0))

/-- SUBA (R233). -/
def execInsSuba (e : Fin 13) (d s1 : Nat) (s : State) : Out := .next (s.engExec e (.acc .suba d s1 0))

/-- SHLA (R233). -/
def execInsShla (e : Fin 13) (d amt : Nat) (s : State) : Out := .next (s.engExec e (.acc .shla d 0 amt))

/-- SHRA (R233). -/
def execInsShra (e : Fin 13) (d amt : Nat) (s : State) : Out := .next (s.engExec e (.acc .shra d 0 amt))

/-- MVA (R234). -/
def execInsMva (e : Fin 13) (d s1 fld : Nat) (rnd : Bool) (s : State) : Out := .next (s.engExec e (.mva d s1 fld rnd))

/-- LDI (R235). -/
def execInsLdi (e : Fin 13) (d : Nat) (imm : BitVec 24) (s : State) : Out := .next (s.engExec e (.imm .ldi d imm.toNat))

/-- LDIH (R235). -/
def execInsLdih (e : Fin 13) (d : Nat) (imm : BitVec 24) (s : State) : Out := .next (s.engExec e (.imm .ldih d imm.toNat))

/-- ADDI (R235). -/
def execInsAddi (e : Fin 13) (d : Nat) (imm : BitVec 24) (s : State) : Out := .next (s.engExec e (.imm .addi d imm.toNat))

/-- CMPI (R235). -/
def execInsCmpi (e : Fin 13) (d : Nat) (imm : BitVec 24) (s : State) : Out := .next (s.engExec e (.imm .cmpi d imm.toNat))

/-- MOVS (R236). -/
def execInsMovs (e : Fin 13) (d s1 : Nat) (toSpecial : Bool) (s : State) : Out := .next (s.engExec e (.movs d s1 toSpecial))

/-- LD (R237). -/
def execInsLd (e : Fin 13) (g : Nat) (ybus : Bool) (ptr am : Nat) (off : BitVec 18) (s : State) : Out := .next (s.engExec e (.mem false g ybus ptr am off.toNat))

/-- ST (R237). -/
def execInsSt (e : Fin 13) (g : Nat) (ybus : Bool) (ptr am : Nat) (off : BitVec 18) (s : State) : Out := .next (s.engExec e (.mem true g ybus ptr am off.toNat))

/-- PSET (R238). -/
def execInsPset (e : Fin 13) (ptr : Nat) (addr : BitVec 24) (s : State) : Out := .next (s.engExec e (.pset ptr addr.toNat))

/-- PMODE (R238). -/
def execInsPmode (e : Fin 13) (ptr mode : Nat) (inc : BitVec 11) (len : BitVec 12) (s : State) : Out := .next (s.engExec e (.pmode ptr mode inc.toNat len.toNat))

/-- PRD (R239). -/
def execInsPrd (e : Fin 13) (d : Nat) (k1 : Bool) (s : State) : Out := .next (s.engExec e (.pmem false d k1))

/-- PWR (R239). -/
def execInsPwr (e : Fin 13) (d : Nat) (k1 : Bool) (s : State) : Out := .next (s.engExec e (.pmem true d k1))

/-- POP (R240). -/
def execInsPop (e : Fin 13) (g qc : Nat) (s : State) : Out := .next (s.engExec e (.queue .pop g qc))

/-- PUSH (R240). -/
def execInsPush (e : Fin 13) (g qc : Nat) (s : State) : Out := .next (s.engExec e (.queue .push g qc))

/-- WAITP (R240). -/
def execInsWaitp (e : Fin 13) (g qc : Nat) (s : State) : Out := .next (s.engExec e (.queue .waitp g qc))

/-- WAITC (R240). -/
def execInsWaitc (e : Fin 13) (g qc : Nat) (s : State) : Out := .next (s.engExec e (.queue .waitc g qc))

/-- OCC (R240). -/
def execInsOcc (e : Fin 13) (g qc : Nat) (s : State) : Out := .next (s.engExec e (.queue .occ g qc))

/-- CRED (R240). -/
def execInsCred (e : Fin 13) (g qc : Nat) (s : State) : Out := .next (s.engExec e (.queue .cred g qc))

/-- SINCOS (R241). -/
def execInsSincos (e : Fin 13) (d s1 : Nat) (s : State) : Out := .next (s.engExec e (.spec .sincos d s1 0))

/-- NORM (R241). -/
def execInsNorm (e : Fin 13) (d s1 : Nat) (s : State) : Out := .next (s.engExec e (.spec .norm d s1 0))

/-- SQRT (R241). -/
def execInsSqrt (e : Fin 13) (d s1 : Nat) (s : State) : Out := .next (s.engExec e (.spec .sqrt d s1 0))

/-- DIV (R241). -/
def execInsDiv (e : Fin 13) (d s1 s2 : Nat) (s : State) : Out := .next (s.engExec e (.spec .div d s1 s2))

/-- BR (R242). -/
def execInsBr (e : Fin 13) (cond : Nat) (target : BitVec 20) (s : State) : Out := .next (s.engExec e (.br cond target.toNat))

/-- CALL (R242). -/
def execInsCall (e : Fin 13) (cond : Nat) (target : BitVec 20) (s : State) : Out := .next (s.engExec e (.call cond target.toNat))

/-- RET (R242). -/
def execInsRet (e : Fin 13) (s : State) : Out := .next (s.engExec e (.ret))

/-- JR (R242). -/
def execInsJr (e : Fin 13) (s1 : Nat) (s : State) : Out := .next (s.engExec e (.jr s1 false))

/-- CALLR (R242). -/
def execInsCallr (e : Fin 13) (s1 : Nat) (s : State) : Out := .next (s.engExec e (.jr s1 true))

/-- LOOP (R244). -/
def execInsLoop (e : Fin 13) (rotf csrc : Bool) (cnt len : Nat) (s : State) : Out := .next (s.engExec e (.loop rotf csrc cnt len))

/-- BREAK (R245). -/
def execInsBreak (e : Fin 13) (cond : Nat) (s : State) : Out := .next (s.engExec e (.brk cond))

/-- REPEAT (R246). -/
def execInsRepeat (e : Fin 13) (csrc : Bool) (cnt : Nat) (s : State) : Out := .next (s.engExec e (.rep csrc cnt))

/-- HBEAT (R247). -/
def execInsHbeat (e : Fin 13) (s : State) : Out := .next (s.engExec e (.hbeat))

/-- TEND (R209, R243). -/
def execInsTend (e : Fin 13) (s : State) : Out := .next (s.engExec e (.tend))

/-- NOP (R247). -/
def execInsNop (e : Fin 13) (s : State) : Out := .next (s.engExec e (.nop))

end Sys2Proof.Machine
end

