-- ==== Sys2Proof/Machine/HostRows.lean ====
section
/-! DEFINITION. The PCI Express link, the service SPI port, the JTAG port, and the boot of PE (R64, R426-R435, R440). -/

namespace Sys2Proof.Machine

/-! ### The endpoint (R422, R427) -/

/-- A change of the endpoint's link or configuration: vectors that become able to send and hold unsent firings send, and the host
DMA channels go on with what waited (R422, R427). -/
def State.hostChange (s : State) (f : HostPart → HostPart) : State :=
  let t := s.updHost f
  let opened := (t.vecOrder t.now).filter (fun v => t.msiReady v.val && !s.msiReady v.val)
  (forEach opened (fun v t => t.msiRelease v) t).dmaBacks

/-- PCIE_LINK_UP (R64, R427): training has ended. -/
def execPcieLinkUp (s : State) : Out :=
  .next (if s.rst.mgmtRel && !s.host.linkUp then s.hostChange (fun h => { h with linkUp := true }) else s)

/-- A base address takes a multiple of the 32 MiB of its region (R426). -/
def CfgSpace.setBar (c : CfgSpace) (second : Bool) (base : BitVec 64) : CfgSpace :=
  let a := BitVec.ofNat 64 (base.toNat / 2 ^ 25 * 2 ^ 25)
  if second then { c with bar2 := a } else { c with bar0 := a }

/-- Device Control sets the payload and the read request in bytes, up to 256 and 512 (R426). -/
def CfgSpace.setSizes (c : CfgSpace) (payload request : Fin 8) : CfgSpace :=
  { c with maxPayload := min 256 (128 * 2 ^ payload.val), maxRead := min 512 (128 * 2 ^ request.val) }

/-- PCIE_CONFIG_WRITE (R422, R426, R427): the host writes the endpoint's configuration space; class code and Interrupt Pin are
read-only. -/
def execPcieConfigWrite (c : CfgWrite) (s : State) : Out :=
  .next (if !s.host.linkUp then s
  else match c with
    | .d3hot on => s.hostChange (fun h => { h with d3hot := on })
    | .busMaster on => s.hostChange (fun h => { h with busMaster := on })
    | .msiEnable on => s.hostChange (fun h => { h with msiEnable := on })
    | .msiMask v on => s.hostChange (fun h => { h with msiMask := BitVec.ofNat 16 (putBit h.msiMask.toNat v.val on) })
    | .bar second base => if second && !Config.bar2Fuse then s else s.updHost (fun h => { h with cfg := h.cfg.setBar second base })
    | .msiMessage addr data => s.updHost (fun h => { h with cfg := { h.cfg with msiAddr := addr, msiData := data } })
    | .deviceControl payload request => s.updHost (fun h => { h with cfg := h.cfg.setSizes payload request }))

/-! ### The service SPI port (R431) -/

/-- SPI_ERR fires and the frame counts as faulted. -/
def State.spiFault (s : State) : State := (s.updHost (fun h => { h with spiErr := true })).fire .dbg 2

/-- A served frame begins with nothing sent. -/
def State.spiBegin (s : State) : State := s.updHost (fun h => { h with spiErr := false, spiOut := [] })

/-- The slots of a WRITE frame, one after the other; one held in the port ends the frame at the next (R64, R431). -/
def State.spiSlots (s : State) : Nat → List (BitVec 64) → State
  | _, [] => s
  | a, v :: l => if s.holds .spi then s.spiFault else State.spiSlots (s.write64 .spi a v) (a + 8) l

/-- SPI_WRITE (R431): `partial_` where SPI_CS rises within a slot. A frame with an unknown opcode has the effect of one with nonzero
address bits 31:25 and comes as such a row (log 71). -/
def execSpiWrite (addr : BitVec 32) (slots : List (BitVec 64)) (partial_ : Bool) (s : State) : Out :=
  if !s.rst.mgmtRel then .next s
  else
    let s := s.spiBegin
    if addr.toNat / 2 ^ 25 ≠ 0 then .next s.spiFault
    else
      let s := s.spiSlots addr.toNat slots
      .next (if partial_ && !s.host.spiErr then s.spiFault else s)

/-- SPI_READ of `count` slots (R431). -/
def execSpiRead (addr : BitVec 32) (count : Nat) (s : State) : Out :=
  if !s.rst.mgmtRel then .next s
  else
    let s := s.spiBegin
    if addr.toNat / 2 ^ 25 ≠ 0 then .next s.spiFault
    else .next ((List.range count).foldl (fun s i => s.readAt .spi (addr.toNat + 8 * i) none) s)

/-- SPI_STATUS (R431): READY, ERR of the frame before, BOOTED. -/
def execSpiStatus (s : State) : Out :=
  if !s.rst.mgmtRel then .next s
  else
    let b := b2n s.rst.storeRdy ||| b2n s.host.spiErr <<< 1 ||| b2n (s.flag .ovl OVL.BASE_STAT.DONE) <<< 2
    .next (s.updHost (fun h => { h with spiOut := [BitVec.ofNat 8 b] }))

/-- HELD_ACCESS_COMPLETE (R64): the accesses held whose target is ready complete, in order. -/
def execHeldAccessComplete (s : State) : Out := .next (State.heldRun { s with held := [] } s.held)

/-! ### PE's boot (R432) -/

/-- PE_BOOT_START: with a base image applied in full PE starts the axis engines; the words of its firmware tasks stand in its task
table (R209, R432). -/
def execPeBootStart (s : State) : Out :=
  if s.peLive && s.flag .ovl OVL.BASE_STAT.DONE then
    let s := forEach (List.range 24) (fun i s =>
      (s.setWord .pe (PE.TASK.EN.nth i).off (Config.peTask false i)).setWord .pe (PE.TASK_LIM.LIMIT.nth i).off (Config.peTask true i)) s
    .next (forEach (List.finRange 12) (fun k s => s.doIf (s.engState k == 0) (fun s => s.engStart k)) s)
  else .next s

/-! ### The JTAG port (R433, R434) -/

/-- Whether EXTEST and DBGACC act: DBG is released and JTAG_EN reads 1 (R434). -/
def State.jtagOn (s : State) : Bool := s.rst.mgmtRel && s.flag .dbg DBG.DBG_CTRL.JTAG_EN

/-- An instruction of the port with the bits it shifts out; one other than EXTEST leaves the balls to the logic. -/
def State.jtag (s : State) (ir : Nat) (out : List Bool) : State := s.updHost (fun h => { h with jtagIr := ir, jtagOut := out, extest := false })

/-- BYPASS (R433): one bit that captures 0. -/
def execBypass (s : State) : Out := .next (s.jtag 0 [false])

/-- IDCODE (R433). -/
def execIdcode (s : State) : Out := .next (s.jtag 1 (bitsOut 32 Config.idcode.toNat))

/-- SAMPLE/PRELOAD (R433): the boundary cells take the levels of the pins. -/
def execSamplePreload (pins : List Bool) (s : State) : Out :=
  .next ((s.jtag 2 pins).updHost (fun h => { h with boundary := pins }))

/-- EXTEST (R433, R434): the boundary cells drive the balls, PENnn and SOUTn apart; BYPASS while debug access is closed. -/
def execExtest (drive : List Bool) (s : State) : Out :=
  .next (if s.jtagOn then (s.jtag 3 s.host.boundary).updHost (fun h => { h with boundary := drive, extest := true }) else s.jtag 0 [false])

/-- DBGACC (R433, R434): an access of the register map through ARB; BYPASS while debug access is closed. -/
def execDbgacc (wr : Bool) (addr : Nat) (w : Word) (s : State) : Out :=
  .next (if s.jtagOn then
    let s := s.jtag 4 []
    if wr then s.write64 .jtag addr (wide w) else s.readAt .jtag addr none
  else s.jtag 0 [false])

/-- VIO33_OVERLOAD (R440): what the supply does; nothing else of the module follows. -/
def execVio33Overload (mode : Vio33) (s : State) : Out := .next (s.updHost (fun h => { h with vio33 := mode }))

end Sys2Proof.Machine
end

