-- ==== Sys2Proof/Machine/Dispatch.lean ====
section
/-! DEFINITION. One arm per constructor of `Instr`: the meaning of each command. -/

namespace Sys2Proof.Machine

/-- The effect of a command on everything but the queue. -/
def exec (i : Instr) (s : State) : Host.Outcome State Fault Refusal :=
  match i with
  | .registerWrite r addr data => Sys2Proof.Machine.execRegisterWrite r addr data s
  | .pcieMemoryRequest r addr wr narrow data => Sys2Proof.Machine.execPcieMemoryRequest r addr wr narrow data s
  | .write32Low r addr data => Sys2Proof.Machine.execWrite32Low r addr data s
  | .write32High r addr data => Sys2Proof.Machine.execWrite32High r addr data s
  | .read32Low r addr => Sys2Proof.Machine.execRead32Low r addr s
  | .read32High r addr => Sys2Proof.Machine.execRead32High r addr s
  | .softReset r p freeze en => Sys2Proof.Machine.execSoftReset r p freeze en s
  | .softResetDone p => Sys2Proof.Machine.execSoftResetDone p s
  | .pageEnWrite r p en => Sys2Proof.Machine.execPageEnWrite r p en s
  | .eventAck r p bits => Sys2Proof.Machine.execEventAck r p bits s
  | .unlockKey1 r => Sys2Proof.Machine.execUnlockKey1 r s
  | .unlockKey2 r => Sys2Proof.Machine.execUnlockKey2 r s
  | .unlockOtherValue r w => Sys2Proof.Machine.execUnlockOtherValue r w s
  | .unlockWindowExpiry => Sys2Proof.Machine.execUnlockWindowExpiry s
  | .pllLock => Sys2Proof.Machine.execPllLock s
  | .clockUngate => Sys2Proof.Machine.execClockUngate s
  | .pllLockLoss => Sys2Proof.Machine.execPllLockLoss s
  | .rootWatchWindow count => Sys2Proof.Machine.execRootWatchWindow count s
  | .siWatchWindow count => Sys2Proof.Machine.execSiWatchWindow count s
  | .sclkSiStop => Sys2Proof.Machine.execSclkSiStop s
  | .powerOnAssert => Sys2Proof.Machine.execPowerOnAssert s
  | .powerOnRelease => Sys2Proof.Machine.execPowerOnRelease s
  | .brownOutAssert => Sys2Proof.Machine.execBrownOutAssert s
  | .brownOutRelease => Sys2Proof.Machine.execBrownOutRelease s
  | .resetInPulse ns => Sys2Proof.Machine.execResetInPulse ns s
  | .watchdogWarning w => Sys2Proof.Machine.execWatchdogWarning w s
  | .watchdogExpiry w => Sys2Proof.Machine.execWatchdogExpiry w s
  | .wdtKickMgmt r => Sys2Proof.Machine.execWdtKickMgmt r s
  | .wdtKickData r => Sys2Proof.Machine.execWdtKickData r s
  | .wdtKickCtrl r => Sys2Proof.Machine.execWdtKickCtrl r s
  | .softwareWarmReset r => Sys2Proof.Machine.execSoftwareWarmReset r s
  | .softwareColdReset r => Sys2Proof.Machine.execSoftwareColdReset r s
  | .warmResetAssert src => Sys2Proof.Machine.execWarmResetAssert src s
  | .resetStretchEnd => Sys2Proof.Machine.execResetStretchEnd s
  | .managementRelease => Sys2Proof.Machine.execManagementRelease s
  | .storeReady => Sys2Proof.Machine.execStoreReady s
  | .peripheralRelease => Sys2Proof.Machine.execPeripheralRelease s
  | .drivePortRelease => Sys2Proof.Machine.execDrivePortRelease s
  | .servoBoundary k => Sys2Proof.Machine.execServoBoundary k s
  | .profileCutoff k => Sys2Proof.Machine.execProfileCutoff k s
  | .axCfgWrite r n w => Sys2Proof.Machine.execAxCfgWrite r n w s
  | .axisAck r n => Sys2Proof.Machine.execAxisAck r n s
  | .queueStatClr r q => Sys2Proof.Machine.execQueueStatClr r q s
  | .starve n => Sys2Proof.Machine.execStarve n s
  | .curMiss n => Sys2Proof.Machine.execCurMiss n s
  | .fbLoss n => Sys2Proof.Machine.execFbLoss n s
  | .currentPass n => Sys2Proof.Machine.execCurrentPass n s
  | .curWaitExpiry n => Sys2Proof.Machine.execCurWaitExpiry n s
  | .servoTask n => Sys2Proof.Machine.execServoTask n s
  | .stepperLoopTask n => Sys2Proof.Machine.execStepperLoopTask n s
  | .moveStart r n table => Sys2Proof.Machine.execMoveStart r n table s
  | .moveAppend r n table => Sys2Proof.Machine.execMoveAppend r n table s
  | .moveReplace r n table => Sys2Proof.Machine.execMoveReplace r n table s
  | .rampStop r n => Sys2Proof.Machine.execRampStop r n s
  | .hardStop r n => Sys2Proof.Machine.execHardStop r n s
  | .moveClear r n => Sys2Proof.Machine.execMoveClear r n s
  | .directoryEntryArrival n => Sys2Proof.Machine.execDirectoryEntryArrival n s
  | .refillTablet => Sys2Proof.Machine.execRefillTablet s
  | .segmentPush r n w3 => Sys2Proof.Machine.execSegmentPush r n w3 s
  | .profCfgWrite r n w => Sys2Proof.Machine.execProfCfgWrite r n w s
  | .limitDebounceAccept n pos active => Sys2Proof.Machine.execLimitDebounceAccept n pos active s
  | .gearEngage r n => Sys2Proof.Machine.execGearEngage r n s
  | .gearDisengage r n => Sys2Proof.Machine.execGearDisengage r n s
  | .gearConfigWrite r n off w => Sys2Proof.Machine.execGearConfigWrite r n off w s
  | .masterLost n => Sys2Proof.Machine.execMasterLost n s
  | .vmEnable r v w => Sys2Proof.Machine.execVmEnable r v w s
  | .vmFrameReceived v => Sys2Proof.Machine.execVmFrameReceived v s
  | .vmOutlierLoss v => Sys2Proof.Machine.execVmOutlierLoss v s
  | .vmMasterPush n dt => Sys2Proof.Machine.execVmMasterPush n dt s
  | .govConfigWrite r n off w => Sys2Proof.Machine.execGovConfigWrite r n off w s
  | .modelPublish r n => Sys2Proof.Machine.execModelPublish r n s
  | .modelRecordTakeup n => Sys2Proof.Machine.execModelRecordTakeup n s
  | .govOverspeed n => Sys2Proof.Machine.execGovOverspeed n s
  | .oqEntryProcess n => Sys2Proof.Machine.execOqEntryProcess n s
  | .obstacle n => Sys2Proof.Machine.execObstacle n s
  | .govForce n => Sys2Proof.Machine.execGovForce n s
  | .loopRateWrite r k w => Sys2Proof.Machine.execLoopRateWrite r k w s
  | .loopParamWrite r n off w => Sys2Proof.Machine.execLoopParamWrite r n off w s
  | .vsat n => Sys2Proof.Machine.execVsat n s
  | .solenoidOn r n => Sys2Proof.Machine.execSolenoidOn r n s
  | .solenoidOff r n => Sys2Proof.Machine.execSolenoidOff r n s
  | .solenoidPullEnd n => Sys2Proof.Machine.execSolenoidPullEnd n s
  | .feFault n => Sys2Proof.Machine.execFeFault n s
  | .diceStart r n => Sys2Proof.Machine.execDiceStart r n s
  | .diceCapture r n => Sys2Proof.Machine.execDiceCapture r n s
  | .diceStop r n => Sys2Proof.Machine.execDiceStop r n s
  | .diceEnd n => Sys2Proof.Machine.execDiceEnd n s
  | .captureComplete n => Sys2Proof.Machine.execCaptureComplete n s
  | .captureWriterTablet k => Sys2Proof.Machine.execCaptureWriterTablet k s
  | .doorOpen r d sync => Sys2Proof.Machine.execDoorOpen r d sync s
  | .doorClose r d => Sys2Proof.Machine.execDoorClose r d s
  | .doorStop r d => Sys2Proof.Machine.execDoorStop r d s
  | .doorInService r d => Sys2Proof.Machine.execDoorInService r d s
  | .doorOutOfService r d => Sys2Proof.Machine.execDoorOutOfService r d s
  | .doorAckAlarm r d => Sys2Proof.Machine.execDoorAckAlarm r d s
  | .doorReload r d => Sys2Proof.Machine.execDoorReload r d s
  | .doorResetBase r d => Sys2Proof.Machine.execDoorResetBase r d s
  | .platformCommand r op dmask => Sys2Proof.Machine.execPlatformCommand r op dmask s
  | .sequencerTakeup => Sys2Proof.Machine.execSequencerTakeup s
  | .lockConfirmTimeout d => Sys2Proof.Machine.execLockConfirmTimeout d s
  | .obstacleReversal d => Sys2Proof.Machine.execObstacleReversal d s
  | .reopenDwellEnd d => Sys2Proof.Machine.execReopenDwellEnd d s
  | .doorwayAxisFault d => Sys2Proof.Machine.execDoorwayAxisFault d s
  | .doorwayStateChange d => Sys2Proof.Machine.execDoorwayStateChange d s
  | .overlayLoad r slot src => Sys2Proof.Machine.execOverlayLoad r slot src s
  | .overlayErase r slot => Sys2Proof.Machine.execOverlayErase r slot s
  | .baseLoad r => Sys2Proof.Machine.execBaseLoad r s
  | .baseLoadComplete => Sys2Proof.Machine.execBaseLoadComplete s
  | .overlaySwitchRequest r w => Sys2Proof.Machine.execOverlaySwitchRequest r w s
  | .overlayCommit => Sys2Proof.Machine.execOverlayCommit s
  | .taskTrigger e ix => Sys2Proof.Machine.execTaskTrigger e ix s
  | .taskDispatch e => Sys2Proof.Machine.execTaskDispatch e s
  | .urgentTaskPreempt ix => Sys2Proof.Machine.execUrgentTaskPreempt ix s
  | .taskLimitExceeded e => Sys2Proof.Machine.execTaskLimitExceeded e s
  | .engineTrap k cause => Sys2Proof.Machine.execEngineTrap k cause s
  | .engineFailureHandling k => Sys2Proof.Machine.execEngineFailureHandling k s
  | .trapAxisTimeout n => Sys2Proof.Machine.execTrapAxisTimeout n s
  | .engineReload k => Sys2Proof.Machine.execEngineReload k s
  | .engineReadmit k => Sys2Proof.Machine.execEngineReadmit k s
  | .peTrap cause => Sys2Proof.Machine.execPeTrap cause s
  | .heartbeatCheck k => Sys2Proof.Machine.execHeartbeatCheck k s
  | .hbFail k => Sys2Proof.Machine.execHbFail k s
  | .engineStart r k => Sys2Proof.Machine.execEngineStart r k s
  | .engineHalt r k => Sys2Proof.Machine.execEngineHalt r k s
  | .engineHaltComplete k => Sys2Proof.Machine.execEngineHaltComplete k s
  | .engineReset r k => Sys2Proof.Machine.execEngineReset r k s
  | .engineWindowAccess r addr wr w => Sys2Proof.Machine.execEngineWindowAccess r addr wr w s
  | .taskTableWrite r e off w => Sys2Proof.Machine.execTaskTableWrite r e off w s
  | .undefinedOpcode e w => Sys2Proof.Machine.execUndefinedOpcode e w s
  | .reservedEncodingTrap e w => Sys2Proof.Machine.execReservedEncodingTrap e w s
  | .insMove e xm ym => Sys2Proof.Machine.execInsMove e xm ym s
  | .insMpy e acc s1 s2 co xm ym => Sys2Proof.Machine.execInsMpy e acc s1 s2 co xm ym s
  | .insMac e acc s1 s2 co xm ym => Sys2Proof.Machine.execInsMac e acc s1 s2 co xm ym s
  | .insMsu e acc s1 s2 co xm ym => Sys2Proof.Machine.execInsMsu e acc s1 s2 co xm ym s
  | .insMacsu e acc s1 s2 co xm ym => Sys2Proof.Machine.execInsMacsu e acc s1 s2 co xm ym s
  | .insMacuu e acc s1 s2 co xm ym => Sys2Proof.Machine.execInsMacuu e acc s1 s2 co xm ym s
  | .insMaca e acc s1 s2 co xm ym => Sys2Proof.Machine.execInsMaca e acc s1 s2 co xm ym s
  | .insLmove e xm ym => Sys2Proof.Machine.execInsLmove e xm ym s
  | .insLmpy e acc s1 s2 co xm ym => Sys2Proof.Machine.execInsLmpy e acc s1 s2 co xm ym s
  | .insLmac e acc s1 s2 co xm ym => Sys2Proof.Machine.execInsLmac e acc s1 s2 co xm ym s
  | .insLmsu e acc s1 s2 co xm ym => Sys2Proof.Machine.execInsLmsu e acc s1 s2 co xm ym s
  | .insAdd e d s1 s2 => Sys2Proof.Machine.execInsAdd e d s1 s2 s
  | .insSub e d s1 s2 => Sys2Proof.Machine.execInsSub e d s1 s2 s
  | .insAnd e d s1 s2 => Sys2Proof.Machine.execInsAnd e d s1 s2 s
  | .insOr e d s1 s2 => Sys2Proof.Machine.execInsOr e d s1 s2 s
  | .insXor e d s1 s2 => Sys2Proof.Machine.execInsXor e d s1 s2 s
  | .insAndn e d s1 s2 => Sys2Proof.Machine.execInsAndn e d s1 s2 s
  | .insMin e d s1 s2 => Sys2Proof.Machine.execInsMin e d s1 s2 s
  | .insMax e d s1 s2 => Sys2Proof.Machine.execInsMax e d s1 s2 s
  | .insAbs e d s1 => Sys2Proof.Machine.execInsAbs e d s1 s
  | .insNeg e d s1 => Sys2Proof.Machine.execInsNeg e d s1 s
  | .insMov e d s1 => Sys2Proof.Machine.execInsMov e d s1 s
  | .insNot e d s1 => Sys2Proof.Machine.execInsNot e d s1 s
  | .insCmp e s1 s2 => Sys2Proof.Machine.execInsCmp e s1 s2 s
  | .insTst e s1 s2 => Sys2Proof.Machine.execInsTst e s1 s2 s
  | .insAsl e d s1 byReg amt => Sys2Proof.Machine.execInsAsl e d s1 byReg amt s
  | .insAsr e d s1 byReg amt => Sys2Proof.Machine.execInsAsr e d s1 byReg amt s
  | .insLsr e d s1 byReg amt => Sys2Proof.Machine.execInsLsr e d s1 byReg amt s
  | .insRol e d s1 byReg amt => Sys2Proof.Machine.execInsRol e d s1 byReg amt s
  | .insClr e d => Sys2Proof.Machine.execInsClr e d s
  | .insLda e d s1 => Sys2Proof.Machine.execInsLda e d s1 s
  | .insLdai e d s1 => Sys2Proof.Machine.execInsLdai e d s1 s
  | .insAdda e d s1 => Sys2Proof.Machine.execInsAdda e d s1 s
  | .insSuba e d s1 => Sys2Proof.Machine.execInsSuba e d s1 s
  | .insNega e d => Sys2Proof.Machine.execInsNega e d s
  | .insAbsa e d => Sys2Proof.Machine.execInsAbsa e d s
  | .insShla e d amt => Sys2Proof.Machine.execInsShla e d amt s
  | .insShra e d amt => Sys2Proof.Machine.execInsShra e d amt s
  | .insMva e d s1 fld rnd => Sys2Proof.Machine.execInsMva e d s1 fld rnd s
  | .insLdi e d imm => Sys2Proof.Machine.execInsLdi e d imm s
  | .insLdih e d imm => Sys2Proof.Machine.execInsLdih e d imm s
  | .insAddi e d imm => Sys2Proof.Machine.execInsAddi e d imm s
  | .insCmpi e d imm => Sys2Proof.Machine.execInsCmpi e d imm s
  | .insMovs e d s1 toSpecial => Sys2Proof.Machine.execInsMovs e d s1 toSpecial s
  | .insLd e g ybus ptr am off => Sys2Proof.Machine.execInsLd e g ybus ptr am off s
  | .insSt e g ybus ptr am off => Sys2Proof.Machine.execInsSt e g ybus ptr am off s
  | .insPset e ptr addr => Sys2Proof.Machine.execInsPset e ptr addr s
  | .insPmode e ptr mode inc len => Sys2Proof.Machine.execInsPmode e ptr mode inc len s
  | .insPrd e d k1 => Sys2Proof.Machine.execInsPrd e d k1 s
  | .insPwr e d k1 => Sys2Proof.Machine.execInsPwr e d k1 s
  | .insPop e g qc => Sys2Proof.Machine.execInsPop e g qc s
  | .insPush e g qc => Sys2Proof.Machine.execInsPush e g qc s
  | .insWaitp e g qc => Sys2Proof.Machine.execInsWaitp e g qc s
  | .insWaitc e g qc => Sys2Proof.Machine.execInsWaitc e g qc s
  | .insQueueWaitEnd e => Sys2Proof.Machine.execInsQueueWaitEnd e s
  | .insOcc e g qc => Sys2Proof.Machine.execInsOcc e g qc s
  | .insCred e g qc => Sys2Proof.Machine.execInsCred e g qc s
  | .insSincos e d s1 => Sys2Proof.Machine.execInsSincos e d s1 s
  | .insNorm e d s1 => Sys2Proof.Machine.execInsNorm e d s1 s
  | .insDiv e d s1 s2 => Sys2Proof.Machine.execInsDiv e d s1 s2 s
  | .insSqrt e d s1 => Sys2Proof.Machine.execInsSqrt e d s1 s
  | .insBr e cond target => Sys2Proof.Machine.execInsBr e cond target s
  | .insCall e cond target => Sys2Proof.Machine.execInsCall e cond target s
  | .insRet e => Sys2Proof.Machine.execInsRet e s
  | .insJr e s1 => Sys2Proof.Machine.execInsJr e s1 s
  | .insCallr e s1 => Sys2Proof.Machine.execInsCallr e s1 s
  | .insLoop e rotf csrc cnt len => Sys2Proof.Machine.execInsLoop e rotf csrc cnt len s
  | .insBreak e cond => Sys2Proof.Machine.execInsBreak e cond s
  | .insRepeat e csrc cnt => Sys2Proof.Machine.execInsRepeat e csrc cnt s
  | .insHbeat e => Sys2Proof.Machine.execInsHbeat e s
  | .insTend e => Sys2Proof.Machine.execInsTend e s
  | .insNop e => Sys2Proof.Machine.execInsNop e s
  | .carrierStart k => Sys2Proof.Machine.execCarrierStart k s
  | .drivePortDqPop n => Sys2Proof.Machine.execDrivePortDqPop n s
  | .penLow n => Sys2Proof.Machine.execPenLow n s
  | .delayLineCalibration n ntap => Sys2Proof.Machine.execDelayLineCalibration n ntap s
  | .calibrationMapTakeup n => Sys2Proof.Machine.execCalibrationMapTakeup n s
  | .trip n level => Sys2Proof.Machine.execTrip n level s
  | .cbcLimitLatch n => Sys2Proof.Machine.execCbcLimitLatch n s
  | .rearm r n => Sys2Proof.Machine.execRearm r n s
  | .chopperComparatorTrip n coilB volt => Sys2Proof.Machine.execChopperComparatorTrip n coilB volt s
  | .chopperTonMaxExpiry n coilB => Sys2Proof.Machine.execChopperTonMaxExpiry n coilB s
  | .chopperOffTimeEnd n coilB => Sys2Proof.Machine.execChopperOffTimeEnd n coilB s
  | .openLoad n coilB => Sys2Proof.Machine.execOpenLoad n coilB s
  | .fbLineEdge n lines => Sys2Proof.Machine.execFbLineEdge n lines s
  | .minEdgeAccept n line => Sys2Proof.Machine.execMinEdgeAccept n line s
  | .fbSample n => Sys2Proof.Machine.execFbSample n s
  | .fbStandstillTimeout n => Sys2Proof.Machine.execFbStandstillTimeout n s
  | .setpos r n => Sys2Proof.Machine.execSetpos r n s
  | .latch r n byChannel => Sys2Proof.Machine.execLatch r n byChannel s
  | .seqRun r n => Sys2Proof.Machine.execSeqRun r n s
  | .seqHalt r n => Sys2Proof.Machine.execSeqHalt r n s
  | .seqAbort r n => Sys2Proof.Machine.execSeqAbort r n s
  | .fbCounterClr r n => Sys2Proof.Machine.execFbCounterClr r n s
  | .serialFrameTrigger n => Sys2Proof.Machine.execSerialFrameTrigger n s
  | .serialFrameEnd n => Sys2Proof.Machine.execSerialFrameEnd n s
  | .serialFrameTimeout n => Sys2Proof.Machine.execSerialFrameTimeout n s
  | .seqEnd n => Sys2Proof.Machine.execSeqEnd n s
  | .seqSet n => Sys2Proof.Machine.execSeqSet n s
  | .seqShift n bits => Sys2Proof.Machine.execSeqShift n bits s
  | .seqWaitb n b => Sys2Proof.Machine.execSeqWaitb n b s
  | .seqWaitbTimeout n => Sys2Proof.Machine.execSeqWaitbTimeout n s
  | .seqExpect n => Sys2Proof.Machine.execSeqExpect n s
  | .seqCrci n => Sys2Proof.Machine.execSeqCrci n s
  | .seqCrcchk n => Sys2Proof.Machine.execSeqCrcchk n s
  | .seqPar n => Sys2Proof.Machine.execSeqPar n s
  | .seqLoadp n => Sys2Proof.Machine.execSeqLoadp n s
  | .seqTxld n => Sys2Proof.Machine.execSeqTxld n s
  | .seqBr n b => Sys2Proof.Machine.execSeqBr n b s
  | .seqMark n => Sys2Proof.Machine.execSeqMark n s
  | .seqProgramWrite r n off w => Sys2Proof.Machine.execSeqProgramWrite r n off w s
  | .fbCfgWrite r n w => Sys2Proof.Machine.execFbCfgWrite r n w s
  | .echoCfgWrite r ix w => Sys2Proof.Machine.execEchoCfgWrite r ix w s
  | .adcConversion u code => Sys2Proof.Machine.execAdcConversion u code s
  | .sequenceRestart u => Sys2Proof.Machine.execSequenceRestart u s
  | .adcZero r u => Sys2Proof.Machine.execAdcZero r u s
  | .adcZeroDone u => Sys2Proof.Machine.execAdcZeroDone u s
  | .vsafeFault => Sys2Proof.Machine.execVsafeFault s
  | .vsafeRecovery => Sys2Proof.Machine.execVsafeRecovery s
  | .safetyInputAccept dec ix level => Sys2Proof.Machine.execSafetyInputAccept dec ix level s
  | .safetyInputMismatch ix => Sys2Proof.Machine.execSafetyInputMismatch ix s
  | .switchCheck dec live => Sys2Proof.Machine.execSwitchCheck dec live s
  | .safetyArm r => Sys2Proof.Machine.execSafetyArm r s
  | .safetyClrOut r => Sys2Proof.Machine.execSafetyClrOut r s
  | .sfbDemandExpiry dec ix => Sys2Proof.Machine.execSfbDemandExpiry dec ix s
  | .sfbDiscrepancy dec ix => Sys2Proof.Machine.execSfbDiscrepancy dec ix s
  | .twoHandWindowExpiry dec ix => Sys2Proof.Machine.execTwoHandWindowExpiry dec ix s
  | .spPermissionUpdate => Sys2Proof.Machine.execSpPermissionUpdate s
  | .peWatchWindowExpiry => Sys2Proof.Machine.execPeWatchWindowExpiry s
  | .peHealthy => Sys2Proof.Machine.execPeHealthy s
  | .ladderHealthTimeout => Sys2Proof.Machine.execLadderHealthTimeout s
  | .ladderClear => Sys2Proof.Machine.execLadderClear s
  | .penReadbackFault n => Sys2Proof.Machine.execPenReadbackFault n s
  | .soutOffPulse n => Sys2Proof.Machine.execSoutOffPulse n s
  | .soutOffPulseEnd n readsOn => Sys2Proof.Machine.execSoutOffPulseEnd n readsOn s
  | .soutStuck n => Sys2Proof.Machine.execSoutStuck n s
  | .soutOpen n => Sys2Proof.Machine.execSoutOpen n s
  | .spDiag d => Sys2Proof.Machine.execSpDiag d s
  | .takeover cause => Sys2Proof.Machine.execTakeover cause s
  | .lockout cause => Sys2Proof.Machine.execLockout cause s
  | .fieldScan b balls inband ma cur => Sys2Proof.Machine.execFieldScan b balls inband ma cur s
  | .fieldInputAccept b ix level => Sys2Proof.Machine.execFieldInputAccept b ix level s
  | .wireBreak b ix => Sys2Proof.Machine.execWireBreak b ix s
  | .wireBreakClear b ix => Sys2Proof.Machine.execWireBreakClear b ix s
  | .overload b ix => Sys2Proof.Machine.execOverload b ix s
  | .overloadAutoRestart b ix => Sys2Proof.Machine.execOverloadAutoRestart b ix s
  | .bankOver b => Sys2Proof.Machine.execBankOver b s
  | .vfLow b => Sys2Proof.Machine.execVfLow b s
  | .vfLowClear b => Sys2Proof.Machine.execVfLowClear b s
  | .wdExp b => Sys2Proof.Machine.execWdExp b s
  | .kick r b => Sys2Proof.Machine.execKick r b s
  | .resume r b => Sys2Proof.Machine.execResume r b s
  | .bankClr r b => Sys2Proof.Machine.execBankClr r b s
  | .outSet r b bits => Sys2Proof.Machine.execOutSet r b bits s
  | .outClr r b bits => Sys2Proof.Machine.execOutClr r b bits s
  | .channelDirectionChange r b ix w => Sys2Proof.Machine.execChannelDirectionChange r b ix w s
  | .storeRequest q own wr addr len data => Sys2Proof.Machine.execStoreRequest q own wr addr len data s
  | .arbCycle => Sys2Proof.Machine.execArbCycle s
  | .dwellPromotion => Sys2Proof.Machine.execDwellPromotion s
  | .storeReadReturn ecc => Sys2Proof.Machine.execStoreReadReturn ecc s
  | .storeRefresh => Sys2Proof.Machine.execStoreRefresh s
  | .storeRefreshEnd => Sys2Proof.Machine.execStoreRefreshEnd s
  | .timetableCommit r => Sys2Proof.Machine.execTimetableCommit r s
  | .timetableTakeup => Sys2Proof.Machine.execTimetableTakeup s
  | .arbCounterClr r => Sys2Proof.Machine.execArbCounterClr r s
  | .probeChange ix level tap => Sys2Proof.Machine.execProbeChange ix level tap s
  | .recWindowEnd => Sys2Proof.Machine.execRecWindowEnd s
  | .recTimeMark => Sys2Proof.Machine.execRecTimeMark s
  | .recDrain => Sys2Proof.Machine.execRecDrain s
  | .triggerFire ix => Sys2Proof.Machine.execTriggerFire ix s
  | .arm r => Sys2Proof.Machine.execArm r s
  | .force r => Sys2Proof.Machine.execForce r s
  | .stop r => Sys2Proof.Machine.execStop r s
  | .capturePostExpiry => Sys2Proof.Machine.execCapturePostExpiry s
  | .recReadData r => Sys2Proof.Machine.execRecReadData r s
  | .recConfigWrite r pg2 off w => Sys2Proof.Machine.execRecConfigWrite r pg2 off w s
  | .baonEmit => Sys2Proof.Machine.execBaonEmit s
  | .baonTriggerReceived tap => Sys2Proof.Machine.execBaonTriggerReceived tap s
  | .baonMeasure r => Sys2Proof.Machine.execBaonMeasure r s
  | .baonEchoReceived rt => Sys2Proof.Machine.execBaonEchoReceived rt s
  | .baonEchoTimeout => Sys2Proof.Machine.execBaonEchoTimeout s
  | .baonLost => Sys2Proof.Machine.execBaonLost s
  | .canFrameReceived c f => Sys2Proof.Machine.execCanFrameReceived c f s
  | .canRingWrite c => Sys2Proof.Machine.execCanRingWrite c s
  | .canReadData r c => Sys2Proof.Machine.execCanReadData r c s
  | .canModeWrite r c w => Sys2Proof.Machine.execCanModeWrite r c w s
  | .canBusJoin c => Sys2Proof.Machine.execCanBusJoin c s
  | .busOff c => Sys2Proof.Machine.execBusOff c s
  | .recover r c => Sys2Proof.Machine.execRecover r c s
  | .canRecoveryComplete c => Sys2Proof.Machine.execCanRecoveryComplete c s
  | .send r c b => Sys2Proof.Machine.execSend r c b s
  | .abort r c b => Sys2Proof.Machine.execAbort r c b s
  | .canTxStart c => Sys2Proof.Machine.execCanTxStart c s
  | .canTxAttemptEnd c res tdcv => Sys2Proof.Machine.execCanTxAttemptEnd c res tdcv s
  | .canRefInstant c => Sys2Proof.Machine.execCanRefInstant c s
  | .ttLost c => Sys2Proof.Machine.execTtLost c s
  | .canSleepCmd r c => Sys2Proof.Machine.execCanSleepCmd r c s
  | .canWakeCmd r c => Sys2Proof.Machine.execCanWakeCmd r c s
  | .canGuardEnd c => Sys2Proof.Machine.execCanGuardEnd c s
  | .sleepCancel c => Sys2Proof.Machine.execSleepCancel c s
  | .canStandbySettled c => Sys2Proof.Machine.execCanStandbySettled c s
  | .canWakeInput c byRxd => Sys2Proof.Machine.execCanWakeInput c byRxd s
  | .canWakeComplete c => Sys2Proof.Machine.execCanWakeComplete c s
  | .timeSet r => Sys2Proof.Machine.execTimeSet r s
  | .timeStep r => Sys2Proof.Machine.execTimeStep r s
  | .timeRate r => Sys2Proof.Machine.execTimeRate r s
  | .timeStepRate r => Sys2Proof.Machine.execTimeStepRate r s
  | .holdover => Sys2Proof.Machine.execHoldover s
  | .timeSnapshotRead r => Sys2Proof.Machine.execTimeSnapshotRead r s
  | .ethFrameReceived p f => Sys2Proof.Machine.execEthFrameReceived p f s
  | .ethTxProduce r p prod => Sys2Proof.Machine.execEthTxProduce r p prod s
  | .ethTxSlotDone p dropped ago => Sys2Proof.Machine.execEthTxSlotDone p dropped ago s
  | .linkUp p full xover => Sys2Proof.Machine.execLinkUp p full xover s
  | .linkDown p => Sys2Proof.Machine.execLinkDown p s
  | .eventFire => Sys2Proof.Machine.execEventFire s
  | .eventDelivery => Sys2Proof.Machine.execEventDelivery s
  | .msiCoalesceTimeout v => Sys2Proof.Machine.execMsiCoalesceTimeout v s
  | .msiUnmask v => Sys2Proof.Machine.execMsiUnmask v s
  | .eventLogWrite => Sys2Proof.Machine.execEventLogWrite s
  | .eventLogRead r => Sys2Proof.Machine.execEventLogRead r s
  | .perstAssert => Sys2Proof.Machine.execPerstAssert s
  | .dmaChannelEnable r c => Sys2Proof.Machine.execDmaChannelEnable r c s
  | .dmaRxSlotCopy c => Sys2Proof.Machine.execDmaRxSlotCopy c s
  | .dmaTxSlot c slot => Sys2Proof.Machine.execDmaTxSlot c slot s
  | .go r count => Sys2Proof.Machine.execGo r count s
  | .dmaCopyDone => Sys2Proof.Machine.execDmaCopyDone s
  | .dmaErr c denied => Sys2Proof.Machine.execDmaErr c denied s
  | .spiWrite addr slots partial_ => Sys2Proof.Machine.execSpiWrite addr slots partial_ s
  | .spiRead addr count => Sys2Proof.Machine.execSpiRead addr count s
  | .spiStatus => Sys2Proof.Machine.execSpiStatus s
  | .heldAccessComplete => Sys2Proof.Machine.execHeldAccessComplete s
  | .peBootStart => Sys2Proof.Machine.execPeBootStart s
  | .bypass => Sys2Proof.Machine.execBypass s
  | .idcode => Sys2Proof.Machine.execIdcode s
  | .samplePreload pins => Sys2Proof.Machine.execSamplePreload pins s
  | .extest drive => Sys2Proof.Machine.execExtest drive s
  | .dbgacc wr addr w => Sys2Proof.Machine.execDbgacc wr addr w s
  | .haltAll r => Sys2Proof.Machine.execHaltAll r s
  | .haltAllClear r => Sys2Proof.Machine.execHaltAllClear r s
  | .haltEng r e => Sys2Proof.Machine.execHaltEng r e s
  | .haltEngClear r e => Sys2Proof.Machine.execHaltEngClear r e s
  | .debugWarmReset r => Sys2Proof.Machine.execDebugWarmReset r s
  | .debugColdReset r => Sys2Proof.Machine.execDebugColdReset r s
  | .vio33Overload mode => Sys2Proof.Machine.execVio33Overload mode s
  | .safetyInputIndeterminate dec ix => Sys2Proof.Machine.execSafetyInputIndeterminate dec ix s
  | .canRxError c lec eight => Sys2Proof.Machine.execCanRxError c lec eight s
  | .baonClkReturn => Sys2Proof.Machine.execBaonClkReturn s
  | .pcieLinkDown => Sys2Proof.Machine.execPcieLinkDown s
  | .pcieLinkUp => Sys2Proof.Machine.execPcieLinkUp s
  | .pcieConfigWrite c => Sys2Proof.Machine.execPcieConfigWrite c s

end Sys2Proof.Machine
end

