-- ==== Sys2Proof/Machine/Tick.lean ====
section
/-! DEFINITION. The passing of a tick. The operation table has no row for it: it is what a step does on an empty queue. -/

namespace Sys2Proof.Machine

/-- The two ECLK cycles of a tick: each engine's store buffer retires its two oldest entries (R204). -/
def State.retireTick (s : State) : State :=
  forEach ((List.finRange 13).filter (fun e => !s.engs[e].sbuf.isEmpty)) (fun e s => s.retireN e 2) s

/-- The interrupt pins follow a route that a write has changed in the tick before (R423). -/
def State.routeTick (s : State) : State :=
  s.doIf (s.evt.prior.any (fun e => decide (0x800 ≤ e.1) && e.2.2 + 1 == s.now)) State.irqUpdate

/-- One FCLK tick passes: a correction of the platform time committed in an earlier tick comes into force (R405), buffered stores
retire (R204), all of it only while the derived clocks run (R52), a changed route reaches the pins (R423), frames that waited for ARB go to their rings (R411), and TIME's 64-bit count C, once released, advances by one (R403). -/
def State.tick (s : State) : State :=
  let s := s.doIf s.rst.clkOn (fun s => s.corApply.retireTick.ethDrain)
  State.routeTick { s with
    now := s.now + 1
    timeC := if s.rst.mgmtRel then (s.timeC + 1) % 2 ^ 64 else s.timeC }

end Sys2Proof.Machine
end

