-- ==== Sys2Proof/Machine/Balls.lean ====
section
/-! DEFINITION. What the module drives on the balls of each fuse-map group (R69), between commands. -/

namespace Sys2Proof.Machine

/-- The signal balls of the fuse map's groups (R69). -/
inductive Ball where
  | hb (n : Fin 48) (i : Fin 4)
  | pen (n : Fin 48)
  | trip (n : Fin 48)
  | fb (n : Fin 48) (line : Fin 3)
  | ec (e : Fin 12) (line : Fin 3)
  | fio (b : Fin 4) (c : Fin 32)
  | sin (n : Fin 24)
  | sout (n : Fin 8)
  | canTxd (k : Fin 4)
  | canStby (k : Fin 4)
  | eth (p : Fin 2)
  | spiMiso
  | baon (i : Fin 3)
  | irq (second : Bool)
  | ain (u : Fin 6) (i : Fin 2)
deriving DecidableEq, Repr

/-- The fuse-map group of a ball (R69). -/
def Ball.group : Ball → Nat
  | .hb _ _ => 0 | .pen _ => 1 | .trip _ => 2 | .fb _ _ => 3 | .ec _ _ => 4 | .fio _ _ => 5 | .sin _ => 6 | .sout _ => 7
  | .canTxd _ => 8 | .canStby _ => 9 | .eth _ => 10 | .spiMiso => 11 | .baon _ => 12 | .irq _ => 13 | .ain _ _ => 14

/-- A driven level. -/
def Lvl.ofBool (b : Bool) : Lvl := if b then .high else .low

/-- What a ball shows of the module: until its block configures it, its group's fuse-map state (R69). A ball whose bits lie
inside one command's time shows its level between them: CANk_TXD recessive, SPI_MISO high impedance (DEDUCED, log 98). BAON_CLK is
high for the first half of its period (DESIGN CHOICE, log 67: the manual states only its rising edges). While EXTEST drives the balls they have the levels of the boundary cells, whose
order the BSDL file gives (R433), PENnn and SOUTn apart. -/
def State.ball (s : State) (b : Ball) : Lvl :=
  match b with
  | .hb n i => s.hbLevel n i 0
  | .pen n => if s.rst.siRel then .ofBool (s.penBall n) else fuseState 1
  | .trip _ => fuseState 2
  | .fb n l => s.fbBall n l
  | .ec e l => s.echo e l
  | .fio b c => if s.fiobs[b].rel && s.fiobs[b].on.getLsbD c.val then .high else fuseState 5
  | .sin _ => fuseState 6
  | .sout n => if s.rst.siRel then .ofBool (bit (s.get (.si 2) SI2.SOUT_STAT.READ) n.val) else fuseState 7
  | .canTxd k => if s.released (.can k) then .high else fuseState 8
  | .canStby k => if s.released (.can k) then .ofBool (s.cans[k].stby || !s.flag (.can k) HDR.CTRL.EN) else fuseState 9
  | .eth _ => fuseState 10
  | .spiMiso => if s.rst.mgmtRel then .z else fuseState 11
  | .baon i =>
    let role := s.get (.recorder 3) REC3.BAON_CFG.ROLE
    if !s.runs (.recorder 3) then (if s.released (.recorder 3) then .z else fuseState 12)
    else if (role != 1 && role != 2) then fuseState 12
    else if role == 1 && i == 0 then .ofBool (s.timeC % 12 < 6)
    else if role == 1 && i == 1 then .ofBool s.baonPulse
    else if role == 2 && i == 2 && s.flag (.recorder 3) REC3.BAON_CFG.LOOP_EN then .ofBool (s.baonEcho 0)
    else .z
  | .irq second =>
    if !s.released .evt then fuseState 13
    else if (if second then s.evt.irq1 else s.evt.irq0) then .low else .z
  | .ain _ _ => fuseState 14

end Sys2Proof.Machine
end

