-- ==== Sys2Proof/Safety.lean ====
section
/-! DEFINITION. What counts as a safe step and a well-kept state of the block, and when a requester reaches a page, in the terms
that the statements use. -/

namespace Sys2Proof.Machine

/-- A step that goes on. -/
def goesOn (o : Host.Outcome State Fault Refusal) : Bool :=
  match o with
  | .next _ => true
  | .fault _ => false
  | .refused _ => false

/-- An engine's memories are in canonical form: every list of words has strictly rising keys. -/
def Engine.wf (x : Engine) : Bool := x.pmem.rising && x.xmem.rising && x.ymem.rising && x.cache.rising

/-- The canonical form of every addressed memory of the state: the register map, the words that frozen registers hold, the shared
store and the engines' RAMs. -/
def State.wf (s : State) : Bool :=
  s.regs.rising && s.frozen.rising && s.store.rising && s.engs.toList.all Engine.wf

/-- A requester is there and its accesses are not held up: a host requester is present and has no access held (R29, R64); an axis
engine reaches the page (R195). -/
def State.comes (s : State) (r : Req) (p : Pg) : Bool :=
  match r with
  | .bar0 | .bar2 | .spi => s.present r && !s.holds r
  | .ae k => engReach (engOf k) (slotAddr p 0)
  | .pe | .si | .dma | .jtag | .block => true

/-- A requester reaches a page, for a write or a read: it comes through, the page's world allows it (R44), and the page is not in soft
reset (R37). -/
def State.reaches (s : State) (r : Req) (p : Pg) (wr : Bool) : Bool :=
  s.comes r p && worldAllows (s.get p HDR.WORLD.WORLD) (s.secure r) wr && !s.softResetting p

/-- A requester's write reaches a page whose block is released, enabled and not in soft reset, so that it carries commands out. -/
def State.opens (s : State) (r : Req) (p : Pg) : Bool := s.reaches r p true && s.runs p

/-- Each of `len` store words from `base` on allows a requester of that security to read it, or to write it (R46). -/
abbrev State.storeOpen (s : State) (secure wr : Bool) (base len : Nat) : Prop :=
  ∀ k, k < len → worldAllows (s.storeWorld ((base + k) % 0x400000)) secure wr = true

/-- The command answers a next state, and that state is as `P` says. -/
def gives (c : Instr) (s : State) (P : State → Prop) : Prop := ∃ t, exec c s = .next t ∧ P t

/-- Every register slot, those listed apart, holds the word it held. -/
def keepsWords (s t : State) (l : List (Pg × Nat)) : Prop :=
  ∀ (p : Pg) (off : Nat), off < 0x1000 → (p, off) ∉ l → t.word p off = s.word p off

/-- Nothing beside the registers and the record of events differs: every queue, buffer, memory, engine, axis, port and counter is as
it was. -/
def sameParts (s t : State) : Prop := t = { s with regs := t.regs, evt := t.evt, recent := t.recent }

/-- Nothing but the listed register slots and the record of events differs. -/
def onlyWords (s t : State) (l : List (Pg × Nat)) : Prop := sameParts s t ∧ keepsWords s t l

/-- Nothing differs from `s` but the listed register slots, the record of events, and what `u`, an update of `s`, names. -/
def changes (s t u : State) (l : List (Pg × Nat)) : Prop :=
  t = { u with regs := t.regs, evt := t.evt, recent := t.recent } ∧ keepsWords s t l

/-- The same, where all the registers of the listed pages may differ. -/
def within (s t u : State) (ps : List Pg) : Prop :=
  t = { u with regs := t.regs, evt := t.evt, recent := t.recent } ∧ ∀ (p : Pg) (off : Nat), off < 0x1000 → p ∉ ps → t.word p off = s.word p off

/-- Of the credit queues, none but the listed ones differs. -/
def keepsQueues (s t : State) (l : List QId) : Prop := ∀ q, q ∉ l → t.qGet q = s.qGet q

/-- No queue has passed an entry on in the cycle of this tick, so each queue's occupancy at the start of the cycle is what it holds now (R80). -/
abbrev State.queuesFresh (s : State) : Prop := ∀ c ∈ s.queues.cyc, c.tick ≠ s.now

/-- The move command that the doorway sequencer writes to an axis, as it waits there for its cutoff (R108, R182). -/
def State.moveCmd (s : State) (n : Fin 48) (op table : Nat) : Cmd :=
  { kind := .move, op := op, table := table, src1 := s.flag (.ax n) AX.PROF_CFG.SRC, entry := none, have_ := s.axes[n].pushNo }

/-- The moves that the sequencer gives axes on the tables of an entry: STARTs that go out together once every axis has come to the
end of its commands, and wait before (R182). -/
def State.startLegs (s : State) (l : List (Fin 48 × Nat)) : List Leg :=
  l.map (fun m => { axis := m.1, table := m.2, own := false, st := b2n (l.all (fun x => s.axDone x.1)) })

/-- Each of those axes has got its START, or, where one of them has not come to its end, none has. -/
def State.started (s t : State) (l : List (Fin 48 × Nat)) : Prop :=
  ∀ m ∈ l, t.axes[m.1] = (if l.all (fun x => s.axDone x.1) then
    { s.axes[m.1] with cmds := s.axes[m.1].cmds ++ [s.moveCmd m.1 1 m.2] } else s.axes[m.1])

/-- How a move on the sequencer's own table goes out (R182): 1 as START where the axis has come to the end of its commands, 2 as
REPLACE where it runs a move, 0 it waits. -/
def State.ownHow (s : State) (n : Fin 48) : Nat := if s.axDone n then 1 else if s.get (.ax n) AX.PROF_STAT.PSTATE = 1 then 2 else 0

/-- The moves on the sequencer's own table. -/
def State.ownLegs (s : State) (l : List (Fin 48)) (table : Nat) : List Leg :=
  l.map (fun n => { axis := n, table := table, own := true, st := s.ownHow n })

/-- Each of those axes has got its START or REPLACE, or waits. -/
def State.ownStarted (s t : State) (l : List (Fin 48)) (table : Nat) : Prop :=
  ∀ n ∈ l, t.axes[n] = (if s.ownHow n = 0 then s.axes[n] else
    { s.axes[n] with cmds := s.axes[n].cmds ++ [s.moveCmd n (if s.ownHow n = 2 then 3 else 1) table] })

/-- The axes of a doorway's lock and step with a table for each. -/
def State.lockMoves (s : State) (d : Fin 32) (lock step : Nat) : List (Fin 48 × Nat) :=
  (s.dwRole d 2).toList.map (fun n => (n, lock)) ++ (s.dwRole d 3).toList.map (fun n => (n, step))

/-- The leaves of a doorway with their table. -/
def State.leafMoves (s : State) (d : Fin 32) (table : Nat) : List (Fin 48 × Nat) := (s.dwLeaves d).map (fun n => (n, table))

/-- What an axis shows whose fault of a cause takes an action (R92, R460): the action in progress, or, where the action is 2, the action done and
the drive port disabled with its queue flushed. -/
def State.faulted (s : State) (n : Fin 48) (cause act : Nat) : Prop :=
  s.get (.ax n) AX.AX_STATE.CAUSE = cause ∧
  (act ≠ 2 → s.axState n = 3 ∧ s.axes[n].sup.act = act) ∧
  (act = 2 → s.axState n = 4 ∧ s.axHold n = false ∧ s.ostate n = 0 ∧ s.flag (.dp n) HDR.CTRL.EN = false ∧ s.qGet (.dq n) = [])

/-- Nothing beside the island, the registers of its pages, the PEN bits of DP_STAT, the record of events and the store's report area
differs. -/
def onlyIsland (s t : State) : Prop :=
  t = { s with regs := t.regs, evt := t.evt, recent := t.recent, si := t.si, store := t.store } ∧
  ∀ (p : Pg) (off : Nat), off < 0x1000 → (∀ j, p ≠ .si j) → (∀ n, p = .dp n → off ≠ DP.DP_STAT.PEN.off) → t.word p off = s.word p off

end Sys2Proof.Machine
end

