-- ==== Sys2Proof/Certificates/Slice0/Obligations.lean ====
section
/-! DEFINITION. The statements for the provers. Each is a rule of the manual about the block; `gives c s P` says that command `c`
answers a next state in state `s`, and that it is as `P` says. -/

open Sys2Proof Sys2Proof.Machine

/-! ### Accesses and page headers (R11-R14, R29-R50) -/

/-- R30: an access to a slot of a page that no register has returns zero on a read, drops a write, and raises ADDR_UNASSIGNED, SYS
event 1: for every page, requester and unassigned slot that the requester reaches. The write leaves every register but SYS.ADDR_ERR
and SYS.EV_RAW as it was. -/
def Obligations.UnassignedSlot : Prop :=
  ∀ (s : State) (r : Req) (p : Pg) (off : Nat) (data : BitVec 64), off % 8 = 0 → off < 0x1000 → pgReg p off = none → p ≠ .sec →
    (s.reaches r p true = true →
      gives (.registerWrite r (slotAddr p off) data) s (fun t =>
        t.raised .sys 1 = true ∧ onlyWords s t [(.sys, 0x48), (.sys, 0x18)])) ∧
    (s.reaches r p false = true → (s.pageRead r p off).1 = 0 ∧ (s.pageRead r p off).2.raised .sys 1 = true)

/-- R44: a write that the page's world does not allow its requester is dropped: it raises SEC_DENY, event 0 of SEC, and leaves every
register but SEC.DENY_ADDR and SEC's EV_RAW as it was; a read that it does not allow returns zero and raises SEC_DENY. -/
def Obligations.DeniedAccess : Prop :=
  ∀ (s : State) (r : Req) (p : Pg) (off : Nat) (data : BitVec 64), off % 8 = 0 → off < 0x1000 → s.comes r p = true →
    (worldAllows (s.get p HDR.WORLD.WORLD) (s.secure r) true = false →
      gives (.registerWrite r (slotAddr p off) data) s (fun t =>
        t.raised .sec 0 = true ∧ onlyWords s t [(.sec, 0x40), (.sec, 0x18)])) ∧
    (worldAllows (s.get p HDR.WORLD.WORLD) (s.secure r) false = false →
      (s.pageRead r p off).1 = 0 ∧ (s.pageRead r p off).2.raised .sec 0 = true)

/-- R13: a write that carries a reserved encoding is rejected whole: no field of the register changes and REG_REJECT, SYS event 0, is
raised. Beside SYS.REJ_ADDR, SYS.EV_RAW and, for a register with RWS fields (R14), SEC.DENY_ADDR and SEC's EV_RAW, no register
changes. R377: a write to REC1 or REC2 while a capture is ARMED or TRIGGERED is dropped before that, with CFG_BUSY alone. -/
def Obligations.ReservedEncodingRejected : Prop :=
  ∀ (s : State) (r : Req) (p : Pg) (off : Nat) (data : BitVec 64) (d : RegD) (i : Nat), off % 8 = 0 → off < 0x1000 →
    p ≠ .sec → pgReg p off = some (d, i) → s.reaches r p true = true → s.seqShut p d.off = false →
    s.carriesBad p d i (data.setWidth 36) = true →
    (s.recShut p = false → gives (.registerWrite r (slotAddr p off) data) s (fun t =>
      t.raised .sys 0 = true ∧ (d.secureFields = true → s.secure r = false → t.raised .sec 0 = true) ∧
      onlyWords s t [(.sys, 0x40), (.sys, 0x18), (.sec, 0x40), (.sec, 0x18)])) ∧
    (s.recShut p = true → gives (.registerWrite r (slotAddr p off) data) s (fun t =>
      t.raised (.recorder 0) 12 = true ∧ onlyWords s t [(.recorder 0, 0x18)]))

/-- R11, R31-R35: POS_PRESET of a feedback port takes the word that a requester writes it: as one 64-bit access, as a PCI Express
request of two dwords, or as two 32-bit halves through the staging latch, of which the first changes no register. R33: a 32-bit write
of the high half of a slot whose low half is not staged raises SPLIT_ORPHAN, SYS event 2, and changes no other register than
SYS.ADDR_ERR and SYS.EV_RAW. Completes here (exec answers the next state described, from every state and with every operand that meet
the hypotheses): registerWrite, pcieMemoryRequest, write32Low, write32High. -/
def Obligations.AccessHalves : Prop :=
  (∀ (s : State) (n : Fin 48) (lo hi : BitVec 32), s.reaches .bar0 (.fb n) true = true →
     let a := slotAddr (.fb n) 0x60
     let w : Word := (hi ++ lo).setWidth 36
     gives (.registerWrite .bar0 a (hi ++ lo)) s (fun t => t.word (.fb n) 0x60 = w ∧ onlyWords s t [(.fb n, 0x60)]) ∧
     gives (.pcieMemoryRequest .bar0 a true false [lo, hi]) s (fun t =>
       t.word (.fb n) 0x60 = w ∧ onlyWords s t [(.fb n, 0x60)]) ∧
     gives (.write32Low .bar0 a lo) s (fun t => t.bar0.latch = some (a / 8, lo) ∧ t.regs = s.regs) ∧
     (s.bar0.latch = some (a / 8, lo) →
       gives (.write32High .bar0 (a + 4) hi) s (fun t =>
         t.word (.fb n) 0x60 = w ∧ t.bar0.latch = none ∧ keepsWords s t [(.fb n, 0x60)]))) ∧
  (∀ (s : State) (r : Req) (a : Nat) (v : BitVec 32), s.splits r = true → (s.port r).latch.map Prod.fst ≠ some (a / 8) →
     gives (.write32High r a v) s (fun t => t.raised .sys 2 = true ∧ onlyWords s t [(.sys, 0x48), (.sys, 0x18)]))

/-- R34: a 32-bit read of the low half of POS_PRESET returns bits 31:0 and keeps the whole word as the requester's snapshot; one of
the high half of the slot in the snapshot returns bits 35:32 of it, bit 35 copied upward. No register changes. Completes here (exec
answers the next state described, from every state and with every operand that meet the hypotheses): pcieMemoryRequest, read32Low,
read32High. -/
def Obligations.HalvesRead : Prop :=
  ∀ (s : State) (n : Fin 48) (w : Word), s.reaches .bar0 (.fb n) false = true →
    let a := slotAddr (.fb n) 0x60
    gives (.read32Low .bar0 a) s (fun t =>
      t.bar0.rdata = s.bar0.rdata ++ [((s.word (.fb n) 0x60).setWidth 32).setWidth 64] ∧
      t.bar0.snap = some (a / 8, s.word (.fb n) 0x60) ∧ t.regs = s.regs) ∧
    (s.bar0.snap = some (a / 8, w) →
      gives (.read32High .bar0 (a + 4)) s (fun t =>
        t.bar0.rdata = s.bar0.rdata ++ [(w.signExtend 64) >>> 32] ∧ t.regs = s.regs)) ∧
    gives (.pcieMemoryRequest .bar0 a false false [0, 0]) s (fun t =>
      t.bar0.rdata = s.bar0.rdata ++ [(s.word (.fb n) 0x60).signExtend 64] ∧ t.regs = s.regs)

/-- R36, R38: writing 1 to bits of EV_ACK clears those bits of EV_RAW and no other; a bit whose event fires in the cycle of the write
stays set. R377: to REC1 and REC2 while a capture is ARMED or TRIGGERED the write is dropped, with CFG_BUSY. R36, R421-R424: a firing
that its route, as in force at its tick, sends to a vector counts there, and the vector sends one message once the count reaches
COAL_N; a firing whose LOG_EN bit is 1 takes a place for the log, and every firing waits for its delivery; a router that does not run
takes none. COAL_US after the first unsent firing, and the unmasking of a vector that holds unsent firings, send one message and
return the count to 0. Completes here (exec answers the next state described, from every state and with every operand that meet the
hypotheses): eventAck, eventFire, msiCoalesceTimeout, msiUnmask. -/
def Obligations.EventBits : Prop :=
  (∀ (s : State) (r : Req) (p : Pg) (bits : BitVec 32), s.reaches r p true = true →
     (s.recShut p = true → gives (.eventAck r p bits) s (fun t => t.raised (.recorder 0) 12 = true ∧ onlyWords s t [(.recorder 0, 0x18)])) ∧
     (s.recShut p = false → gives (.eventAck r p bits) s (fun t =>
       (∀ i, i < 32 → t.raised p i = (s.raised p i && !(bits.getLsbD i && !s.firedNow p i))) ∧
       keepsWords s t [(p, 0x18), (.sys, 0x40), (.sys, 0x48), (.sec, 0x40), (.arb, 0x60), (p, 0x60)] ∧ (p ≠ .sec → sameParts s t)))) ∧
  (∀ (s : State) (f : Firing) (v : Fin 16),
     (s.runs .evt = false → gives .eventFire s (fun t => t = { s with evt := { s.evt with fired := [] } })) ∧
     (s.runs .evt = true → s.evt.fired = [f] → s.evt.logQ.length < 16 → bit (s.route f.ev f.tick) 17 = true →
       s.route f.ev f.tick / 2 ^ 13 % 16 = v.val →
       (∀ w : Fin 16, w ≠ v → s.evt.count[w] = 0) →
       gives .eventFire s (fun t =>
         t.evt.fired = [] ∧ t.evt.delivering = s.evt.delivering ++ [f] ∧
         t.evt.logQ =
           (if f.ev ≠ 40 ∧ bit (s.get .evt (EVT.LOG_EN.EN.nth (f.ev / 32))) (f.ev % 32) = true then firingIns f s.evt.logQ else s.evt.logQ) ∧
         (if s.msiReady v.val = true ∧ fld (s.vecCfg v f.tick) 23 16 ≤ s.evt.count[v] + 1 then
           t.evt.sent = s.evt.sent ++ [v.val] ∧ t.evt.count[v] = 0
         else t.evt.sent = s.evt.sent ∧ t.evt.count[v] = s.evt.count[v] + 1) ∧ (∀ w : Fin 16, w ≠ v → t.evt.count[w] = 0) ∧
         onlyWords s t [(.evt, 0x68)])) ∧
     (s.evt.count[v] ≠ 0 → fld (s.vecCfg v s.now) 13 0 ≠ 0 → s.evt.since[v] + 300 * fld (s.vecCfg v s.now) 13 0 ≤ s.now → s.msiReady v.val = true →
       (∀ w : Fin 16, w ≠ v → s.evt.count[w] = 0) →
       gives (.msiCoalesceTimeout v) s (fun t =>
         t.evt.sent = s.evt.sent ++ [v.val] ∧ t.evt.count = s.evt.count.set v 0 ∧ onlyWords s t [(.evt, 0x68)])) ∧
     (s.evt.count[v] ≠ 0 → s.host.msiMask = BitVec.ofNat 16 (2 ^ v.val) → s.host.linkUp = true → s.host.d3hot = false →
       s.host.busMaster = true → s.host.msiEnable = true →
       gives (.msiUnmask v) s (fun t =>
         t.evt.sent = s.evt.sent ++ [v.val] ∧ t.evt.count = s.evt.count.set v 0 ∧
         changes s t { s with host := { s.host with msiMask := 0 } } [(.evt, 0x68)])))

/-- R37: a soft reset of an unlocked page returns every register of the page except PAGE_WORLD and PAGE_LOCK to its reset word and
lasts until SOFT_RESET_DONE, which gives PAGE_CTRL the FREEZE and EN of the write. (What shows a present condition shows it again:
the occupancy of an axis's queues, a drive port's inputs, CLK's oscillator fault and lock, the island's permissions and what only a
cold or power reset ends; RST_CAUSE stays: log 24.) R377: to REC1 and REC2 while a capture is ARMED or TRIGGERED the write is
dropped, with CFG_BUSY. R36, R40: a write of PAGE_CTRL.EN takes effect on an unlocked page; on a locked one EN stays, but for a drive
port that PE or a secure requester disables (R41); ARB's EN stays 1 (R459), and REC1's and REC2's stays while a capture is ARMED or
TRIGGERED (R377). Completes here (exec answers the next state described, from every state and with every operand that meet the
hypotheses): softReset, softResetDone, pageEnWrite. -/
def Obligations.PageControl : Prop :=
  (∀ (s : State) (r : Req) (p : Pg) (freeze en : Bool),
     (s.reaches r p true = true → s.recShut p = true →
       gives (.softReset r p freeze en) s (fun t => t.raised (.recorder 0) 12 = true ∧ onlyWords s t [(.recorder 0, 0x18)])) ∧
     (s.reaches r p true = true → s.recShut p = false → s.flag p HDR.LOCK.LOCK = false →
       gives (.softReset r p freeze en) s (fun t => t.softResetting p = true ∧
         ∀ off, off < 0x1000 → off ≠ 0x30 → off ≠ 0x38 → (p = .clk → off ≠ CLK.STAT.SI_OSC_FAULT.off) → (p = .rst → off ≠ 0x40) →
           (p = .si 0 → off ∉ [SI0.SI_STAT.STATE.off, 0x68, 0x70, 0x78, 0x80]) → (p = .si 1 → off ≠ SI1.SIN_FAULT.FAULT.off) →
           (p = .si 2 → off ≠ SI2.SOUT_STAT.READ.off) → (p = .si 5 → off ≠ SI5.DIAG_STAT.FAILED.off) →
           (p = .si 7 → off ∉ [SI7.LANE_STAT.MODE.off, 0x48, 0x50]) →
           (∀ n, p = .ax n → off ∉ [0x1E0, 0x1E8, 0x1F0, 0x1F8]) → (∀ n, p = .dp n → off ≠ DP.DP_STAT.TRIP_IN.off) →
           t.word p off = resetWord p off)) ∧
     (p ≠ .arb → s.softRst.find? (fun e => e.1 == p) = some (p, freeze, en) →
       gives (.softResetDone p) s (fun t =>
         t.softResetting p = false ∧ t.flag p HDR.CTRL.FREEZE = freeze ∧ t.flag p HDR.CTRL.EN = en))) ∧
  (∀ (s : State) (r : Req) (p : Pg) (en : Bool), s.reaches r p true = true →
     gives (.pageEnWrite r p en) s (fun t =>
       t.flag p HDR.CTRL.EN =
         (if p = .arb ∨ s.recShut p = true then s.flag p HDR.CTRL.EN
          else if s.flag p HDR.LOCK.LOCK = false then en
          else if (∃ n, p = .dp n) ∧ en = false ∧ (s.secure r = true ∨ r = .pe) then false
          else s.flag p HDR.CTRL.EN)))

/-- R49, R50: on a part with the BAR2 fuse, KEY1 opens the unlock window for its requester; KEY2 from the same requester in the
window sets SEC.STAT.UNLOCKED; without the fuse both fire UNLOCK_FAIL, event 1 of SEC; any other value clears UNLOCKED and
BAR2_CTRL.EN and fires UNLOCK_FAIL on every part; a window that expires unlocks nothing. Completes here (exec answers the next state
described, from every state and with every operand that meet the hypotheses): unlockKey1, unlockKey2, unlockOtherValue,
unlockWindowExpiry. -/
def Obligations.Unlock : Prop :=
  ∀ (s : State) (r : Req) (w : Word), s.reaches r .sec true = true →
    let fuse := s.flag .sec SEC.STAT.BAR2_FUSE = true
    let failed := fun (t : State) =>
      t.unlockWin = none ∧ t.raised .sec 1 = true ∧ t.flag .sec SEC.STAT.UNLOCKED = s.flag .sec SEC.STAT.UNLOCKED
    (fuse → gives (.unlockKey1 r) s (fun t =>
      t.unlockWin = some r ∧ t.flag .sec SEC.STAT.UNLOCKED = s.flag .sec SEC.STAT.UNLOCKED)) ∧
    (fuse → s.unlockWin = some r →
      gives (.unlockKey2 r) s (fun t => t.unlockWin = none ∧ t.flag .sec SEC.STAT.UNLOCKED = true)) ∧
    (fuse → s.unlockWin ≠ some r → gives (.unlockKey2 r) s failed) ∧
    (¬ fuse → gives (.unlockKey1 r) s failed ∧ gives (.unlockKey2 r) s failed) ∧
    (w ≠ 0x5EC0A11 → w ≠ 0xA1105EC → gives (.unlockOtherValue r w) s (fun t =>
      t.flag .sec SEC.STAT.UNLOCKED = false ∧ t.flag .sec SEC.BAR2_CTRL.EN = false ∧ t.raised .sec 1 = true ∧
      t.unlockWin = none)) ∧
    gives .unlockWindowExpiry s (fun t => t = { s with unlockWin := none })

/-- R196: a host access of an engine window: a word written to X RAM or Y RAM of an axis engine is the word read there, and no other
word of that RAM changes beside those that the engine's store buffer retires to; the read returns it. Completes here (exec answers
the next state described, from every state and with every operand that meet the hypotheses): engineWindowAccess. -/
def Obligations.EngineWindow : Prop :=
  ∀ (s : State) (r : Req) (k : Fin 12) (y : Bool) (ix : Fin 0x2000) (w : Word), r = .bar0 ∨ r = .bar2 ∨ r = .spi →
    s.present r = true → s.holds r = false → s.rst.engRel = true → s.engs[engOf k].sbuf = [] →
    let a := 0x1000000 + 0x40000 * k.val + (if y then 0x30000 else 0x20000) + 8 * ix.val
    (worldAllows (s.get (.ae k) HDR.WORLD.WORLD) (s.secure r) true = true →
      gives (.engineWindowAccess r a true w) s (fun t =>
        t.ramGet (engOf k) (if y then 2 else 1) ix.val = w ∧
        (∀ sp j, (sp, j) ≠ (if y then 2 else 1, ix.val) → sp < 3 → t.ramGet (engOf k) sp j = s.ramGet (engOf k) sp j) ∧
        t.regs = s.regs)) ∧
    (worldAllows (s.get (.ae k) HDR.WORLD.WORLD) (s.secure r) false = true →
      gives (.engineWindowAccess r a false w) s (fun t =>
        (t.port r).rdata = (s.port r).rdata ++ [(s.ramGet (engOf k) (if y then 2 else 1) ix.val).signExtend 64] ∧
        t.regs = s.regs))

/-! ### Clocks and resets (R51-R68, R457-R459) -/

/-- R51, R52: the PLL's lock shows in CLK.STAT; the clocks run once a reset's stretch has ended with the PLL locked; a loss of lock
gates them, clears the output registers of every drive port, so that every HBnn is low, and lasts until a cold or power reset: no
later lock ungates the clocks. R53, R54, R55: the island's count of NCLK edges, inside 2,425 to 2,575 no fault, outside a ROOT fault
with a cold reset and no port permitted by SP; CLK's count of SCLK_SI edges is published, and outside 4,656 to 4,944 it raises
SI_OSC_FAULT and every PENnn is low, also where the cold reset of a ROOT fault has come before its window; every PENnn is low when
SCLK_SI stops. Completes here (exec answers the next state described, from every state and with every operand that meet the
hypotheses): pllLock, clockUngate, pllLockLoss, rootWatchWindow, siWatchWindow, sclkSiStop. -/
def Obligations.ClockWatch : Prop :=
  (∀ (s : State),
     gives .pllLock s (fun t => t.flag .clk CLK.STAT.ROOT_LOCK = true ∧ onlyWords s t [(.clk, 0x40)]) ∧
     (s.rst.resetOut = false → s.rst.lossHold = false → s.flag .clk CLK.STAT.ROOT_LOCK = true →
       gives .clockUngate s (fun t => t = { s with rst := { s.rst with clkOn := true } })) ∧
     (s.rst.lossHold = true → gives .clockUngate s (fun t => t = s)) ∧
     gives .pllLockLoss s (fun t =>
       t.flag .clk CLK.STAT.ROOT_LOCK = false ∧ t.rst.clkOn = false ∧ (∀ n i tap, t.hbLevel n i tap = .low) ∧
       (∀ p, (∀ j, p ≠ .si j) → t.released p = false) ∧
       t = { s with regs := t.regs, ports := t.ports, rst := t.rst } ∧ keepsWords s t [(.clk, 0x40)])) ∧
  (∀ (s : State) (count : Nat),
     (s.rst.siRel = true → 2425 ≤ count → count ≤ 2575 →
       gives (.rootWatchWindow count) s (fun t => t = { s with si := { s.si with rootFault := false } })) ∧
     (s.rst.siRel = true → s.rst.reach ≤ 2 → (count < 2425 ∨ 2575 < count) →
       gives (.rootWatchWindow count) s (fun t =>
         t.flag .rst RST.RST_CAUSE.SI = true ∧ t.si.rootFault = true ∧ ∀ n, t.spPermits n = false)) ∧
     (s.released .clk = true → 4656 ≤ count → count ≤ 4944 →
       gives (.siWatchWindow count) s (fun t => t.get .clk CLK.STAT.SI_COUNT = count ∧ t.si.sclkStop = false)) ∧
     (s.released .clk = true → (count < 4656 ∨ 4944 < count) →
       gives (.siWatchWindow count) s (fun t =>
         t.get .clk CLK.STAT.SI_COUNT = count % 8192 ∧ t.flag .clk CLK.STAT.SI_OSC_FAULT = true ∧ t.raised .clk 0 = true ∧
         ∀ n, t.portBit 0x78 n = false)) ∧
     (s.released .clk = false → s.si.rootFault = true → 2 ≤ s.rst.reach → (count < 4656 ∨ 4944 < count) →
       gives (.siWatchWindow count) s (fun t => t.flag .clk CLK.STAT.SI_OSC_FAULT = true ∧ ∀ n, t.portBit 0x78 n = false)) ∧
     gives .sclkSiStop s (fun t => (∀ n, t.portBit 0x78 n = false) ∧ onlyIsland s t))

/-- R57, R58, R59, R457: the power-on source resets everything, the lanes of the island too, and leaves POR alone set in RST_CAUSE;
its release, and that of a brown-out, ends the source and changes nothing else. A brown-out, while the power-on source is released,
and a RESET_IN pulse of 1 µs or more set their own bits and leave the others; they reset with cold reach, the pulse with warm reach
where PIN_MODE is 1 and no wider reset is in progress. A pulse below 100 ns does nothing; one between is either ignored or taken
(R458). R58, R65: a warm reset, commanded by a secure requester through RST or DBG or asserted by a warm source, while no wider reset
is in progress, records its source, resets every register of the control and data planes' pages and holds their blocks in reset, and
leaves the registers of the management plane (RST_CAUSE and what ends the debug halt apart), of the island's configuration and the
store as they are; a cold one resets every register of the management plane (but RST_CAUSE and CLK's lock and fault) too, and the
store's contents become undefined. Completes here (exec answers the next state described, from every state and with every operand
that meet the hypotheses): powerOnAssert, powerOnRelease, brownOutAssert, brownOutRelease, resetInPulse, softwareWarmReset,
softwareColdReset, warmResetAssert, debugWarmReset, debugColdReset. -/
def Obligations.Resets : Prop :=
  (∀ (s : State) (ns : Nat),
     let cold := fun (t : State) =>
       t.rst.mgmtRel = false ∧ t.rst.engRel = false ∧ t.rst.periRel = false ∧ t.rst.dpRel = false ∧ t.rst.siRel = false ∧ t.rst.resetOut = true ∧
       t.epoch = s.epoch + 1 ∧
       ∀ (p : Pg) (off : Nat), off < 0x1000 → (p, off) ≠ (.rst, 0x40) → p ≠ .clk → (∀ j, p ≠ .si j) → t.word p off = resetWord p off
     gives .powerOnAssert s (fun t =>
       t.word .rst 0x40 = 0xC01 ∧ t.rst = RstPart.reset ∧
       (∀ (p : Pg) (off : Nat), off < 0x1000 → (p, off) ≠ (.rst, 0x40) → t.word p off = resetWord p off) ∧
       ∃ si, si.lanesOn = false ∧ si.copyA = none ∧ si.copyB = none ∧
         t = { State.reset with regs := t.regs, pending := s.pending, now := s.now, serial := s.serial, epoch := s.epoch + 1, si := si }) ∧
     gives .powerOnRelease s (fun t =>
       t = { s with rst := { s.rst with asserted := s.rst.asserted.filter (fun x => x != .por) } }) ∧
     (RstSrc.por ∉ s.rst.asserted →
       gives .brownOutAssert s (fun t =>
         t.flag .rst RST.RST_CAUSE.BOR = true ∧ t.flag .rst RST.RST_CAUSE.PIN = s.flag .rst RST.RST_CAUSE.PIN ∧
         t.flag .rst RST.RST_CAUSE.POR = s.flag .rst RST.RST_CAUSE.POR ∧ 2 ≤ t.get .rst RST.RST_CAUSE.LAST ∧ cold t ∧
         .bor ∈ t.rst.asserted ∧ (s.rst.reach ≤ 2 → t.si.lanesOn = s.si.lanesOn ∧ t.si.copyA = s.si.copyA ∧ t.si.copyB = s.si.copyB))) ∧
     gives .brownOutRelease s (fun t =>
       t = { s with rst := { s.rst with asserted := s.rst.asserted.filter (fun x => x != .bor) } }) ∧
     (ns < 100 → gives (.resetInPulse ns) s (fun t => t = s)) ∧
     (1000 ≤ ns → gives (.resetInPulse ns) s (fun t =>
       t.flag .rst RST.RST_CAUSE.PIN = true ∧ t.flag .rst RST.RST_CAUSE.SW_COLD = s.flag .rst RST.RST_CAUSE.SW_COLD ∧
       t.rst.resetOut = true ∧ t.rst.engRel = false ∧
       (s.flag .rst RST.CFG.PIN_MODE = false → cold t ∧ 2 ≤ t.get .rst RST.RST_CAUSE.LAST) ∧
       (s.flag .rst RST.CFG.PIN_MODE = true → s.rst.reach ≤ 1 → t.rst.mgmtRel = s.rst.mgmtRel ∧ t.get .rst RST.RST_CAUSE.LAST = 1 ∧
         t.store = s.store ∧ t.epoch = s.epoch ∧
         ∀ (p : Pg) (off : Nat), warmPage p = true → off < 0x1000 → t.word p off = resetWord p off))) ∧
     (100 ≤ ns → ns < 1000 → gives (.resetInPulse ns) s (fun t =>
       t = { s with serial := s.serial + 1 } ∨ t.flag .rst RST.RST_CAUSE.PIN = true))) ∧
  (∀ (s : State) (r : Req) (src : RstSrc), s.rst.reach ≤ 1 →
     let warm := fun (t : State) =>
       t.get .rst RST.RST_CAUSE.LAST = 1 ∧ t.rst.resetOut = true ∧ t.rst.engRel = false ∧ t.rst.periRel = false ∧ t.rst.dpRel = false ∧
       t.rst.mgmtRel = s.rst.mgmtRel ∧ t.store = s.store ∧ t.epoch = s.epoch ∧
       (∀ (p : Pg) (off : Nat), warmPage p = true → off < 0x1000 → t.word p off = resetWord p off) ∧
       (∀ (p : Pg) (off : Nat), off < 0x1000 → warmSlot (slotAddr p off) = false → (p, off) ≠ (.rst, 0x40) → p ≠ .dbg →
         (∀ j, p = .si j → j ∉ [0, 2, 7]) → t.word p off = s.word p off)
     let cold := fun (t : State) =>
       2 = t.get .rst RST.RST_CAUSE.LAST ∧ t.rst.resetOut = true ∧ t.rst.mgmtRel = false ∧ t.epoch = s.epoch + 1 ∧
       ∀ (p : Pg) (off : Nat), off < 0x1000 → (p, off) ≠ (.rst, 0x40) → p ≠ .clk → (∀ j, p ≠ .si j) → t.word p off = resetWord p off
     (s.opens r .rst = true → s.secure r = true →
       gives (.softwareWarmReset r) s (fun t => t.flag .rst RST.RST_CAUSE.SW_WARM = true ∧ warm t) ∧
       gives (.softwareColdReset r) s (fun t => t.flag .rst RST.RST_CAUSE.SW_COLD = true ∧ cold t ∧
         t.get (.si 0) SI0.SI_STAT.LADDER = 0)) ∧
     (s.opens r .dbg = true → s.secure r = true →
       gives (.debugWarmReset r) s (fun t => t.flag .rst RST.RST_CAUSE.DBG = true ∧ warm t) ∧
       gives (.debugColdReset r) s (fun t => t.flag .rst RST.RST_CAUSE.DBG = true ∧ cold t)) ∧
     (s.warmSource src = true → gives (.warmResetAssert src) s (fun t =>
       bit (t.word .rst 0x40).toNat (causeBit src) = true ∧ warm t)))

/-- R62: a running watchdog warns once, with its RST event; at its expiry it asserts its reset; a kick from a requester that is
entitled to it restarts it, and WDT_CTRL takes its kicks from PE alone. Completes here (exec answers the next state described, from
every state and with every operand that meet the hypotheses): watchdogWarning, watchdogExpiry, wdtKickMgmt, wdtKickData, wdtKickCtrl. -/
def Obligations.Watchdogs : Prop :=
  ∀ (s : State) (w : Wdt) (r : Req),
    (s.wdtRuns w = true → s.rst.warned w = false →
      gives (.watchdogWarning w) s (fun t =>
        t.raised .rst (match w with | .ctrl => 0 | .data => 1 | .mgmt => 2) = true ∧ t.rst.warned w = true ∧
        changes s t { s with rst := t.rst } [(.rst, 0x18)])) ∧
    (s.wdtRuns w = true →
      gives (.watchdogExpiry w) s (fun t =>
        t.flag .rst (match w with | .ctrl => RST.RST_CAUSE.WDT_CTRL | .data => RST.RST_CAUSE.WDT_DATA | .mgmt => RST.RST_CAUSE.WDT_MGMT) = true ∧
        t.rst.resetOut = true ∧ t.rst.engRel = false ∧ (w = .mgmt → t.rst.mgmtRel = false))) ∧
    (s.opens r .rst = true →
      (r ∈ [.bar0, .bar2, .spi, .pe] →
        gives (.wdtKickMgmt r) s (fun t =>
          t = { s with regs := t.regs, rst := { s.rst with wdMgmt := s.now, warnMgmt := false } } ∧ keepsWords s t [(.rst, 0x70)]) ∧
        gives (.wdtKickData r) s (fun t =>
          t = { s with regs := t.regs, rst := { s.rst with wdData := s.now, warnData := false } } ∧ keepsWords s t [(.rst, 0x70)])) ∧
      gives (.wdtKickCtrl r) s (fun t =>
        t = { s with regs := t.regs, rst := if r = .pe then { s.rst with wdCtrl := s.now, warnCtrl := false } else s.rst } ∧
        keepsWords s t [(.rst, 0x70)]))

/-- R61, R63, R64: when no source is asserted the stretch ends: RESET_OUT is released and the watchdogs restart; after a warm reset
the engines are released, after a power or cold reset the island. Then the management plane with ARB at slot 0, the store with the
engines at their reset vectors, the peripherals, and the drive ports are released, each after the one before it. R64: a host access
that was held until the store was ready completes: a held write to the parameter region reaches the store. Completes here (exec
answers the next state described, from every state and with every operand that meet the hypotheses): resetStretchEnd,
managementRelease, storeReady, peripheralRelease, drivePortRelease, heldAccessComplete. -/
def Obligations.ReleaseOrder : Prop :=
  (∀ (s : State),
     (s.rst.resetOut = true → s.rst.asserted = [] →
       gives .resetStretchEnd s (fun t =>
         t.rst.resetOut = false ∧ t.rst.wdCtrl = s.now ∧ t.rst.wdData = s.now ∧ t.rst.wdMgmt = s.now ∧
         (s.rst.reach = 1 → s.rst.lossHold = false → t.rst.engRel = true) ∧ (s.rst.reach ≠ 1 → t.rst.siRel = true) ∧ t.rst.mgmtRel = s.rst.mgmtRel)) ∧
     (s.rst.clkOn = true → s.rst.resetOut = false → s.rst.mgmtRel = false →
       gives .managementRelease s (fun t => t = { s with rst := { s.rst with mgmtRel := true }, arb := { s.arb with cycle := 0 } })) ∧
     (s.rst.mgmtRel = true → s.rst.resetOut = false → s.rst.storeRdy = false →
       gives .storeReady s (fun t =>
         t.rst = { s.rst with storeRdy := true, engRel := true } ∧ t.si.repQ = [] ∧
         ∀ e : Fin 13, t.engs[e].pc = (if e = 12 then 0x10000 else 0x8000))) ∧
     (s.rst.engRel = true → s.rst.resetOut = false → s.rst.periRel = false →
       gives .peripheralRelease s (fun t =>
         t.rst = { s.rst with periRel := true } ∧ (∀ n : Fin 48, (true, n) ∈ t.refillQ) ∧ t.regs = s.regs)) ∧
     (s.rst.periRel = true → s.rst.resetOut = false → s.rst.dpRel = false →
       gives .drivePortRelease s (fun t => t.rst = { s.rst with dpRel := true, reach := 0 } ∧ t.axes = s.axes ∧ t.engs = s.engs))) ∧
  (∀ (s : State) (r : Req) (a : Fin 0x40000) (v : BitVec 64), s.rst.storeRdy = true →
     s.held = [{ req := r, addr := 0x1400000 + 8 * a.val, wr := true, data := v, half := none }] →
     worldAllows (s.storeWorld a.val) (s.secure r) true = true →
     gives .heldAccessComplete s (fun t =>
       t.held = [] ∧ t.storeGet a.val = v.setWidth 36 ∧ (∀ b, b ≠ a.val → t.storeGet b = s.storeGet b) ∧ t.regs = s.regs))

/-! ### The safety island (R70-R76, R300-R329) -/

/-- R302: with VSAFE out of range every PENnn is low and every SOUTn off; the hold ends with VSAFE_RECOVERY, which fires event 15.
R322, R324, R325: a PENnn ball that reads high while a decider withholds the port puts SP into SAFE_FAULT and the lanes into LOCKOUT;
an off-pulse switches its output off, and its end is a fault, STUCK, if the output still reads on; an output on while commanded off
is STUCK, one off while commanded on is OPEN and is held off. Completes here (exec answers the next state described, from every state
and with every operand that meet the hypotheses): vsafeFault, vsafeRecovery, penReadbackFault, soutOffPulse, soutOffPulseEnd,
soutStuck, soutOpen. -/
def Obligations.SafetyOutputs : Prop :=
  (∀ (s : State),
     gives .vsafeFault s (fun t => (∀ n, t.portBit 0x78 n = false) ∧
       (∀ k : Fin 8, t.soutDrive k = false ∧ bit (t.get (.si 2) SI2.SOUT_STAT.READ) k.val = s.si.readOn.getLsbD k.val) ∧ onlyIsland s t) ∧
     (s.si.vsafeBad = true → s.rst.siRel = true →
       gives .vsafeRecovery s (fun t => t.si.vsafeBad = false ∧ t.raised (.si 0) 15 = true ∧ onlyIsland s t))) ∧
  (∀ (s : State) (n : Fin 48) (k : Fin 8),
     ((s.portBit 0x68 n && s.lanePermits .laneA n && s.lanePermits .laneB n) = false → s.rst.siRel = true → s.si.lanesOn = true →
       gives (.penReadbackFault n) s (fun t => t.siState = 2 ∧ t.laneMode = 2 ∧ t.portBit 0x78 n = true ∧ onlyIsland s t)) ∧
     (s.si.lanesOn = true → s.si.pulse = none → s.soutDrive k = true → s.si.readOn.getLsbD k.val = false →
       gives (.soutOffPulse k) s (fun t =>
         t.si.pulse = some k.val ∧ bit (t.get (.si 2) SI2.SOUT_STAT.READ) k.val = false ∧ onlyIsland s t)) ∧
     (s.si.pulse = some k.val →
       gives (.soutOffPulseEnd k false) s (fun t => t.si.pulse = none ∧ t.siState = s.siState ∧ onlyIsland s t) ∧
       (s.rst.siRel = true → gives (.soutOffPulseEnd k true) s (fun t =>
         t.si.pulse = none ∧ bit (t.get (.si 2) SI2.SOUT_STAT.STUCK) k.val = true ∧ t.siState = 2 ∧ onlyIsland s t))) ∧
     (s.rst.siRel = true → s.soutOn k = false → s.si.pulse ≠ some k.val →
       gives (.soutStuck k) s (fun t =>
         bit (t.get (.si 2) SI2.SOUT_STAT.STUCK) k.val = true ∧ bit (t.get (.si 2) SI2.SOUT_STAT.READ) k.val = true ∧ t.siState = 2 ∧
         t.raised (.si 0) 7 = true ∧ onlyIsland s t)) ∧
     (s.rst.siRel = true → s.soutOn k = true →
       gives (.soutOpen k) s (fun t =>
         bit (t.get (.si 2) SI2.SOUT_STAT.OPEN) k.val = true ∧ bit (t.get (.si 2) SI2.SOUT_STAT.CMD) k.val = false ∧ t.soutDrive k = false ∧
         t.raised (.si 0) 7 = true ∧ t.siState = s.siState ∧ onlyIsland s t)))

/-- R307, R308, R310, R72: an accepted level is the decider's level of the input, and SP's is shown in SIN_LEVEL; an input on which
SP and a lane differ, and one that is still indeterminate when its filter time expires, is faulted with event 6; a switch that a
decider reads, on its own input path, to have moved since ARM or release puts SP into SAFE_FAULT, or the lanes into LOCKOUT. R316,
R318, R319: when CAT1_MS has passed a block leaves DEMAND: for WITHDRAWN, even if it is healthy again; two channels that have
disagreed for DISC_MS put the block into DISC, and SP fires DISC, event 8; a two-hand window that expires leaves the block waiting
for both inputs to be off. Completes here (exec answers the next state described, from every state and with every operand that meet
the hypotheses): safetyInputAccept, safetyInputMismatch, switchCheck, sfbDemandExpiry, sfbDiscrepancy, twoHandWindowExpiry,
safetyInputIndeterminate. -/
def Obligations.SafetyFunctions : Prop :=
  (∀ (s : State) (dec : Decider) (ix : Fin 24) (level : Bool) (live : BitVec 16),
     (s.decOn dec = true →
       gives (.safetyInputAccept dec ix level) s (fun t =>
         (t.dec dec).level = (s.dec dec).level.set ix level ∧
         (dec = .sp → t.get (.si 1) (sinBit 0x100 ix) = (if level then 1 else 0)) ∧ onlyIsland s t)) ∧
     (s.rst.siRel = true → (s.si.sp.level[ix] ≠ s.si.laneA.level[ix] ∨ s.si.sp.level[ix] ≠ s.si.laneB.level[ix]) →
       gives (.safetyInputMismatch ix) s (fun t =>
         t.get (.si 1) (sinBit 0x110 ix) = 1 ∧ t.raised (.si 0) 6 = true ∧ onlyIsland s t)) ∧
     (s.rst.siRel = true → s.get (.si 1) (sinBit 0x108 ix) = 1 →
       gives (.safetyInputIndeterminate .sp ix) s (fun t =>
         t.get (.si 1) (sinBit 0x110 ix) = 1 ∧ t.raised (.si 0) 6 = true ∧ onlyIsland s t)) ∧
     gives (.switchCheck dec live) s (fun t =>
       (dec = .sp → s.rst.siRel = true → t.get (.si 6) SI6.SW_STATE.LIVE = live.toNat ∧
         (live.toNat ≠ s.swState → t.siState = 2) ∧ (live.toNat = s.swState → t.siState = s.siState)) ∧
       (dec ≠ .sp → s.si.lanesOn = true → (live ≠ s.laneSw dec → t.laneMode = 2) ∧ (live = s.laneSw dec → t.laneMode = s.laneMode)) ∧
       onlyIsland s t)) ∧
  (∀ (s : State) (dec : Decider) (ix : Fin 16), s.decOn dec = true →
     ((s.dec dec).st[ix] = .demand →
       gives (.sfbDemandExpiry dec ix) s (fun t =>
         (t.dec dec).st[ix] = .withdrawn ∧ onlyIsland s t)) ∧
     (s.blkUsed dec ix = true → fld (s.blkCfg dec ix) 28 27 = 0 → fld (s.blkCfg dec ix) 35 33 ∈ [1, 2, 4] →
       s.lvl dec (2 * fld (s.blkCfg dec ix) 32 29) ≠ s.lvl dec (2 * fld (s.blkCfg dec ix) 32 29 + 1) → (s.dec dec).st[ix] ≠ .disc →
       gives (.sfbDiscrepancy dec ix) s (fun t =>
         (t.dec dec).st[ix] = .disc ∧ (dec = .sp → t.raised (.si 0) 8 = true) ∧ onlyIsland s t)) ∧
     ((s.dec dec).hand[ix] = .window →
       gives (.twoHandWindowExpiry dec ix) s (fun t =>
         (t.dec dec).hand[ix] = .wait ∧ (t.dec dec).st = (s.dec dec).st ∧ t.regs = s.regs ∧ onlyIsland s t)))

/-- R19, R320: after SP's update its permission of a port is exactly what its conditions give, and PENnn is high only where both
lanes permit the port and, while the lanes are in NORMAL, SP does. R303, R312, R313, R325: ARM with no check of R312 failing enters
ARMED, sets the locks of SI0 to SI4 and SI6 and fires event 12; the first failure of a check is written to REFUSE, fires event 13 and
leaves STATE as it was; CLR_OUT clears OPEN. Completes here (exec answers the next state described, from every state and with every
operand that meet the hypotheses): safetyArm, safetyClrOut, spPermissionUpdate. -/
def Obligations.PortPermissions : Prop :=
  (∀ (s : State), s.si.vsafeBad = false → s.si.sclkStop = false →
     gives .spPermissionUpdate s (fun t =>
       (∀ n, t.portBit 0x68 n = t.spPermits n) ∧
       (∀ n, t.portBit 0x78 n = (t.lanePermits .laneA n && t.lanePermits .laneB n && (t.laneMode != 0 || t.spPermits n))) ∧
       onlyIsland s t)) ∧
  (∀ (s : State) (r : Req), s.opens r (.si 0) = true →
     (s.armRefuse s.cfgHash.toNat = none →
       gives (.safetyArm r) s (fun t =>
         t.siState = 1 ∧ t.raised (.si 0) 12 = true ∧ (∀ j : Fin 8, j ∈ [0, 1, 2, 3, 4, 6] → t.flag (.si j) HDR.LOCK.LOCK = true) ∧
         onlyIsland s t)) ∧
     (∀ why, s.armRefuse s.cfgHash.toNat = some why →
       gives (.safetyArm r) s (fun t =>
         t.siState = s.siState ∧ t.get (.si 0) SI0.SI_STAT.REFUSE = why ∧ t.raised (.si 0) 13 = true ∧
         (∀ j : Fin 8, t.flag (.si j) HDR.LOCK.LOCK = s.flag (.si j) HDR.LOCK.LOCK) ∧ onlyIsland s t)) ∧
     gives (.safetyClrOut r) s (fun t => t.get (.si 2) SI2.SOUT_STAT.OPEN = 0 ∧ onlyIsland s t))

/-- R74, R75, R321: a window without a beat of PE clears PE_OK and the port requests and fires event 4, and, unless a reset or PE's
health is awaited, takes the next step of the recovery ladder; four windows with beats set PE_OK and fire event 14; a PE that is not
healthy in time takes the next step, and the ladder's last step is the hold; PE_OK held clears the ladder. R326, R328, R329, R76: a
failed diagnostic is recorded with event 5; on a failed diagnostic, missing strobes, and a permission that SP alone gives, lanes in
NORMAL enter TAKEOVER with event 1; where they differ, on a fault of SCLK_SI, on a port enable that reads high while withheld, and on
a failed self-check they enter LOCKOUT with event 2, in which they permit nothing. Completes here (exec answers the next state
described, from every state and with every operand that meet the hypotheses): peWatchWindowExpiry, peHealthy, ladderHealthTimeout,
ladderClear, spDiag, takeover, lockout. -/
def Obligations.PeWatchAndLanes : Prop :=
  (∀ (s : State), s.rst.siRel = true →
     (s.si.beat = true → gives .peWatchWindowExpiry s (fun t => t = { s with si := { s.si with beat := false, good := s.si.good + 1 } })) ∧
     (s.si.beat = false → (s.si.wait = true ∨ s.rst.reach ≠ 0) →
       gives .peWatchWindowExpiry s (fun t =>
         t.flag (.si 0) SI0.SI_STAT.PE_OK = false ∧ t.word (.si 0) 0x58 = 0 ∧ t.word (.si 0) 0x60 = 0 ∧ t.raised (.si 0) 4 = true ∧
         (∀ n, t.spPermits n = false) ∧ onlyIsland s t)) ∧
     (s.si.beat = false → s.si.wait = false → s.rst.reach = 0 → s.flag (.si 0) SI0.SI_STAT.LHOLD = false →
       s.get (.si 0) SI0.SI_STAT.LADDER < 3 →
       gives .peWatchWindowExpiry s (fun t =>
         t.get (.si 0) SI0.SI_STAT.LADDER = s.get (.si 0) SI0.SI_STAT.LADDER + 1 ∧ t.flag .rst RST.RST_CAUSE.SI = true ∧ t.si.wait = true ∧
         (t.rst.mgmtRel = false ↔ (s.get (.si 0) SI0.SI_STAT.LADDER = 2 ∨ s.rst.mgmtRel = false)))) ∧
     (4 ≤ s.si.good → s.flag (.si 0) SI0.SI_STAT.PE_OK = false →
       gives .peHealthy s (fun t =>
         t.flag (.si 0) SI0.SI_STAT.PE_OK = true ∧ t.raised (.si 0) 14 = true ∧ t.si.hold = false ∧ onlyIsland s t)) ∧
     (s.si.wait = true → s.rst.resetOut = false → s.flag (.si 0) SI0.SI_STAT.LHOLD = false → s.get (.si 0) SI0.SI_STAT.LADDER = 3 →
       gives .ladderHealthTimeout s (fun t => t.flag (.si 0) SI0.SI_STAT.LHOLD = true ∧ onlyIsland s t)) ∧
     (s.si.wait = true → s.rst.resetOut = false → s.rst.reach ≤ 1 → s.flag (.si 0) SI0.SI_STAT.LHOLD = false →
       s.get (.si 0) SI0.SI_STAT.LADDER < 3 →
       gives .ladderHealthTimeout s (fun t =>
         t.get (.si 0) SI0.SI_STAT.LADDER = s.get (.si 0) SI0.SI_STAT.LADDER + 1 ∧ t.flag .rst RST.RST_CAUSE.SI = true)) ∧
     (s.flag (.si 0) SI0.SI_STAT.PE_OK = true →
       gives .ladderClear s (fun t => t.get (.si 0) SI0.SI_STAT.LADDER = 0 ∧ onlyWords s t [(.si 0, SI0.SI_STAT.LADDER.off)]))) ∧
  (∀ (s : State) (d : Fin 8) (c4 : Fin 4) (c8 : Fin 8),
     (s.rst.siRel = true → gives (.spDiag d) s (fun t =>
       bit (t.get (.si 5) SI5.DIAG_STAT.FAILED) d.val = true ∧ t.raised (.si 0) 5 = true ∧ onlyIsland s t)) ∧
     (s.si.lanesOn = true → s.laneMode = 0 → c4.val ≠ 0 → (c4.val = 1 → s.get (.si 5) SI5.DIAG_STAT.FAILED ≠ 0) →
       (c4.val = 3 → s.spAlone = true) →
       gives (.takeover c4) s (fun t =>
         t.laneMode = 1 ∧ t.get (.si 7) SI7.LANE_STAT.CAUSE = c4.val ∧ t.raised (.si 0) 1 = true ∧ onlyIsland s t)) ∧
     (s.si.lanesOn = true → s.laneMode ≠ 2 → 4 ≤ c8.val → (c8.val = 4 → s.lanesDiffer = true) →
       (c8.val = 5 → s.flag .clk CLK.STAT.SI_OSC_FAULT = true) →
       (c8.val = 6 → ∃ n, s.penBall n = true ∧ s.withheld n = true) →
       gives (.lockout c8) s (fun t =>
         t.laneMode = 2 ∧ t.get (.si 7) SI7.LANE_STAT.CAUSE = c8.val ∧ t.raised (.si 0) 2 = true ∧
         (∀ n, t.portBit 0x78 n = false) ∧ onlyIsland s t)))

/-! ### The event router (R207, R209, R368, R418-R425) -/

/-- R420, R421: a delivery pulses the inputs whose selector is enabled and names a delivered event, no others, and each pin is low
exactly while the router runs and an event routed to it is pending. Nothing but the router's state changes. R424: the oldest record
that waits goes to the log as four store words, and SEQ and WIDX count on; LOG_WRAP fires when WIDX passes from the last record to
the first. A read of RD_DATA gives the log word at ADDR, and ADDR advances. R209, R368, R371: a trigger of a task that is neither
ready nor running makes it ready with its deadline, 64 engine cycles for each count of DEADLINE, and one of a task that is ready is
lost and counted; an enabled unit whose condition has been met since ARM, and which has not fired for it, gives the trigger of an
armed capture: STATE becomes TRIGGERED, TRIGGERED fires, and a TRIG record with that instant joins the FIFO. A pulse unit's condition
is met at the change that ends the pulse, where its width meets MODE. Completes here (exec answers the next state described, from
every state and with every operand that meet the hypotheses): taskTrigger, triggerFire, eventDelivery, eventLogWrite, eventLogRead. -/
def Obligations.EventDelivery : Prop :=
  (∀ (s : State),
     gives .eventDelivery s (fun t =>
       t.evt.delivering = [] ∧
       (∀ o, o ∈ t.evt.pulsed ↔
         o ∈ selOffs ∧ ∃ f ∈ s.evt.delivering, fld (s.evtWord o f.tick) 9 9 = 1 ∧ f.ev = fld (s.evtWord o f.tick) 8 0) ∧
       (t.evt.irq0 = true ↔ s.runs .evt = true ∧ ∃ e < 512, bit (s.route e s.now) 12 = true ∧ s.pendingEv e = true) ∧
       (t.evt.irq1 = true ↔ s.runs .evt = true ∧ ∃ e < 512, bit (s.route e s.now) 11 = true ∧ s.pendingEv e = true) ∧
       t = { s with evt := t.evt })) ∧
  (∀ (s : State) (f : Firing) (l : List Firing),
     (s.evt.logQ = f :: l → s.rst.storeRdy = true → s.storeBusy = false →
       (∀ k < 4, worldAllows (s.storeWorld (0xC0000 + 4 * s.get .evt EVT.LOG_STAT.WIDX + k)) (s.pageSecure .evt) true = true) →
       gives .eventLogWrite s (fun t =>
         t.evt.logQ = l ∧ t.evt.logRestart = false ∧
         (∀ a, t.storeGet a =
           (if a = 0xC0000 + 4 * s.get .evt EVT.LOG_STAT.WIDX then
             BitVec.ofNat 36 (s.get .evt EVT.LOG_STAT.SEQ * 2 ^ 16 + (if s.evt.logRestart then 2 ^ 15 else 0) ||| f.ev)
           else if a = 0xC0000 + 4 * s.get .evt EVT.LOG_STAT.WIDX + 1 then f.w0
           else if a = 0xC0000 + 4 * s.get .evt EVT.LOG_STAT.WIDX + 2 then f.w1
           else if a = 0xC0000 + 4 * s.get .evt EVT.LOG_STAT.WIDX + 3 then f.raw.setWidth 36
           else s.storeGet a)) ∧
         t.get .evt EVT.LOG_STAT.SEQ = (s.get .evt EVT.LOG_STAT.SEQ + 1) % 65536 ∧
         t.get .evt EVT.LOG_STAT.WIDX = (s.get .evt EVT.LOG_STAT.WIDX + 1) % 16384 ∧
         (s.get .evt EVT.LOG_STAT.WIDX = 16383 → t.raised .evt 1 = true) ∧
         changes s t { s with store := t.store } [(.evt, 0x48), (.evt, 0x18)])) ∧
     (s.reaches .bar0 .evt false = true →
       worldAllows (s.storeWorld (0xC0000 + s.get .evt EVT.RD_ADDR.ADDR)) (s.pageSecure .evt) false = true →
       gives (.eventLogRead .bar0) s (fun t =>
         t.bar0.rdata = s.bar0.rdata ++ [(s.storeGet (0xC0000 + s.get .evt EVT.RD_ADDR.ADDR)).signExtend 64] ∧
         t.get .evt EVT.RD_ADDR.ADDR = (s.get .evt EVT.RD_ADDR.ADDR + 1) % 65536 ∧
         changes s t { s with bar0 := t.bar0 } [(.evt, 0x58)]))) ∧
  (∀ (s : State) (e : Fin 13) (i : Fin 32) (u : Fin 4) (inst was : Nat),
     (s.engRuns e = true → i.val < taskCount e → (s.taskW e i.val).msb = true →
       (s.taskSel e i.val = none ∨ ∃ o ∈ s.evt.pulsed, s.taskSel e i.val = some o) → s.engs[e].running = none → s.engs[e].saved = none →
       ((∀ x ∈ s.engs[e].ready, x.task ≠ i.val) →
         gives (.taskTrigger e i) s (fun t =>
           t = { s with engs := s.engs.set e { s.engs[e] with
             ready := s.engs[e].ready ++ [{ deadline := 2 * s.now + 64 * fld (s.taskW e i.val) 28 17, task := i.val }] } })) ∧
       ((∃ x ∈ s.engs[e].ready, x.task = i.val) →
         gives (.taskTrigger e i) s (fun t =>
           t.raised (engPg e) 3 = true ∧
           t.get (engPg e) AE.SCHED_STAT.MISSES = min (s.get (engPg e) AE.SCHED_STAT.MISSES + 1) (2 ^ (AE.SCHED_STAT.MISSES.hi + 1 - AE.SCHED_STAT.MISSES.lo) - 1) ∧
           onlyWords s t [(engPg e, AE.SCHED_STAT.MISSES.off), (engPg e, 0x18)]))) ∧
     (s.runs (.recorder 0) = true → s.recState = 1 → s.flag (.recorder 0) REC0.REC_CFG.SEQ = false →
       fld (s.word (.recorder 2) (0x40 + 0x40 * u.val)) 35 35 = 1 → s.trgInstant u = some inst → s.recd.trg[u].done ≠ some inst →
       64 * s.recd.armC ≤ inst →
       gives (.triggerFire u) s (fun t =>
         t.recState = 2 ∧ t.raised (.recorder 0) 8 = true ∧ t.recd.prim = some (u.val, inst, s.now) ∧
         (∃ x ∈ t.recd.fifo, x.prim = true ∧ x.cls = 3 ∧ x.key = inst / 64) ∧
         changes s t { s with recd := t.recd } [(.recorder 0, REC0.REC_STAT.STATE.off), (.recorder 0, 0x18)])) ∧
     (let w := s.word (.recorder 2) (0x40 + 0x40 * u.val)
      let width := inst - was
      fld w 34 32 = 1 → s.recd.lastChg[doorOf (fld w 28 24)] = some inst → s.recd.prevChg[doorOf (fld w 28 24)] = some was →
       s.trgInstant u =
         let lo := (s.word (.recorder 2) (0x58 + 0x40 * u.val)).toNat
         let hi := (s.word (.recorder 2) (0x60 + 0x40 * u.val)).toNat
         if s.recd.lvl.getLsbD (fld w 28 24) == (fld w 29 29 == 1) &&
           (match fld w 31 30 with
             | 0 => decide (width < lo)
             | 1 => decide (hi < width)
             | 2 => decide (lo ≤ width) && decide (width ≤ hi)
             | _ => decide (width < lo) || decide (hi < width))
         then some inst else none))

/-! ### The host port, host DMA, and debug (R64, R268, R426-R436, R440) -/

/-- R427: PERST# resets the endpoint, its link and its configuration space, ends every channel with ERR 4 and fires PERST, and resets
nothing else; a link-down fires LINK_DOWN and stops no block. With no unsent firing and no write-back waiting, link-up and a write of
the configuration space change only what they name; a base address takes multiples of 32 MiB, that of BAR2 on a part with the BAR2
fuse only, and Device Control sets the payload to 128 or 256 bytes and the read request up to 512 (R426). A mode of VIO33 changes
only that mode (R440). Completes here (exec answers the next state described, from every state and with every operand that meet the
hypotheses): perstAssert, vio33Overload, pcieLinkDown, pcieLinkUp, pcieConfigWrite. -/
def Obligations.HostLink : Prop :=
  ∀ (s : State) (c : CfgWrite) (m : Vio33),
    gives .perstAssert s (fun t =>
      (∀ k : Fin 9, t.dmaState k = 2 ∧ t.get .sys (SYS.DMA_STAT.ERR.nth k.val) = 4 ∧ t.dmaPos k = s.dmaPos k) ∧
      t.raised .dbg 3 = true ∧
      changes s t { s with host := { s.host with
          linkUp := false, d3hot := false, busMaster := false, msiEnable := false, msiMask := 0,
          cfg := { classCode := 0x118000, intPin := 0, bar0 := 0, bar2 := 0, msiAddr := 0, msiData := 0, maxPayload := 128, maxRead := 512 },
          txMoved := [], txBack := [] } }
        ((.dbg, 0x18) :: (List.finRange 9).map (fun k => (.sys, 0x118 + 0x20 * k.val)))) ∧
    (s.host.linkUp = true →
      gives .pcieLinkDown s (fun t =>
        t.raised .dbg 0 = true ∧ changes s t { s with host := { s.host with linkUp := false } } [(.dbg, 0x18)])) ∧
    ((∀ v : Fin 16, s.evt.count[v] = 0) → s.host.txBack = [] →
      (s.rst.mgmtRel = true → gives .pcieLinkUp s (fun t => t = { s with host := { s.host with linkUp := true } })) ∧
      (s.host.linkUp = true → gives (.pcieConfigWrite c) s (fun t =>
        match c with
        | .d3hot on => t = { s with host := { s.host with d3hot := on } }
        | .busMaster on => t = { s with host := { s.host with busMaster := on } }
        | .msiEnable on => t = { s with host := { s.host with msiEnable := on } }
        | .msiMask v on =>
          t = { s with host := { s.host with msiMask := t.host.msiMask } } ∧
          ∀ w : Fin 16, t.host.msiMask.getLsbD w.val = (if w = v then on else s.host.msiMask.getLsbD w.val)
        | .bar second base => ∃ b : BitVec 64, b.toNat = base.toNat / 2 ^ 25 * 2 ^ 25 ∧
          t = (if second then (if Config.bar2Fuse then { s with host := { s.host with cfg := { s.host.cfg with bar2 := b } } } else s)
            else { s with host := { s.host with cfg := { s.host.cfg with bar0 := b } } })
        | .msiMessage a d => t = { s with host := { s.host with cfg := { s.host.cfg with msiAddr := a, msiData := d } } }
        | .deviceControl pay req => ∃ x y, (pay.val = 0 → x = 128) ∧ (pay.val ≠ 0 → x = 256) ∧
          (req.val = 0 → y = 128) ∧ (req.val = 1 → y = 256) ∧ (2 ≤ req.val → y = 512) ∧
          t = { s with host := { s.host with cfg := { s.host.cfg with maxPayload := x, maxRead := y } } }))) ∧
    gives (.vio33Overload m) s (fun t => t = { s with host := { s.host with vio33 := m } })

/-- R428, R429: enabling a channel of a ring starts it at the ring's WIDX, or at the port's CONS, with ERR 0. R430: GO with COUNT
starts channel 8 with COUNT words left; refused while it runs, it reports ERR 3 with DMA_ERR; a completion fault or a denied transfer
ends a running channel in ERROR with DMA_ERR, a denied one with SEC_DENY too (R46); a channel that cannot reach the host waits
without error (R427). R428-R430: a running channel moves one slot. A receive channel whose slot carries the expected SEQ, or a later
one where the ring writer has overtaken it, posts the data words, word 0 and the write-back word, in that order, and goes on to the
next slot and the SEQ after it; a transmit channel writes word 0 and the data words to the store slot and advances the port's
TX_PROD; channel 8 posts its words and COUNT and is DONE. Completes here (exec answers the next state described, from every state and
with every operand that meet the hypotheses): dmaChannelEnable, dmaRxSlotCopy, dmaTxSlot, go, dmaCopyDone, dmaErr. -/
def Obligations.HostDma : Prop :=
  (∀ (s : State) (r : Req) (c : Fin 9) (n : Nat) (denied : Bool),
     (s.opens r .sys = true → s.flag .sys (SYS.DMA_CTL.EN.nth c.val) = false → c.val < 8 →
       (if c.val < 6 then s.get .sys (SYS.DMA_CTL.COUNT.nth c.val) = 0 else (s.get .sys (SYS.DMA_CTL.COUNT.nth c.val) < 128)) →
       gives (.dmaChannelEnable r c) s (fun t =>
         t.flag .sys (SYS.DMA_CTL.EN.nth c.val) = true ∧ t.dmaState c = 1 ∧ t.get .sys (SYS.DMA_STAT.ERR.nth c.val) = 0 ∧
         t.dmaPos c = (if c.val < 6 then (s.ringHead c).1 else s.get (.eth (dmaPort c)) ETH.TX_CONS.CONS) ∧
         (if c.val < 6 then t.host.dmaSeq = s.host.dmaSeq.set c (s.ringHead c).2 else t.host.dmaSeq = s.host.dmaSeq) ∧
         changes s t { s with host := { s.host with dmaSeq := t.host.dmaSeq } } [(.sys, 0x110 + 0x20 * c.val), (.sys, 0x118 + 0x20 * c.val)])) ∧
     (s.opens r .sys = true → 1 ≤ n → n ≤ 4194304 →
       (s.dmaState 8 ≠ 1 → gives (.go r n) s (fun t =>
         t.dmaState 8 = 1 ∧ t.get .sys (SYS.DMA_STAT.ERR.nth 8) = 0 ∧ t.dmaPos 8 = n ∧ onlyWords s t [(.sys, 0x210), (.sys, 0x218)])) ∧
       (s.dmaState 8 = 1 → gives (.go r n) s (fun t =>
         t.dmaState 8 = 1 ∧ t.get .sys (SYS.DMA_STAT.ERR.nth 8) = 3 ∧ t.dmaPos 8 = s.dmaPos 8 ∧ t.raised .dbg 1 = true ∧
         onlyWords s t [(.sys, 0x210), (.sys, 0x218), (.dbg, 0x18)]))) ∧
     (s.dmaState c = 1 → s.dmaReady = true →
       (denied = true → ∃ a ∈ s.dmaWords c, worldAllows (s.storeWorld a) (s.secure .dma) (c.val == 6 || c.val == 7) = false) →
       gives (.dmaErr c denied) s (fun t =>
         t.dmaState c = 2 ∧ t.get .sys (SYS.DMA_STAT.ERR.nth c.val) = (if denied then 2 else 1) ∧ t.dmaPos c = s.dmaPos c ∧
         t.raised .dbg 1 = true ∧ (denied = true → t.raised .sec 0 = true) ∧
         changes s t { s with host := { s.host with txMoved := t.host.txMoved, txBack := t.host.txBack } }
           ([(.sys, 0x118 + 0x20 * c.val), (.dbg, 0x18)] ++ if denied then [(.sec, 0x40), (.sec, 0x18)] else []))) ∧
     (s.dmaState c = 1 → s.dmaReady = false → gives (.dmaErr c denied) s (fun t => t = s))) ∧
  (∀ (s : State) (c : Fin 9) (slot : List Word), s.dmaReady = true → s.dmaState c = 1 →
     let base := (dmaRing c).1 + (dmaRing c).2.1 * s.dmaPos c
     let host := s.hostBase c + (dmaRing c).2.1 * 8 * s.dmaPos c
     let back := s.hostBase c + (dmaRing c).2.1 * 8 * (dmaRing c).2.2
     let w0 := s.storeGet base
     (c.val < 6 → base < 0x100000 → fld w0 31 16 = s.host.dmaSeq[c] ∨ s.overtaken c (fld w0 31 16) = true → s.storeOpen (s.secure .dma) false base (lastWord c w0 + 1) →
       gives (.dmaRxSlotCopy c) s (fun t =>
         t.host.posted = s.host.posted ++
           (List.range (lastWord c w0)).map (fun k => (host + 8 * (k + 1), (s.storeGet (base + 1 + k)).signExtend 64)) ++
           [(host, w0.signExtend 64), (back,
             (BitVec.ofNat 36 ((s.dmaPos c + 1) % (dmaRing c).2.2 * 2 ^ 16 + fld w0 31 16)).signExtend 64)] ∧
         t.dmaPos c = (s.dmaPos c + 1) % (dmaRing c).2.2 ∧ t.host.dmaSeq = s.host.dmaSeq.set c ((fld w0 31 16 + 1) % 65536) ∧
         changes s t { s with host := { s.host with posted := t.host.posted, dmaSeq := t.host.dmaSeq } } [(.sys, 0x118 + 0x20 * c.val)])) ∧
     (c.val = 6 ∨ c.val = 7 → s.dmaPos c < 128 → s.dmaPos c ≠ s.get .sys (SYS.DMA_CTL.COUNT.nth c.val) % 128 →
       s.storeOpen (s.secure .dma) true base 512 →
       gives (.dmaTxSlot c slot) s (fun t =>
         (∀ a, t.storeGet a =
           (if a = base then slot.getD 0 0
           else if base + 8 ≤ a ∧ a < base + 8 + min 504 ((fld (slot.getD 0 0) 10 0 + 3) / 4) then slot.getD (a - base) 0
           else s.storeGet a)) ∧
         t.dmaPos c = (s.dmaPos c + 1) % 128 ∧ t.get (.eth (dmaPort c)) ETH.TX_PROD.PROD = (s.dmaPos c + 1) % 128 ∧
         (dmaPort c, s.dmaPos c) ∈ t.host.txMoved ∧
         changes s t { s with store := t.store, host := { s.host with txMoved := t.host.txMoved } }
           [(.sys, 0x118 + 0x20 * c.val), (.eth (dmaPort c), 0x68)])) ∧
     (c = 8 → s.storeOpen (s.secure .dma) false (s.get .sys SYS.DMA_SRC8.SRC) (s.dmaPos 8) →
       gives .dmaCopyDone s (fun t =>
         t.host.posted = s.host.posted ++
           (List.range (s.dmaPos 8)).map (fun k =>
             (s.hostBase 8 + 8 * k, (s.storeGet ((s.get .sys SYS.DMA_SRC8.SRC + k) % 0x400000)).signExtend 64)) ++
           [(s.hostBase 8 + 8 * s.dmaPos 8, (BitVec.ofNat 36 (s.dmaPos 8)).signExtend 64)] ∧
         t.dmaState 8 = 3 ∧ t.get .sys (SYS.DMA_STAT.ERR.nth 8) = 0 ∧ t.dmaPos 8 = 0 ∧
         changes s t { s with host := { s.host with posted := t.host.posted } } [(.sys, 0x218)])))

/-- R431: a WRITE frame commits each complete slot, a partial one fires SPI_ERR; a READ sends 0xA5 and the eight bytes of the slot,
most significant first; a frame whose address bits 31:25 are not zero does nothing but fire SPI_ERR; STATUS answers READY, the ERR of
the frame before, and BOOTED. Shown on POS_PRESET of a feedback port. R433, R434: BYPASS shifts one 0 out, IDCODE the part's code,
SAMPLE/PRELOAD the levels of the pins; EXTEST drives the balls and DBGACC accesses the register map while JTAG_EN is 1, and both act
as BYPASS while it is 0. Completes here (exec answers the next state described, from every state and with every operand that meet the
hypotheses): spiWrite, spiRead, spiStatus, bypass, idcode, samplePreload, extest, dbgacc. -/
def Obligations.SerialPorts : Prop :=
  (∀ (s : State) (n : Fin 48) (v : BitVec 64) (part : Bool) (addr : BitVec 32) (slots : List (BitVec 64)) (count : Nat),
     s.rst.mgmtRel = true →
     (s.reaches .spi (.fb n) true = true →
       gives (.spiWrite (BitVec.ofNat 32 (slotAddr (.fb n) 0x60)) [v] part) s (fun t =>
         t.word (.fb n) 0x60 = v.setWidth 36 ∧ (part = true → t.raised .dbg 2 = true) ∧
         changes s t { s with host := { s.host with spiErr := part, spiOut := [] } } [(.fb n, 0x60), (.dbg, 0x18)])) ∧
     (s.reaches .spi (.fb n) false = true →
       gives (.spiRead (BitVec.ofNat 32 (slotAddr (.fb n) 0x60)) 1) s (fun t =>
         t.host.spiOut = 0xA5 :: slotBytes ((s.word (.fb n) 0x60).signExtend 64) ∧
         t.spi.rdata = s.spi.rdata ++ [(s.word (.fb n) 0x60).signExtend 64] ∧
         changes s t { s with spi := { s.spi with rdata := t.spi.rdata }, host := { s.host with spiErr := false, spiOut := t.host.spiOut } } [])) ∧
     (2 ^ 25 ≤ addr.toNat →
       gives (.spiWrite addr slots part) s (fun t =>
         t.raised .dbg 2 = true ∧ changes s t { s with host := { s.host with spiErr := true, spiOut := [] } } [(.dbg, 0x18)]) ∧
       gives (.spiRead addr count) s (fun t =>
         t.raised .dbg 2 = true ∧ changes s t { s with host := { s.host with spiErr := true, spiOut := [] } } [(.dbg, 0x18)])) ∧
     gives .spiStatus s (fun t =>
       t = { s with host := { s.host with spiOut := [(if s.rst.storeRdy then 1 else 0) + (if s.host.spiErr then 2 else 0) +
         (if s.flag .ovl OVL.BASE_STAT.DONE then 4 else 0)] } })) ∧
  (∀ (s : State) (pins : List Bool) (n : Fin 48) (w : Word) (wr : Bool) (addr : Nat),
     gives .bypass s (fun t => t = { s with host := { s.host with jtagIr := 0, jtagOut := [false], extest := false } }) ∧
     gives .idcode s (fun t => t = { s with host := { s.host with jtagIr := 1, jtagOut := (List.range 32).map (fun i => bit Config.idcode.toNat i), extest := false } }) ∧
     gives (.samplePreload pins) s (fun t =>
       t = { s with host := { s.host with jtagIr := 2, jtagOut := pins, boundary := pins, extest := false } }) ∧
     (s.jtagOn = true → gives (.extest pins) s (fun t =>
       t = { s with host := { s.host with jtagIr := 3, jtagOut := s.host.boundary, boundary := pins, extest := true } })) ∧
     (s.jtagOn = true → s.softResetting (.fb n) = false →
       gives (.dbgacc true (slotAddr (.fb n) 0x60) w) s (fun t =>
         t.word (.fb n) 0x60 = w ∧
         changes s t { s with host := { s.host with jtagIr := 4, jtagOut := [], extest := false } } [(.fb n, 0x60)]) ∧
       gives (.dbgacc false (slotAddr (.fb n) 0x60) w) s (fun t =>
         t = { s with host := { s.host with jtagIr := 4, extest := false, jtagOut := (List.range 36).map (fun i => bit (s.word (.fb n) 0x60).toNat i) } })) ∧
     (s.jtagOn = false →
       gives (.extest pins) s (fun t => t = { s with host := { s.host with jtagIr := 0, jtagOut := [false], extest := false } }) ∧
       gives (.dbgacc wr addr w) s (fun t =>
         t = { s with host := { s.host with jtagIr := 0, jtagOut := [false], extest := false } })))

/-- R268, R435, R436: HALT_ALL halts all 13 engines and freezes every drive port in one tick and fires HALT; clearing it lets run on
what its own HALT_ENG bit does not halt, and fires RESUME. A HALT_ENG bit halts its engine alone. Completes here (exec answers the
next state described, from every state and with every operand that meet the hypotheses): haltAll, haltAllClear, haltEng,
haltEngClear. -/
def Obligations.DebugHalts : Prop :=
  ∀ (s : State) (r : Req) (e : Fin 13), s.reaches r .dbg true = true → s.secure r = true → s.get .dbg DBG.DBG_CTRL.RST = 0 →
    (s.flag .dbg DBG.DBG_STAT.HALTED = false →
      gives (.haltAll r) s (fun t =>
        t.flag .dbg DBG.DBG_CTRL.HALT_ALL = true ∧ t.flag .dbg DBG.DBG_STAT.HALTED = true ∧ t.get .dbg DBG.DBG_STAT.ENG = 0x1FFF ∧
        (∀ n, t.flag (.dp n) DP.DP_STAT.HALTED = true) ∧ t.raised .dbg 4 = true ∧
        changes s t { s with host := { s.host with haltAt := some s.now } }
          ([(.dbg, 0x40), (.dbg, 0x48), (.dbg, 0x18)] ++ (List.finRange 48).map (fun n => (.dp n, DP.DP_STAT.HALTED.off))))) ∧
    (s.flag .dbg DBG.DBG_STAT.HALTED = true →
      gives (.haltAllClear r) s (fun t =>
        t.flag .dbg DBG.DBG_CTRL.HALT_ALL = false ∧ t.flag .dbg DBG.DBG_STAT.HALTED = false ∧
        t.get .dbg DBG.DBG_STAT.ENG = s.get .dbg DBG.DBG_CTRL.HALT_ENG ∧
        (∀ n, t.flag (.dp n) DP.DP_STAT.HALTED = false) ∧ t.raised .dbg 5 = true ∧
        changes s t { s with ports := t.ports, host := { s.host with haltAt := none } }
          ([(.dbg, 0x40), (.dbg, 0x48), (.dbg, 0x18)] ++ (List.finRange 48).map (fun n => (.dp n, DP.DP_STAT.HALTED.off))))) ∧
    (s.flag .dbg DBG.DBG_CTRL.HALT_ALL = false → s.flag .dbg DBG.DBG_STAT.HALTED = false →
      s.get .dbg DBG.DBG_STAT.ENG = s.get .dbg DBG.DBG_CTRL.HALT_ENG →
      (s.engHalted e = false →
        gives (.haltEng r e) s (fun t =>
          (∀ x, t.engHalted x = (s.engHalted x || x == e)) ∧ t.raised .dbg 4 = true ∧
          onlyWords s t [(.dbg, 0x40), (.dbg, 0x48), (.dbg, 0x18)])) ∧
      (s.engHalted e = true →
        gives (.haltEngClear r e) s (fun t =>
          (∀ x, t.engHalted x = (s.engHalted x && x != e)) ∧ t.raised .dbg 5 = true ∧
          onlyWords s t [(.dbg, 0x40), (.dbg, 0x48), (.dbg, 0x18)])))

/-! ### The axis chain, the profile units and supervision (R77-R123, R126-R137, R141-R149, R155-R178, R460) -/

/-- R87: TYPE, FB_MODE and FB_IDX take effect in AX_STATE 0; in another state a write that changes them leaves them and fires
CFG_BUSY. R88: ACK takes a faulted axis to state 0 and clears CAUSE and HOLD; in another state it has no effect. R85: CLR of a
queue's status register sets HWM to the occupancy and the counts to 0. R109: SRC stays while a move runs. R142, R166: MODEL_PUBLISH
asks for the record; SOL_CMD switches a solenoid. R103, R108: START, APPEND, REPLACE, RAMP_STOP and CLEAR, ENGAGE and DISENGAGE, and
the dice commands wait for the cutoff in the order given, and those that name a table ask for its directory entry. R114: HARD_STOP
freezes the setpoint at the one last pushed and leaves no gear; out of states 1 and 2, and on a TYPE without a profile unit, it is
refused with reason 1. R107: a complete staged segment joins the queue. Completes here (exec answers the next state described, from
every state and with every operand that meet the hypotheses): axCfgWrite, axisAck, queueStatClr, moveStart, moveAppend, moveReplace,
rampStop, hardStop, moveClear, segmentPush, profCfgWrite, gearEngage, gearDisengage, modelPublish, solenoidOn, solenoidOff,
diceStart, diceCapture, diceStop. -/
def Obligations.AxisCommands : Prop :=
  (∀ (s : State) (r : Req) (n : Fin 48) (w : Word) (q : QId),
     (s.reaches r (.ax n) true = true → s.flag (.ax n) HDR.LOCK.LOCK = false → fld w 2 0 < 5 → fld w 9 8 < 3 → fld w 15 10 < 48 →
       (s.axState n = 0 → gives (.axCfgWrite r n w) s (fun t =>
         t.axType n = fld w 2 0 ∧ t.get (.ax n) AX.AX_CFG.FB_MODE = fld w 9 8 ∧ t.get (.ax n) AX.AX_CFG.FB_IDX = fld w 15 10 ∧
         onlyWords s t [(.ax n, 0x40)])) ∧
       (s.axState n ≠ 0 → fld w 2 0 ≠ s.axType n → gives (.axCfgWrite r n w) s (fun t =>
         t.axType n = s.axType n ∧ t.get (.ax n) AX.AX_CFG.FB_MODE = s.get (.ax n) AX.AX_CFG.FB_MODE ∧
         t.get (.ax n) AX.AX_CFG.FB_IDX = s.get (.ax n) AX.AX_CFG.FB_IDX ∧ t.raised (.ax n) 6 = true ∧
         onlyWords s t [(.ax n, 0x40), (.ax n, 0x18)]))) ∧
     (s.opens r (.ax n) = true →
       (s.axState n = 4 → gives (.axisAck r n) s (fun t =>
         t.axState n = 0 ∧ t.get (.ax n) AX.AX_STATE.CAUSE = 0 ∧ t.axHold n = false ∧
         t.ostate n = (if s.ostate n = 2 then 1 else s.ostate n) ∧
         within s t { s with axes := s.axes.set n t.axes[n], ports := s.ports.set n t.ports[n] } [.ax n, .dp n])) ∧
       (s.axState n ≠ 4 → gives (.axisAck r n) s (fun t => t.axState n = s.axState n ∧ onlyWords s t [(.ax n, 0x48)])) ∧
       gives (.modelPublish r n) s (fun t => changes s t { s with refillQ := s.refillQ ++ [(true, n)] } [(.ax n, 0x1A0)]) ∧
       (s.axType n = 4 → s.axState n = 1 →
         gives (.solenoidOn r n) s (fun t =>
           changes s t { s with axes := s.axes.set n { s.axes[n] with sol := 1, solSince := s.now } } [(.ax n, 0x3B8)]) ∧
         gives (.solenoidOff r n) s (fun t =>
           changes s t { s with axes := s.axes.set n { s.axes[n] with sol := 3, solSince := s.now } } [(.ax n, 0x3B8)]))) ∧
     (s.reaches r (qStatReg q).1 true = true → s.released (qStatReg q).1 = true → (s.qGet q).length ≤ qDepth q →
       gives (.queueStatClr r q) s (fun t =>
         t.get (qStatReg q).1 (qHwm q) = (s.qGet q).length ∧ t.get (qStatReg q).1 (qEmptyPop q) = 0 ∧
         t.get (qStatReg q).1 (qFullPush q) = 0 ∧ (∀ q', t.qGet q' = s.qGet q') ∧ changes s t { s with queues := t.queues } [qStatReg q])) ∧
     (s.reaches r (.ax n) true = true → 1 ≤ fld w 32 28 → fld w 32 28 ≤ 28 →
       (s.get (.ax n) AX.PROF_STAT.PSTATE = 0 → gives (.profCfgWrite r n w) s (fun t =>
         t.get (.ax n) AX.PROF_CFG.SRC = fld w 33 33 ∧ t.get (.ax n) AX.PROF_CFG.REFILL_LVL = fld w 32 28 ∧
         t.get (.ax n) AX.PROF_CFG.BLEND_T = fld w 27 0 ∧ onlyWords s t [(.ax n, 0x70)])) ∧
       (s.get (.ax n) AX.PROF_STAT.PSTATE ≠ 0 → fld w 33 33 ≠ s.get (.ax n) AX.PROF_CFG.SRC → gives (.profCfgWrite r n w) s (fun t =>
         t.get (.ax n) AX.PROF_CFG.SRC = s.get (.ax n) AX.PROF_CFG.SRC ∧ t.get (.ax n) AX.PROF_CFG.BLEND_T = fld w 27 0 ∧
         t.raised (.ax n) 12 = true ∧ t.get (.ax n) AX.PROF_STAT.REFUSE = 1 ∧
         onlyWords s t [(.ax n, 0x70), (.ax n, 0x68), (.ax n, 0x18)])))) ∧
  (∀ (s : State) (r : Req) (n : Fin 48) (table : Nat) (w3 : Word), s.opens r (.ax n) = true → table < 1024 →
     let asked := fun (kind : CmdKind) (op tab : Nat) => s.axes.set n { s.axes[n] with cmds := s.axes[n].cmds ++
       [{ kind := kind, op := op, table := tab, src1 := s.flag (.ax n) AX.PROF_CFG.SRC, entry := none, have_ := s.axes[n].pushNo }] }
     let fetch := if s.flag (.ax n) AX.PROF_CFG.SRC then s.refillQ else s.refillQ ++ [(false, n)]
     gives (.moveStart r n table) s (fun t => changes s t { s with axes := asked .move 1 table, refillQ := fetch } [(.ax n, 0x60)]) ∧
     gives (.moveAppend r n table) s (fun t => changes s t { s with axes := asked .move 2 table, refillQ := fetch } [(.ax n, 0x60)]) ∧
     gives (.moveReplace r n table) s (fun t => changes s t { s with axes := asked .move 3 table, refillQ := fetch } [(.ax n, 0x60)]) ∧
     gives (.rampStop r n) s (fun t => changes s t { s with axes := asked .move 4 0 } [(.ax n, 0x60)]) ∧
     gives (.moveClear r n) s (fun t => changes s t { s with axes := asked .move 6 0 } [(.ax n, 0x60)]) ∧
     gives (.gearEngage r n) s (fun t => changes s t { s with axes := asked .gear 1 0 } [(.ax n, 0x108)]) ∧
     gives (.gearDisengage r n) s (fun t => changes s t { s with axes := asked .gear 2 0 } [(.ax n, 0x108)]) ∧
     (s.crossBad (.ax n) 0x3E8 0 1 = false →
       gives (.diceStart r n) s (fun t => changes s t { s with axes := asked .dice 1 0 } [(.ax n, 0x3E8)])) ∧
     gives (.diceCapture r n) s (fun t => changes s t { s with axes := asked .dice 2 0 } [(.ax n, 0x3E8)]) ∧
     gives (.diceStop r n) s (fun t => changes s t { s with axes := asked .dice 3 0 } [(.ax n, 0x3E8)]) ∧
     (s.axState n = 1 ∨ s.axState n = 2 → s.axType n = 1 ∨ s.axType n = 2 ∨ s.axType n = 3 → gives (.hardStop r n) s (fun t =>
       t.axes[n].mot = { Motion.idle with hard := true } ∧ t.axes[n].next = some ⟨s.getI (.ax n) AX.SETP_POS.VALUE, 0, 0⟩ ∧
       t.axes[n].gear = none ∧ t.get (.ax n) AX.GEAR_STAT.GSTATE = 0 ∧ t.axState n = s.axState n ∧
       changes s t { s with axes := s.axes.set n t.axes[n] } [(.ax n, 0x60), (.ax n, 0x130), (.ax n, AX.GOV_LAG.VALUE.off)])) ∧
     ((s.axState n ≠ 1 ∧ s.axState n ≠ 2) ∨ s.axType n = 0 ∨ s.axType n = 4 → gives (.hardStop r n) s (fun t =>
       t.get (.ax n) AX.PROF_STAT.REFUSE = 1 ∧ t.raised (.ax n) 12 = true ∧
       onlyWords s t [(.ax n, 0x60), (.ax n, 0x68), (.ax n, 0x18)])) ∧
     (s.flag (.ax n) AX.PROF_CFG.SRC = true → s.axes[n].hwq.length < 32 → fld (s.word (.ax n) 0x90) 31 0 ≠ 0 →
       (w3.getLsbD 0 = true → s.word (.ax n) 0xA0 = 0) → s.axes[n].gov.staged = [] →
       gives (.segmentPush r n w3) s (fun t =>
         t.axes[n].hwq = s.axes[n].hwq ++ [⟨s.word (.ax n) 0x90, s.word (.ax n) 0x98, s.word (.ax n) 0xA0, t.word (.ax n) 0xA8, 0, s.axes[n].pushNo + 1⟩] ∧
         fld (t.word (.ax n) 0xA8) 2 0 = fld w3 2 0 ∧ t.get (.ax n) AX.PROF_STAT.QOCC = s.axes[n].hwq.length + 1 ∧
         changes s t { s with axes := s.axes.set n { s.axes[n] with hwq := t.axes[n].hwq, pushNo := s.axes[n].pushNo + 1 } } [(.ax n, 0xA8), (.ax n, 0x68)])))

/-- R127: gear configuration takes effect while the axis is not geared, and is refused with reason 5 while it is. R143: a buffer-stop
register's write is staged, and GOV_STAT.PEND reads 1. R168: the kernels go on using the word of a loop parameter that was in force
until they take the write up. R160: LOOP_RATE changes only while every axis of the engine is in AX_STATE 0. Completes here (exec
answers the next state described, from every state and with every operand that meet the hypotheses): gearConfigWrite, govConfigWrite,
loopRateWrite, loopParamWrite. -/
def Obligations.AxisConfiguration : Prop :=
  ∀ (s : State) (r : Req) (n : Fin 48) (k : Fin 12) (w : Word) (off : Nat) (d : RegD) (i : Nat), off % 8 = 0 → off < 0x1000 →
    (s.reaches r (.ax n) true = true → pgReg (.ax n) off = some (d, i) → s.carriesBad (.ax n) d i w = false →
      (gearReg d.off = true → s.geared n = false → gives (.gearConfigWrite r n off w) s (fun t =>
        t.word (.ax n) off = d.merged (s.secure r) (s.flag (.ax n) HDR.LOCK.LOCK) (s.word (.ax n) off) w ∧
        onlyWords s t [(.ax n, off)])) ∧
      (gearReg d.off = true → s.geared n = true → gives (.gearConfigWrite r n off w) s (fun t =>
        t.get (.ax n) AX.GEAR_STAT.REFUSE = 5 ∧ t.raised (.ax n) 16 = true ∧ onlyWords s t [(.ax n, 0x130), (.ax n, 0x18)])) ∧
      (govReg d.off = true → s.axes[n].gov.staged = [] → gives (.govConfigWrite r n off w) s (fun t =>
        t.axes[n].gov.staged = [(off, d.merged (s.secure r) (s.flag (.ax n) HDR.LOCK.LOCK) (s.word (.ax n) off) w)] ∧
        t.flag (.ax n) AX.GOV_STAT.PEND = true ∧
        changes s t { s with axes := s.axes.set n { s.axes[n] with gov := { s.axes[n].gov with staged := t.axes[n].gov.staged } } }
          [(.ax n, 0x1A8)])) ∧
      (0x300 ≤ off → off ≤ 0x3B0 → s.axes[n].gov.staged = [] → gives (.loopParamWrite r n off w) s (fun t =>
        t.word (.ax n) off = d.merged (s.secure r) (s.flag (.ax n) HDR.LOCK.LOCK) (s.word (.ax n) off) w ∧
        t.parW n off = s.parW n off ∧
        changes s t { s with axes := s.axes.set n { s.axes[n] with params := t.axes[n].params } } [(.ax n, off)]))) ∧
    (s.reaches r (.ae k) true = true → s.flag (.ae k) HDR.LOCK.LOCK = false → 1 ≤ fld w 20 16 → fld w 20 16 ≤ 16 → 3000 ≤ fld w 15 0 →
      fld w 15 0 ≤ 37500 → 9375 ≤ fld w 20 16 * fld w 15 0 → fld w 20 16 * fld w 15 0 ≤ 75000 →
      ((∀ m ∈ axesOf k, s.axState m = 0) → gives (.loopRateWrite r k w) s (fun t =>
        t.get (.ae k) AE.LOOP_RATE.SRV_N = fld w 20 16 ∧ t.get (.ae k) AE.LOOP_RATE.CUR_PER = fld w 15 0 ∧
        onlyWords s t [(.ae k, 0x40)])) ∧
      ((∃ m ∈ axesOf k, s.axState m ≠ 0) → fld w 20 16 ≠ s.get (.ae k) AE.LOOP_RATE.SRV_N → gives (.loopRateWrite r k w) s (fun t =>
        t.word (.ae k) 0x40 = s.word (.ae k) 0x40 ∧ t.raised (.ae k) 16 = true ∧ onlyWords s t [(.ae k, 0x18)])))

/-- R92, R155, R156, R163, R170, R171, R460: a supervised limit that has been reached fires its event and, in states 1 and 2, takes
its action with its cause: STARVE and GOV_OVERSPEED the FAULT_ACT, CUR_MISS and GOV_FORCE the port's disabling, FB_LOSS by the axis's
type, FE_FAULT by FE_LIMIT.ACT; VSAT is a note. In the servo cycle in which FE_FAULT faulted the axis, a fault of another cause sets
CAUSE to its own. No other axis, and no other port, converter or queue, changes. R116-R118: a debounced limit level that the channel
shows is held, and one toward which the setpoint moves stops it under ACTION 0 at the frozen setpoint with LIMIT_STOP; a level that
the channel does not show has no effect. R103, R104, R109: a directory entry goes to the first command that waits for one, and a
START that would be accepted loads its table with it; the refill engine first serves directory reads and model records, then fetches
segments. R141: a fetched record that does not lower the mass takes effect at once. R137: a lost master ramps the slave down. R166:
after PULL_MS a solenoid holds. Completes here (exec answers the next state described, from every state and with every operand that
meet the hypotheses): starve, curMiss, fbLoss, directoryEntryArrival, refillTablet, limitDebounceAccept, masterLost,
modelRecordTakeup, govOverspeed, govForce, vsat, solenoidPullEnd, feFault. -/
def Obligations.AxisEventsAndFaults : Prop :=
  (∀ (s : State) (n : Fin 48),
     let frame := fun (t : State) => keepsQueues s t [.dq n] ∧
       within s t { s with axes := s.axes.set n t.axes[n], ports := s.ports.set n t.ports[n], queues := t.queues, adcs := s.adcs.set (adcOf n) t.adcs[adcOf n] } [.ax n, .dp n]
     (s.axState n = 3 → s.get (.ax n) AX.AX_STATE.CAUSE = 7 → s.axes[n].sup.feAt = some s.axes[n].kern.cycle →
       s.axes[n].sup.curMissDue = true → gives (.curMiss n) s (fun t =>
         t.raised (.ax n) 1 = true ∧ t.faulted n 2 2 ∧ t.axes[n].sup.curMissDue = false ∧ frame t)) ∧
     (s.axState n = 1 ∨ s.axState n = 2 →
     (s.axes[n].sup.starveDue = true → gives (.starve n) s (fun t =>
       t.raised (.ax n) 0 = true ∧ t.faulted n 1 (s.faultAct n) ∧ t.axes[n].sup.starveDue = false ∧ frame t)) ∧
     (s.axes[n].sup.curMissDue = true → gives (.curMiss n) s (fun t =>
       t.raised (.ax n) 1 = true ∧ t.faulted n 2 2 ∧ t.axes[n].sup.curMissDue = false ∧ frame t)) ∧
     (s.axes[n].sup.fbLossDue = true → gives (.fbLoss n) s (fun t =>
       t.raised (.ax n) 2 = true ∧ t.faulted n 3 (if s.axType n = 2 then s.faultAct n else 2) ∧ t.axes[n].sup.fbLossDue = false ∧ frame t)) ∧
     (s.axes[n].sup.overDue = true → gives (.govOverspeed n) s (fun t =>
       t.raised (.ax n) 21 = true ∧ t.faulted n 7 (s.faultAct n) ∧ t.axes[n].sup.overDue = false ∧ frame t)) ∧
     (s.axes[n].sup.forceDue = true → gives (.govForce n) s (fun t =>
       t.raised (.ax n) 22 = true ∧ t.faulted n 7 2 ∧ t.axes[n].sup.forceDue = false ∧ frame t)) ∧
     (s.axes[n].sup.feDue = true → gives (.feFault n) s (fun t =>
       t.raised (.ax n) 27 = true ∧ t.faulted n 7 (if s.par n AX.FE_LIMIT.ACT = 1 then 2 else s.faultAct n) ∧
       t.axes[n].sup.feDue = false ∧ frame t)) ∧
     (s.axes[n].sup.vsatDue = true → gives (.vsat n) s (fun t =>
       t.raised (.ax n) 30 = true ∧ t.axState n = s.axState n ∧ t.axes[n].sup.vsatDue = false ∧
       changes s t { s with axes := s.axes.set n t.axes[n] } [(.ax n, 0x18)])))) ∧
  (∀ (s : State) (n : Fin 48) (pos active : Bool) (c : Cmd) (cs : List Cmd) (rq : List (Bool × Fin 48)) (w0 w1 w2 : Word),
     (s.runs (.ax n) = true → s.flag (.ax n) (if pos then AX.LIM_CFG.POS_EN else AX.LIM_CFG.NEG_EN) = true →
       let latched := { s.axes[n] with limPos := if pos then active else s.axes[n].limPos, limNeg := if pos then s.axes[n].limNeg else active, holdPos := s.axes[n].holdPos && (!pos || active), holdNeg := s.axes[n].holdNeg && (pos || active) }
       let u := { s with axes := s.axes.set n latched }
       let v := (s.axes[n].next.getD s.axes[n].held).v
       (s.limLevel n pos ≠ active → gives (.limitDebounceAccept n pos active) s (fun t => t = s)) ∧
       (s.limLevel n pos = active → u.limitHit n v = false ∨ s.get (.ax n) AX.LIM_CFG.ACTION ≠ 0 →
         gives (.limitDebounceAccept n pos active) s (fun t => t = u)) ∧
       (s.limLevel n pos = active → u.limitHit n v = true → s.axState n = 1 ∨ s.axState n = 2 →
         s.axes[n].mot.hard = false → s.get (.ax n) AX.LIM_CFG.ACTION = 0 →
         gives (.limitDebounceAccept n pos active) s (fun t =>
           t.raised (.ax n) 11 = true ∧ t.axes[n].limPos = latched.limPos ∧ t.axes[n].limNeg = latched.limNeg ∧
           t.axes[n].mot.hard = true ∧ (if 0 < v then t.axes[n].holdPos else t.axes[n].holdNeg) = true ∧ t.axes[n].next = some ⟨s.getI (.ax n) AX.SETP_POS.VALUE, 0, 0⟩ ∧
           changes s t { s with axes := s.axes.set n t.axes[n] } [(.ax n, 0x130), (.ax n, AX.GOV_LAG.VALUE.off), (.ax n, 0x18)]))) ∧
     (s.axes[n].cmds = c :: cs → c.kind = .move → c.op = 1 ∨ c.op = 2 ∨ c.op = 3 → c.src1 = false → c.entry = none → c.table < 1024 →
       worldAllows (s.storeWorld (0x3FC00 + c.table)) (s.pageSecure (.ax n)) false = true →
       gives (.directoryEntryArrival n) s (fun t =>
         let w := s.storeGet (0x3FC00 + c.table)
         let loads := c.op == 1 && entryOk w && s.axState n == 1 && s.get (.ax n) AX.PROF_STAT.PSTATE == 0 && !s.geared n &&
           s.axType n != 0 && s.axType n != 4
         t.axes[n].cmds = { c with entry := some w } :: cs ∧
         (loads = true → t.axes[n].hwq = [] ∧ t.axes[n].tabs = [⟨c.table, fld w 17 0, fld w 29 18, 0, false⟩] ∧
           t.get (.ax n) AX.PROF_STAT.QOCC = 0 ∧ t.get (.ax n) AX.PROF_STAT.PEND = 0) ∧
         (loads = false → t.axes[n].hwq = s.axes[n].hwq ∧ t.axes[n].tabs = s.axes[n].tabs ∧ t.word (.ax n) 0x68 = s.word (.ax n) 0x68) ∧
         changes s t { s with refillQ := dropFirst (false, n) s.refillQ, axes := s.axes.set n { s.axes[n] with
           cmds := t.axes[n].cmds, hwq := t.axes[n].hwq, tabs := t.axes[n].tabs } } [(.ax n, 0x68)])) ∧
     (s.rst.periRel = true → s.rst.storeRdy = true → s.refillQ = (true, n) :: rq →
       (∀ i < 3, worldAllows (s.storeWorld (recordBase n + i)) (s.pageSecure (.ax n)) false = true) →
       gives .refillTablet s (fun t =>
         t = { s with refillQ := rq, axes := s.axes.set n { s.axes[n] with gov := { s.axes[n].gov with
           rec_ := some [s.storeGet (recordBase n), s.storeGet (recordBase n + 1), s.storeGet (recordBase n + 2)], ready := true } } })) ∧
     (s.rst.periRel = true → s.rst.storeRdy = true → s.refillQ = [] → s.refillPick = some n →
       (∀ e ∈ (openTab s.axes[n].tabs).toList, s.storeOpen (s.pageSecure (.ax n)) false (e.2.base + 4 * e.2.next) 16) →
       gives .refillTablet s (fun t =>
         (∃ g gs, t.axes[n].hwq = s.axes[n].hwq ++ g :: gs) ∧ t.get (.ax n) AX.PROF_STAT.QOCC = t.axes[n].hwq.length % 64 ∧
         changes s t { s with axes := s.axes.set n { s.axes[n] with hwq := t.axes[n].hwq, tabs := t.axes[n].tabs } } [(.ax n, 0x68)])) ∧
     (s.groupStill n = false ∨ (s.axes[n].gov.staged = [] ∧ s.axes[n].gov.lower = none) → s.axes[n].gov.rec_ = some [w0, w1, w2] → s.get (.ax n) AX.GOV_MGOV.VALUE ≤ w0.toNat + w1.toNat → w0.toNat + w1.toNat < 2 ^ 36 →
       s.get (.ax n) AX.GOV_MFLOOR.VALUE ≤ w0.toNat + w1.toNat →
       gives (.modelRecordTakeup n) s (fun t =>
         t.get (.ax n) AX.GOV_MGOV.VALUE = w0.toNat + w1.toNat ∧ t.flag (.ax n) AX.GOV_STAT.MVALID = w2.msb ∧
         changes s t { s with axes := s.axes.set n { s.axes[n] with gov := { s.axes[n].gov with rec_ := none, lower := none } } }
           [(.ax n, AX.GOV_MGOV.VALUE.off), (.ax n, 0x1A8), (.ax n, 0x18)])) ∧
     (s.geared n = true → s.get (.ax n) AX.GEAR_CFG.MISS_LIM ≤ s.get (.ax n) AX.GEAR_STAT.MISS_RUN →
       gives (.masterLost n) s (fun t =>
         t.raised (.ax n) 19 = true ∧ t.get (.ax n) AX.GEAR_STAT.GSTATE = 0 ∧ t.axes[n].gear = none ∧ t.axes[n].mot.ramp.isSome = true ∧
         changes s t { s with axes := s.axes.set n t.axes[n], doors := t.doors } [(.ax n, 0x130), (.ax n, AX.GOV_LAG.VALUE.off), (.ax n, 0x18)])) ∧
     (s.axes[n].sol = 1 →
       gives (.solenoidPullEnd n) s (fun t => t = { s with axes := s.axes.set n { s.axes[n] with sol := 2 } })))

/-- R173, R174, R176, R177: a waveform that has run its time ends with DICE_DONE and its signal at 0, or begins again with REPEAT; a
capture that has taken 16,384 samples is complete with END 1; the capture writer moves up to 16 words of a buffer to the store.
Completes here (exec answers the next state described, from every state and with every operand that meet the hypotheses): diceEnd,
captureComplete, captureWriterTablet. -/
def Obligations.DiceAndCapture : Prop :=
  ∀ (s : State) (n : Fin 48) (k : Fin 12),
    (s.axes[n].dice.run = true → (s.get (.ax n) AX.DICE_T.DUR ≠ 0 ∨ s.get (.ax n) AX.DICE_CFG.WAVE = 0) →
      (s.flag (.ax n) AX.DICE_CFG.REPEAT = true → gives (.diceEnd n) s (fun t =>
        t = { s with axes := s.axes.set n { s.axes[n] with dice := { s.axes[n].dice with n := 0, t0 := s.now, lfsr := 0x7FFF } } })) ∧
      (s.flag (.ax n) AX.DICE_CFG.REPEAT = false → gives (.diceEnd n) s (fun t =>
        t.raised (.ax n) 31 = true ∧
        changes s t { s with axes := s.axes.set n { s.axes[n] with
          dice := { s.axes[n].dice with run := false }, kern := { s.axes[n].kern with recd := s.axes[n].kern.recd.set 12 0 } } } [(.ax n, 0x18)]))) ∧
    (s.get (.ax n) AX.CAP_STAT.COUNT = 16384 → s.axes[n].dice.capRun = true →
      gives (.captureComplete n) s (fun t =>
        t.get (.ax n) AX.CAP_STAT.STATE = 2 ∧ t.get (.ax n) AX.CAP_STAT.END = 1 ∧ t.raised (.ax n) 31 = true ∧
        changes s t { s with axes := s.axes.set n { s.axes[n] with dice := { s.axes[n].dice with capRun := false } } }
          [(.ax n, AX.CAP_STAT.STATE.off), (.ax n, 0x18)])) ∧
    ((axesOf k).find? (fun m => !s.axes[m].dice.buf.isEmpty) = some n →
      (∀ x ∈ s.axes[n].dice.buf.take 16, x.1 < 0x400000 ∧ worldAllows (s.storeWorld x.1) false true = true) →
      gives (.captureWriterTablet k) s (fun t =>
        t.axes[n].dice.buf = s.axes[n].dice.buf.drop 16 ∧
        (∀ x ∈ s.axes[n].dice.buf.take 16, (∀ y ∈ s.axes[n].dice.buf.take 16, y.1 = x.1 → y.2 = x.2) → t.storeGet x.1 = x.2) ∧
        (∀ a, (∀ x ∈ s.axes[n].dice.buf.take 16, x.1 ≠ a) → t.storeGet a = s.storeGet a) ∧
        t = { s with store := t.store, axes := s.axes.set n { s.axes[n] with dice := { s.axes[n].dice with buf := t.axes[n].dice.buf } } }))

/-- R94, R98, R99, R107-R109: with one enabled axis in an engine's group, in AX_STATE 1 at rest with nothing in progress and no limit
active. At a cutoff a START of pushed segments takes up the first of them from the setpoint held, and with no command the setpoint
held is computed again. At the boundary the setpoint computed at the cutoff is pushed into PQ and shown, or, with PQ full, discarded
with QFULL. Completes here (exec answers the next state described, from every state and with every operand that meet the hypotheses):
servoBoundary, profileCutoff. -/
def Obligations.ServoCycle : Prop :=
  ∀ (s : State) (k : Fin 12) (i : Fin 4) (c : Cmd) (g : QSeg) (gs : List QSeg) (o : Setp) (p0 : Int),
    let n := axOf k i
    s.rst.periRel = true → s.flag .dbg DBG.DBG_STAT.HALTED = false → (∀ m ∈ axesOf k, s.runs (.ax m) = true ↔ m = n) →
    s.axType n = 1 ∨ s.axType n = 3 → s.axState n = 1 →
    s.axes[n].gear = none → s.get (.ax n) AX.GEAR_STAT.GSTATE = 0 → s.get (.ax n) AX.GEAR_CFG.MSRC = 0 →
    s.axes[n].mot = Motion.idle → s.axes[n].doneDue = false → (∀ m ∈ axesOf k, s.axes[m].params = [] ∧ s.axes[m].kern.passOld = []) →
    (s.get (.ax n) AX.PROF_STAT.PSTATE = 0 → s.axes[n].gov.staged = [] → s.axes[n].gov.lower = none → s.axes[n].gov.rec_ = none →
      s.axes[n].sup.rampDue = false → s.qGet (.mq n) = [] → (∀ pos, s.limOn n pos = false) →
      s.axes[n].held = ⟨p0, 0, 0⟩ → -2 ^ 35 ≤ p0 → p0 < 2 ^ 35 →
      (s.axes[n].cmds = [c] → c.kind = .move → c.op = 1 →
        c.src1 = true ∨ (c.entry.isSome = true ∧ entryOk (c.entry.getD 0) = true ∧ s.hasLoaded n c = true) →
        s.axes[n].hwq = g :: gs → g.invalid = false → s.ovl.request = none ∨ s.ovlGroup ≠ k →
        gives (.profileCutoff k) s (fun t =>
          t.axes[n].mot.cur = some ⟨0, p0, 0, g⟩ ∧ t.axes[n].hwq = gs ∧ t.axes[n].cmds = [] ∧
          t.axes[n].next = some s.axes[n].held ∧
          t.get (.ax n) AX.PROF_STAT.SEG_IDX = (if s.flag (.ax n) AX.PROF_CFG.SRC then 0 else g.idx % 4096) ∧ t.axState n = 1 ∧
          within s t { s with axes := s.axes.set n t.axes[n], cars := t.cars, doors := t.doors } [.ax n])) ∧
      (s.axes[n].cmds = [] → s.ovl.request = none ∨ s.ovlGroup ≠ k →
        gives (.profileCutoff k) s (fun t =>
          t.axes[n].next = some s.axes[n].held ∧ t.axes[n].mot = Motion.idle ∧ t.axes[n].hwq = s.axes[n].hwq ∧
          within s t { s with axes := s.axes.set n t.axes[n], cars := t.cars } [.ax n]))) ∧
    (s.queuesFresh → s.axes[n].next = some o → -2 ^ 35 ≤ o.p → o.p < 2 ^ 35 → -2 ^ 35 ≤ o.v → o.v < 2 ^ 35 → -2 ^ 35 ≤ o.a → o.a < 2 ^ 35 →
      ((s.qGet (.pq n)).length < 8 →
        gives (.servoBoundary k) s (fun t =>
          (∃ f, t.qGet (.pq n) = s.qGet (.pq n) ++ [[BitVec.ofInt 36 o.p, BitVec.ofInt 36 o.v, BitVec.ofInt 36 o.a, f]]) ∧
          t.setp n = o ∧ t.axState n = 1 ∧ (∀ q, q ≠ .pq n → (∀ m, q ≠ .mq m) → t.qGet q = s.qGet q) ∧
          t.engs = s.engs ∧ t.ports = s.ports ∧ t.store = s.store ∧ (∀ m, m ≠ n → t.axes[m] = s.axes[m]))) ∧
      ((s.qGet (.pq n)).length = 8 →
        gives (.servoBoundary k) s (fun t =>
          t.raised (.ax n) 4 = true ∧ (∀ q, t.qGet q = s.qGet q) ∧ t.setp n = s.setp n ∧
          within s t { s with axes := s.axes.set n t.axes[n], queues := t.queues } [.ax n])))

/-- R90, R91, R167, R170: in a servo cycle the kernel takes the newest PQ entry, counting the older ones as skipped, and the newest
FQ sample; its error is shown in FE_VALUE and counts time beyond FE_DIST, and its current reference is R167's law, clamped by IQ_MAX
and by R149. With PQ empty for the first cycle it advances the last position by one cycle of the last velocity and counts in
STARVE_RUN; from STARVE_LIM on the fault is due, once in a run. R86, R90, R165, R169: without feedback a stepper's kernel sends the
address that came with its setpoint to DQ. A TYPE 3 axis's current pass takes its sample, closes the loop of R165, pushes its duty
into DQ and clears CUR_MISS_RUN; with CQ empty it waits, and a wait that expires ends the pass without a push and counts in
CUR_MISS_RUN. A pass of any type that has its results pushes the duty of its loop. PE takes an observation entry: the force beyond
the limit of its cycle is counted, and FORCE_N in a row make the fault due. Completes here (exec answers the next state described,
from every state and with every operand that meet the hypotheses): currentPass, curWaitExpiry, servoTask, stepperLoopTask,
oqEntryProcess. -/
def Obligations.RomKernels : Prop :=
  (∀ (s : State) (n : Fin 48) (pq fq : List (List Word)) (p v a f fp fv ff : Word),
     s.engineLive n = true → s.get (.ae (aeOf n)) AE.ENG_STAT.STATE = 1 → s.axType n = 1 ∨ s.axType n = 3 → s.axKernel n = true →
     s.axes[n].kern.engRamp = none → s.axes[n].dice.run = false → s.axes[n].dice.capRun = false → (s.fbPort n).isSome = true → s.queuesFresh →
     let frame := fun (t : State) => keepsQueues s t [.pq n, .fq n, .oq n] ∧
       within s t { s with axes := s.axes.set n t.axes[n], queues := t.queues } [.ax n]
     (s.qGet (.pq n) = pq ++ [[p, v, a, f]] → s.qGet (.fq n) = fq ++ [[fp, fv, ff]] → ff.msb = false →
       let ms := msOf (s.servoP n)
       let e := (p.toInt : Rat) / 4096 - (fp.toInt : Rat) / 4096
       let dv0 := (s.axes[n].kern.dv : Rat) / 2 ^ 48
       let vs := (v.toInt : Rat) / 65536
       let al := s.par28 n AX.POS_N.VALUE * ms / (1 + s.par28 n AX.POS_N.VALUE * ms)
       let dv := dv0 + al * ((vs - (fv.toInt : Rat) / 65536) - dv0)
       let u := s.par28 n AX.POS_KP.VALUE * e + (s.axes[n].kern.integ : Rat) / 2 ^ 35 + s.par28 n AX.POS_KD.VALUE * dv +
         s.par28 n AX.FF_KV.VALUE * vs + s.par28 n AX.FF_KA.VALUE * ((a.toInt : Rat) / 4194304) +
         (s.parI n AX.FF_KC.VALUE : Rat) / 2 ^ 35 * sgnQ vs
       gives (.servoTask n) s (fun t =>
         t.axes[n].kern.setp = ⟨p.toInt, v.toInt, a.toInt⟩ ∧ t.qGet (.pq n) = [] ∧ t.qGet (.fq n) = [] ∧
         t.get (.ax n) AX.CHAIN_STAT.STARVE_RUN = 0 ∧ t.get (.ax n) AX.CHAIN_STAT.FB_MISS_RUN = 0 ∧
         t.get (.ax n) AX.CHAIN_STAT.SKIP = (if pq = [] then s.get (.ax n) AX.CHAIN_STAT.SKIP
           else min 255 (s.get (.ax n) AX.CHAIN_STAT.SKIP + pq.length)) ∧ (pq ≠ [] → t.raised (.ax n) 5 = true) ∧
         t.word (.ax n) 0x398 = wordQ 12 e ∧ t.axes[n].kern.dv = roundQ (dv * 2 ^ 48) ∧
         t.axes[n].kern.iqRef = roundQ (closeClamp f (clampQ ((s.par n AX.CUR_LIM.IQ_MAX : Rat) / 32768) u) * 2 ^ 35) ∧
         t.axes[n].sup.feTimer = (if s.par n AX.FE_DIST.VALUE < (t.getI (.ax n) AX.FE_VALUE.VALUE).natAbs then s.axes[n].sup.feTimer + s.servoP n else 0) ∧
         frame t)) ∧
     (s.qGet (.pq n) = [] → s.axes[n].kern.starvedOnce = false → s.get (.ax n) AX.CHAIN_STAT.STARVE_RUN < 15 →
       gives (.servoTask n) s (fun t =>
         t.axes[n].kern.setp = ⟨(PVA.setp ⟨s.axes[n].kern.setp.pva.p + s.axes[n].kern.setp.pva.v * msOf (s.servoP n), 0, 0⟩).p,
           s.axes[n].kern.setp.v, 0⟩ ∧
         t.get (.ax n) AX.CHAIN_STAT.STARVE_RUN = s.get (.ax n) AX.CHAIN_STAT.STARVE_RUN + 1 ∧
         (s.axes[n].sup.starveHit = false → s.get (.ax n) AX.CHAIN_LIM.STARVE_LIM ≤ s.get (.ax n) AX.CHAIN_STAT.STARVE_RUN + 1 → t.axes[n].sup.starveDue = true) ∧
         t.qGet (.pq n) = [] ∧ frame t))) ∧
  (∀ (s : State) (n : Fin 48) (pq : List (List Word)) (p v a f e0 e1 e2 : Word) (g : CycPlan),
     s.axes[n].dice.run = false → s.axes[n].dice.capRun = false → s.queuesFresh →
     (s.engineLive n = true → s.get (.ae (aeOf n)) AE.ENG_STAT.STATE = 1 → s.axType n = 2 → s.fbPort n = none →
       s.axes[n].kern.engRamp = none → s.qGet (.pq n) = pq ++ [[p, v, a, f]] → (s.qGet (.dq n)).length < 4 →
       gives (.stepperLoopTask n) s (fun t =>
         t.qGet (.dq n) = s.qGet (.dq n) ++ [[BitVec.ofNat 36 (fld f 23 16), 0, 0, 0]] ∧
         t.qGet (.pq n) = [] ∧ t.get (.ax n) AX.CHAIN_STAT.STARVE_RUN = 0 ∧ keepsQueues s t [.pq n, .fq n, .dq n] ∧
         within s t { s with axes := s.axes.set n t.axes[n], queues := t.queues } [.ax n, .dp n])) ∧
     (s.engineLive n = true → s.axType n = 3 → s.axes[n].kern.cqWait = false → s.axes[n].kern.sampled = [] → s.qGet (.fq n) = [] →
       (s.qGet (.cq (aeOf n)) = [[e0, e1, e2]] → s.get (.adc (adcOf n)) (ADC.SEQ.INPUT.nth (e0.toNat % 32)) = 2 * (n.val % 8) → (s.qGet (.dq n)).length < 4 →
         let y := s.passView n
         let i := (if y.par n AX.MOT_CFG.ISRC = 1 then (e1.toInt : Rat) else e2.toInt) / 2 ^ 35
         let vc := (y.par n AX.CUR_LIM.VC : Rat) / 32768
         let x := if s.runs (.dp n) then (s.axes[n].kern.xq : Rat) / 2 ^ 35 else 0
         let c := clampQ vc (y.par28 n AX.CUR_KP.VALUE * ((s.axes[n].kern.iqRef : Rat) / 2 ^ 35 - i) + x +
           y.par28 n AX.CUR_KE.VALUE * (2 * piQ * ((s.axes[n].kern.fbV : Rat) / 65536) / (y.par n AX.MOT_CFG.ECPR : Rat)))
         gives (.currentPass n) s (fun t =>
           t.qGet (.dq n) = s.qGet (.dq n) ++ [[dutyWord (1 / 2 + c / 2), dutyWord (1 / 2 - c / 2), 0, 0]] ∧
           t.qGet (.cq (aeOf n)) = [] ∧ t.get (.ax n) AX.CHAIN_STAT.CUR_MISS_RUN = 0 ∧ keepsQueues s t [.cq (aeOf n), .dq n] ∧
           within s t { s with axes := s.axes.set n t.axes[n], queues := t.queues } [.ax n, .dp n, .adc (adcOf n)])) ∧
       (s.qGet (.cq (aeOf n)) = [] →
         gives (.currentPass n) s (fun t =>
           t.axes[n].kern.cqWait = true ∧ t = { s with axes := s.axes.set n t.axes[n] }))) ∧
     (s.engineLive n = true → s.axType n = 1 ∨ s.axType n = 3 ∨ s.axType n = 4 → s.axes[n].kern.cqWait = true →
       resultsOf (s.axType n) ≤ s.axes[n].kern.sampled.length → s.axes[n].sol ≠ 3 → (s.qGet (.dq n)).length < 4 →
       gives (.currentPass n) s (fun t =>
         t.qGet (.dq n) = s.qGet (.dq n) ++ [(if s.axType n = 1 then (s.passView n).dqLoop n else (s.passView n).scalarLoop n).duty] ∧
         t.axes[n].kern.sampled = [] ∧ t.get (.ax n) AX.CHAIN_STAT.CUR_MISS_RUN = 0 ∧ keepsQueues s t [.dq n] ∧
         within s t { s with axes := s.axes.set n t.axes[n], queues := t.queues } [.ax n, .dp n])) ∧
     (s.axes[n].kern.cqWait = true → s.axKernel n = true → s.get (.ax n) AX.CHAIN_STAT.CUR_MISS_RUN < 15 →
       gives (.curWaitExpiry n) s (fun t =>
         t.axes[n].kern.cqWait = false ∧ t.get (.ax n) AX.CHAIN_STAT.CUR_MISS_RUN = s.get (.ax n) AX.CHAIN_STAT.CUR_MISS_RUN + 1 ∧
         (t.axes[n].sup.curMissDue = true ↔ s.axes[n].sup.curMissDue = true ∨
           (s.axes[n].sup.curHit = false ∧ s.get (.ax n) AX.CHAIN_LIM.CUR_MISS_LIM ≤ s.get (.ax n) AX.CHAIN_STAT.CUR_MISS_RUN + 1)) ∧
         changes s t { s with axes := s.axes.set n t.axes[n] } [(.ax n, 0x58)])) ∧
     (s.peLive = true → s.axes[n].plans.find? (fun c => c.cyc == fld a 15 0) = some g → s.qGet (.oq n) = [p, v, f, a] :: pq → a.msb = false → s.get (.ax n) AX.GOV_CFG.OBS_THR = 0 →
       let beyond := decide ((g.fLim : Rat) / 65536 + s.get (.ax n) AX.GOV_WATCH.FORCE_TOL < s.closeSign n * ((f.toInt : Rat) / 65536))
       gives (.oqEntryProcess n) s (fun t =>
         t.qGet (.oq n) = pq ∧ t.axes[n].kern.obsCnt = 0 ∧ t.axes[n].sup.obsDue = s.axes[n].sup.obsDue ∧
         (beyond = false → t.axes[n].kern.forceCnt = 0 ∧ t.axes[n].sup.forceDue = s.axes[n].sup.forceDue) ∧
         (beyond = true → s.get (.ax n) AX.GOV_WATCH.FORCE_N ≤ s.axes[n].kern.forceCnt + 1 →
           t.axes[n].sup.forceDue = true ∧ t.axes[n].kern.forceCnt = 0) ∧
         (beyond = true → s.axes[n].kern.forceCnt + 1 < s.get (.ax n) AX.GOV_WATCH.FORCE_N →
           t.axes[n].kern.forceCnt = s.axes[n].kern.forceCnt + 1 ∧ t.axes[n].sup.forceDue = s.axes[n].sup.forceDue) ∧
         keepsQueues s t [.oq n] ∧ 
         changes s t { s with axes := s.axes.set n t.axes[n], queues := t.queues, store := t.store, refillQ := t.refillQ } [qStatReg (.oq n)])))

/-- R134-R136: VM_SRC's EN rising makes a virtual master acquire, from the frames its link records from then on, and falling makes it
idle. PE takes the next matching frame of the link's receive ring; where there is none, nothing but the place it has examined
changes. The first frame of an acquisition that matches gives its position, and a later one with a good instant the filtered values
of R135; a short frame counts as BAD and an outlier as an outlier; the third outlier in a row loses the master. PE pushes the
master's value, extrapolated to the slave's boundary, into its MQ. Completes here (exec answers the next state described, from every
state and with every operand that meet the hypotheses): vmEnable, vmFrameReceived, vmOutlierLoss, vmMasterPush. -/
def Obligations.VirtualMasters : Prop :=
  ∀ (s : State) (r : Req) (v : Fin 8) (w : Word) (f : VmFrame) (tf : Int) (n : Fin 48) (dt : Nat),
    (s.reaches r .pe true = true → fld w 34 32 < 6 →
      (if fld w 34 32 < 4 then (fld w 29 29 = 1 ∨ fld w 28 0 < 2048) else (fld w 29 29 = 0 ∧ fld w 28 24 = 0)) →
      s.flag .pe (PE.VM_SRC.EN.nth v.val) ≠ w.msb →
      gives (.vmEnable r v w) s (fun t =>
        t.flag .pe (PE.VM_SRC.EN.nth v.val) = w.msb ∧ t.vmState v = (if w.msb then 1 else 0) ∧
        (w.msb = true → t.get .pe (PE.VM_LAT.LAT_MAX_US.nth v.val) = 0 ∧ t.vms[v].nAcq = 0 ∧ t.vms[v].nOut = 0 ∧
          t.vms[v].seq = (t.vmRing v).seq) ∧
        changes s t { s with vms := s.vms.set v t.vms[v] }
          [(.pe, 0x800 + 0x40 * v.val), (.pe, (PE.VM_STAT.STATE.nth v.val).off), (.pe, (PE.VM_LAT.LAT_MAX_US.nth v.val).off)])) ∧
    (s.peLive = true → s.flag .pe (PE.VM_SRC.EN.nth v.val) = true → (s.vmLook v).1 = some f → s.vms[v].nOut < 3 →
      let looked := s.vms.set v { s.vms[v] with seq := (s.vmLook v).2 }
      (s.vmInstant v f = none → s.get .pe (PE.VM_STAT.BAD.nth v.val) < 255 →
        gives (.vmFrameReceived v) s (fun t =>
          t.get .pe (PE.VM_STAT.BAD.nth v.val) = s.get .pe (PE.VM_STAT.BAD.nth v.val) + 1 ∧
          changes s t { s with vms := looked } [(.pe, (PE.VM_STAT.BAD.nth v.val).off)])) ∧
      (s.vmInstant v f = some tf → s.vmState v = 1 → s.vms[v].nAcq = 0 →
        gives (.vmFrameReceived v) s (fun t =>
          t.vms[v] = { p := (sx 32 (beBytes f.data (s.get .pe (PE.VM_FMT.POS_OFS.nth v.val)) 4) : Int), v := 0, tLast := tf,
                       rxLast := f.stamp, nAcq := 1, nOut := 0, seq := (s.vmLook v).2 } ∧ t.vmState v = 1 ∧
          within s t { s with vms := s.vms.set v t.vms[v] } [.pe])) ∧
      (s.vmInstant v f = some tf → s.vmState v = 2 → s.vms[v].tLast < tf → s.get .pe (PE.VM_TO.GATE.nth v.val) = 0 →
        let d := ((tf - s.vms[v].tLast : Int) : Rat) / 64000000
        let pHat := s.vms[v].p + s.vms[v].v * d
        let res := (sx 32 (beBytes f.data (s.get .pe (PE.VM_FMT.POS_OFS.nth v.val)) 4) : Rat) - pHat
        gives (.vmFrameReceived v) s (fun t =>
          t.vms[v].p = pHat + (s.get .pe (PE.VM_FILT.ALPHA.nth v.val) : Rat) / 4096 * res ∧
          t.vms[v].v = s.vms[v].v + (s.get .pe (PE.VM_FILT.BETA.nth v.val) : Rat) / 4096 * res / d ∧ t.vms[v].tLast = tf ∧ t.vms[v].seq = (s.vmLook v).2 ∧
          t.vmState v = 2 ∧ within s t { s with vms := s.vms.set v t.vms[v] } [.pe]))) ∧
    (s.peLive = true → s.flag .pe (PE.VM_SRC.EN.nth v.val) = true → (s.vmLook v).1 = none → gives (.vmFrameReceived v) s (fun t =>
      t = { s with vms := s.vms.set v { s.vms[v] with seq := (s.vmLook v).2 } })) ∧
    (s.peLive = true → 3 ≤ s.vms[v].nOut → s.vmState v = 2 →
      gives (.vmOutlierLoss v) s (fun t =>
        t.vmState v = 3 ∧ t.raised .pe (8 + v.val) = true ∧ t.vms[v].nOut = 0 ∧
        changes s t { s with vms := s.vms.set v t.vms[v] } [(.pe, (PE.VM_STAT.STATE.nth v.val).off), (.pe, 0x18)])) ∧
    (s.peLive = true → s.runs (.ax n) = true → s.get (.ax n) AX.GEAR_CFG.MSRC = 3 → s.get (.ax n) AX.GEAR_CFG.MIDX = v.val →
      s.flag .pe (PE.VM_SRC.EN.nth v.val) = true → s.vmState v = 2 →
      s.timeAt (s.timeC + dt) - s.vms[v].rxLast ≤ ((s.get .pe (PE.VM_TO.TO_MS.nth v.val) * 64000000 : Nat) : Int) →
      (s.qGet (.mq n)).length < 4 →
      s.queuesFresh → gives (.vmMasterPush n dt) s (fun t =>
        t.qGet (.mq n) = s.qGet (.mq n) ++ [[
          wordS (roundQ ((s.vms[v].p + s.vms[v].v * (((s.timeAt (s.timeC + dt) - s.vms[v].tLast : Int) : Rat) / 64000000)) * 4096)),
          BitVec.ofInt 36 (satS 36 (roundQ (s.vms[v].v * 65536))), 0, BitVec.ofNat 36 ((s.timeC + dt) % 2 ^ 32)]] ∧
        keepsQueues s t [.mq n] ∧ changes s t { s with queues := t.queues } [qStatReg (.mq n)]))

/-! ### The doorway sequencer (R179-R186, R192, R193) -/

/-- R181, R182: a doorway command waits as the doorway's one pending command, in place of one not yet taken up; against a pending
STOP it is refused with REFUSE 3 and DW_REFUSED. A platform command is that command to every doorway of its mask. R182, R183: PE
takes up the pending command of a doorway, shown for one doorway with one pending. An accepted command has its effect: OPEN and CLOSE
START the moves of the doorway's tables, STOP sends RAMP_STOP to every moving axis, IN_SERVICE reads the entry and waits in HOMING
with a score of 1,000, OUT_OF_SERVICE commands no motion, ACK_ALARM, RELOAD and RESET_BASE do as R182 says. OPEN and CLOSE where they
have no effect are accepted without one, and any other pairing is refused with REFUSE 1. Completes here (exec answers the next state
described, from every state and with every operand that meet the hypotheses): doorOpen, doorClose, doorStop, doorInService,
doorOutOfService, doorAckAlarm, doorReload, doorResetBase, platformCommand, sequencerTakeup. -/
def Obligations.DoorCommands : Prop :=
  (∀ (s : State) (r : Req) (d : Fin 32) (sync : Bool) (op : Nat) (mask : BitVec 32), s.opens r .pe = true →
     let pends := fun (c : Instr) (o : Nat) (y : Bool) =>
       (s.doors[d].pend.map Prod.fst ≠ some 3 → gives c s (fun t =>
         changes s t { s with doors := s.doors.set d { s.doors[d] with pend := some (o, y) } } [(.pe, 0xA00 + 8 * d.val)])) ∧
       (s.doors[d].pend.map Prod.fst = some 3 → gives c s (fun t =>
         t.get .pe (PE.DW_STAT.REFUSE.nth d.val) = 3 ∧ t.raised .pe 18 = true ∧
         onlyWords s t [(.pe, 0xA00 + 8 * d.val), (.pe, 0xB00 + 8 * d.val), (.pe, 0x18)]))
     pends (.doorOpen r d sync) 1 sync ∧ pends (.doorClose r d) 2 false ∧ pends (.doorStop r d) 3 false ∧
     pends (.doorInService r d) 4 false ∧ pends (.doorOutOfService r d) 5 false ∧ pends (.doorAckAlarm r d) 6 false ∧
     pends (.doorReload r d) 7 false ∧ pends (.doorResetBase r d) 8 false ∧
     (1 ≤ op → op ≤ 8 → gives (.platformCommand r op mask) s (fun t =>
       (∀ e : Fin 32, t.doors[e] = (if mask.getLsbD e.val = true ∧ s.doors[e].pend.map Prod.fst ≠ some 3 then
         { s.doors[e] with pend := some (op, false) } else s.doors[e])) ∧
       (∀ e : Fin 32, mask.getLsbD e.val = true → s.doors[e].pend.map Prod.fst = some 3 →
         t.get .pe (PE.DW_STAT.REFUSE.nth e.val) = 3 ∧ t.raised .pe 18 = true) ∧
       changes s t { s with doors := t.doors } ((.pe, 0xC00) :: (.pe, 0x18) :: (List.range 32).map (fun e => (.pe, 0xB00 + 8 * e)))))) ∧
  (∀ (s : State) (d : Fin 32) (op : Nat) (sync : Bool), s.sequencerOn = true → s.doors[d].pend = some (op, sync) →
     (∀ e, e ≠ d → s.doors[e].pend = none) → s.doors[d].staged = none → (s.dwAxes d).Nodup → 1 ≤ op → op ≤ 8 →
     let x := s.doors[d]
     let dest := fun (t : State) (st : Nat) => t.dwState d = st ∧ (s.dwState d ≠ st → t.raised .pe 16 = true)
     let locks := s.lockMoves d (s.unlockTbl d) (s.extTbl d)
     let leaves := s.leafMoves d (s.closeTbl d)
     let frame := fun (t : State) (y : Door) => changes s t { s with doors := s.doors.set d y, axes := t.axes, refillQ := t.refillQ }
       [(.pe, 0xB00 + 8 * d.val), (.pe, 0x18)]
     (op = 1 → s.dwState d = 2 → (sync = true → fld (s.dwWord d 6) 3 3 = 1) → gives .sequencerTakeup s (fun t =>
       dest t 3 ∧ t.get .pe (PE.DW_STAT.NOBS.nth d.val) = 0 ∧ t.get .pe (PE.DW_STAT.ALARM.nth d.val) = 0 ∧
       s.started t locks ∧ (∀ n, n ∉ s.dwLocks d → t.axes[n] = s.axes[n]) ∧
       frame t { x with pend := none, how := if sync then 1 else 0, dis := false, lost := false, legs := s.startLegs locks })) ∧
     (op = 1 → s.dwState d ∈ [2, 4, 5, 6, 7, 8, 9, 10] → sync = true → fld (s.dwWord d 6) 3 3 = 0 → gives .sequencerTakeup s (fun t =>
       t.get .pe (PE.DW_STAT.REFUSE.nth d.val) = 4 ∧ t.raised .pe 18 = true ∧ t.axes = s.axes ∧ frame t { x with pend := none })) ∧
     (op = 2 → s.dwState d = 5 → gives .sequencerTakeup s (fun t =>
       dest t 6 ∧ t.get .pe (PE.DW_STAT.ALARM.nth d.val) = 0 ∧ s.started t leaves ∧ (∀ n, n ∉ s.dwLeaves d → t.axes[n] = s.axes[n]) ∧
       frame t { x with pend := none, closeAt := s.now, closedAt := if s.dwClosed d then some s.now else none, legs := s.startLegs leaves })) ∧
     ((op = 1 ∧ (s.dwState d = 4 ∨ s.dwState d = 5) ∧ (sync = true → fld (s.dwWord d 6) 3 3 = 1)) ∨
         (op = 2 ∧ s.dwState d ∈ [2, 6, 7, 8, 9]) → gives .sequencerTakeup s (fun t =>
       t = { s with doors := s.doors.set d { x with pend := none } })) ∧
     (op = 3 → s.dwState d = 1 ∨ (3 ≤ s.dwState d ∧ s.dwState d ≤ 9) → gives .sequencerTakeup s (fun t =>
       dest t 10 ∧ (∀ n, t.axes[n] = (if n ∈ s.dwAxes d ∧ s.axMoves n = true then { s.axes[n] with cmds := s.axes[n].cmds ++ [s.moveCmd n 4 0] }
         else s.axes[n])) ∧
       frame t { x with pend := none, legs := [] })) ∧
     (op = 4 → s.dwState d = 0 → gives .sequencerTakeup s (fun t =>
       (((s.dwRead d).getD 0 0).msb = false → t.get .pe (PE.DW_STAT.REFUSE.nth d.val) = 2 ∧ t.dwState d = 0) ∧
       (((s.dwRead d).getD 0 0).msb = true → s.dwInvalid d (s.dwRead d) = true → t.get .pe (PE.DW_STAT.REFUSE.nth d.val) = 5 ∧ t.dwState d = 0) ∧
       (((s.dwRead d).getD 0 0).msb = true → s.dwInvalid d (s.dwRead d) = false → dest t 1 ∧ t.metric d 12 = 1000 ∧
         t.doors[d].nT = 0 ∧ t.doors[d].nF = 0 ∧ t.doors[d].nM = 0) ∧
       (∀ a, a ≠ 0x3FA0C + 16 * d.val → t.storeGet a = s.storeGet a) ∧
       t.doors[d].entry = s.dwRead d ∧ t.axes = s.axes ∧
       changes s t { s with doors := s.doors.set d t.doors[d], store := t.store } [(.pe, 0xB00 + 8 * d.val), (.pe, 0x18)])) ∧
     (op = 5 → s.dwState d ∈ [2, 5, 10, 11, 12] → gives .sequencerTakeup s (fun t =>
       dest t 0 ∧ t.axes = s.axes ∧ frame t { x with pend := none, legs := [] })) ∧
     (op = 6 → s.dwState d = 11 → gives .sequencerTakeup s (fun t =>
       dest t 5 ∧ t.get .pe (PE.DW_STAT.ALARM.nth d.val) = 0 ∧ t.axes = s.axes ∧ frame t { x with pend := none })) ∧
     (op = 6 → s.dwState d = 12 → gives .sequencerTakeup s (fun t =>
       dest t 1 ∧ t.get .pe (PE.DW_STAT.ALARM.nth d.val) = 0 ∧
       (∀ n, n ∈ s.dwAxes d → t.axState n = (if s.axState n = 4 then 0 else s.axState n)) ∧
       (∀ n, n ∉ s.dwAxes d → t.axes[n] = s.axes[n] ∧ t.axState n = s.axState n) ∧
       t.doors = s.doors.set d { x with pend := none } ∧ t.store = s.store ∧ t.queues = s.queues)) ∧
     (op = 7 → s.dwState d = 0 → gives .sequencerTakeup s (fun t =>
       t.dwState d = 0 ∧ (s.dwInvalid d (s.dwRead d) = true → t.get .pe (PE.DW_STAT.REFUSE.nth d.val) = 5) ∧ t.axes = s.axes ∧
       frame t { x with pend := none, entry := s.dwRead d })) ∧
     (op = 8 → gives .sequencerTakeup s (fun t =>
       t.axes = s.axes ∧ t.metric d 12 = 1000 ∧ (∀ a, a ≠ 0x3FA0C + 16 * d.val → t.storeGet a = s.storeGet a) ∧
       t = { s with store := t.store, doors := s.doors.set d { x with pend := none, nT := 0, sumT := 0, nF := 0, sumF := 0, nM := 0, sumM := 0, warned := x.warned && decide (1000 ≤ fld (s.dwWord d 13) 21 12) } })) ∧
     ((op, s.dwState d) ∈ ([(1, 0), (1, 1), (1, 3), (1, 11), (1, 12), (2, 0), (2, 1), (2, 3), (2, 11), (2, 12), (3, 0), (3, 2), (3, 10),
         (3, 11), (3, 12), (5, 0), (5, 1), (5, 3), (5, 4), (5, 6), (5, 7), (5, 8), (5, 9)] : List (Nat × Nat)) ∨
         (op = 4 ∧ s.dwState d ≠ 0) ∨ (op = 6 ∧ s.dwState d ≠ 11 ∧ s.dwState d ≠ 12) ∨ (op = 7 ∧ s.dwState d ≠ 0) →
       gives .sequencerTakeup s (fun t =>
         t.get .pe (PE.DW_STAT.REFUSE.nth d.val) = 1 ∧ t.raised .pe 18 = true ∧ t.dwState d = s.dwState d ∧ t.axes = s.axes ∧
         frame t { x with pend := none })))

/-- R182, R185, R192: a doorway leaves a state when the state's condition holds and the moves given in it are done. HOMING with
CLOSED and LOCKED on enters CLOSED_LOCKED; UNLOCKING, its locks done and LOCKED off, STARTs OPEN_TBL; OPENING with the leaves done
enters OPEN; CLOSING with CLOSED on STARTs the locks and has the closing time, with CLOSED off counts as an obstacle; LOCKING with
LOCKED on enters CLOSED_LOCKED and forms the metrics; REVERSING enters REOPEN_DWELL. A lock not confirmed in time is FAULTED with
ALARM 2. R153, R183-R185: an obstacle fires OBSTACLE and is put to the doorways of the leaf. In CLOSING it counts in NOBS: while NOBS
≤ RETRY the leaves reverse by REV_DIST on table 992 + d, which PE writes when the first move on it goes out and which ends at that
place at rest, and the doorway is REVERSING; above it NOBS is RETRY + 1, they open in full and the doorway enters ALARM_OPEN with
ALARM 1. In OPENING the axes ramp-stop: STOPPED, ALARM 4. After the dwell the doorway closes on its own table. An axis in AX_STATE 3
or 4 ramp-stops the others: FAULTED, ALARM 3. Completes here (exec answers the next state described, from every state and with every
operand that meet the hypotheses): obstacle, lockConfirmTimeout, obstacleReversal, reopenDwellEnd, doorwayAxisFault,
doorwayStateChange. -/
def Obligations.DoorMotion : Prop :=
  (∀ (s : State) (d : Fin 32) (tc : Nat), s.sequencerOn = true → (s.dwAxes d).Nodup →
     let x := s.doors[d]
     let dest := fun (t : State) (st : Nat) => t.dwState d = st ∧ t.raised .pe 16 = true
     let leaves := s.leafMoves d (s.openTbl d)
     let locks := s.lockMoves d (s.lockTbl d) (s.retTbl d)
     let frame := fun (t : State) (y : Door) (l : List (Fin 48)) => (∀ n, n ∉ l → t.axes[n] = s.axes[n]) ∧
       changes s t { s with doors := s.doors.set d y, axes := t.axes, refillQ := t.refillQ, store := t.store } [(.pe, 0xB00 + 8 * d.val), (.pe, 0x18)]
     let done := x.legs = []
     let oldStore := fun (t : State) => ∀ a, a / 16 ≠ 0x3FA0 + d.val → t.storeGet a = s.storeGet a
     let plain := x.nT < 255 ∧ fld (s.dwWord d 13) 9 0 < 1000
     (s.dwState d = 1 → (∀ n, n ∈ s.dwAxes d → s.axState n = 1) → s.dwAdmitted d = true → s.dwClosed d = true → s.dwLocked d = true → plain → done →
       gives (.doorwayStateChange d) s (fun t =>
         dest t 2 ∧ t.get .pe (PE.DW_STAT.NOBS.nth d.val) = 0 ∧ t.metric d 12 = 1000 ∧ oldStore t ∧ frame t t.doors[d] [])) ∧
     (s.dwState d = 3 → done → s.dwUnlocked d = true → x.how = 0 → gives (.doorwayStateChange d) s (fun t =>
       dest t 4 ∧ s.started t leaves ∧ t.store = s.store ∧
       frame t { x with dis := false, lost := false, legs := s.startLegs leaves } (s.dwLeaves d))) ∧
     (s.dwState d = 4 → x.how ≠ 1 → done → gives (.doorwayStateChange d) s (fun t =>
       dest t 5 ∧ t.store = s.store ∧ frame t x [])) ∧
     (s.dwState d = 6 → done → gives (.doorwayStateChange d) s (fun t =>
       (s.dwClosed d = true → dest t 7 ∧ s.started t locks ∧ t.store = s.store ∧
         frame t { x with tcl := some ((x.closedAt.getD s.now - x.closeAt) / 300000), legs := s.startLegs locks } (s.dwLocks d)) ∧
       (s.dwClosed d = false → t.dwState d = 6 ∧ t.store = s.store ∧ frame t { x with obs := true } []))) ∧
     (s.dwState d = 7 → done → s.dwLocked d = true → plain → x.tcl = some tc → gives (.doorwayStateChange d) s (fun t =>
       dest t 2 ∧ t.get .pe (PE.DW_STAT.NOBS.nth d.val) = 0 ∧
       (∀ i : Fin 4, t.metric d i.val = addU (s.metric d i.val) x.moves[i]) ∧
       t.metric d 4 = addU (s.metric d 4) x.obst ∧ t.metric d 5 = wordU (tc : Int) ∧
       t.metric d 7 = wordU (avg64 (s.metric d 7).toNat tc) ∧ t.metric d 12 = 1000 ∧
       t.doors[d].nT = x.nT + 1 ∧ t.doors[d].sumT = x.sumT + tc ∧ t.doors[d].obst = 0 ∧ oldStore t ∧ frame t t.doors[d] [])) ∧
     (s.dwState d = 8 → done → gives (.doorwayStateChange d) s (fun t => dest t 9 ∧ t.store = s.store ∧ frame t x [])) ∧
     (s.dwState d = 7 → gives (.lockConfirmTimeout d) s (fun t =>
       dest t 12 ∧ t.get .pe (PE.DW_STAT.ALARM.nth d.val) = 2 ∧
       (s.get .pe (PE.DW_STAT.ALARM.nth d.val) = 0 → t.raised .pe 17 = true) ∧ t.store = s.store ∧ frame t x []))) ∧
  (∀ (s : State) (d : Fin 32) (n : Fin 48), (s.dwAxes d).Nodup → s.doors[d].staged = none →
     let x := s.doors[d]
     let was := s.get .pe (PE.DW_STAT.ALARM.nth d.val)
     let nobs := s.get .pe (PE.DW_STAT.NOBS.nth d.val) + 1
     let dest := fun (t : State) (st : Nat) => t.dwState d = st ∧ t.raised .pe 16 = true
     let alarm := fun (t : State) (a : Nat) => t.get .pe (PE.DW_STAT.ALARM.nth d.val) = a ∧ (was = 0 → t.raised .pe 17 = true)
     let sends := (s.dwLeaves d).any (fun m => decide (s.ownHow m ≠ 0))
     let own := fun (t : State) (target : Int) =>
       (sends = true → (-(2 : Int) ^ 35 ≤ target → target < 2 ^ 35 → t.tableEnd (992 + d.val) = target) ∧
         1 ≤ (t.tableSegs (992 + d.val)).length ∧ (t.tableSegs (992 + d.val)).length ≤ 8) ∧
       (sends = false → t.store = s.store) ∧
       (∀ a, a ≠ 0x3FFE0 + d.val → a / 32 ≠ 0x1EE0 + d.val → t.storeGet a = s.storeGet a) ∧
       s.ownStarted t (s.dwLeaves d) (992 + d.val)
     let legs := s.ownLegs (s.dwLeaves d) (992 + d.val)
     let stopped := fun (t : State) (l : List (Fin 48)) =>
       ∀ m, m ∈ l → t.axes[m] = (if s.axMoves m = true then { s.axes[m] with cmds := s.axes[m].cmds ++ [s.moveCmd m 4 0] } else s.axes[m])
     let frame := fun (t : State) (y : Door) (l : List (Fin 48)) => (∀ m, m ∉ l → t.axes[m] = s.axes[m]) ∧
       changes s t { s with doors := s.doors.set d y, axes := t.axes, refillQ := t.refillQ, store := t.store }
         [(.pe, 0xB00 + 8 * d.val), (.pe, 0x18)]
     (s.axes[n].sup.obsDue = true → gives (.obstacle n) s (fun t =>
       t.raised (.ax n) 26 = true ∧ (∀ e : Fin 32, t.doors[e] = { s.doors[e] with obs := s.doors[e].obs || (s.dwLeaves e).contains n }) ∧
       changes s t { s with doors := t.doors, axes := s.axes.set n { s.axes[n] with sup := { s.axes[n].sup with obsDue := false } } } [(.ax n, 0x18)])) ∧
     (s.sequencerOn = true → x.obs = true → s.dwState d = 6 → nobs ≤ fld (s.dwWord d 6) 35 33 →
       gives (.obstacleReversal d) s (fun t =>
         let full := s.tableEnd (s.openTbl d)
         let back := fun (here : Int) => if here ≤ full then min full (here + (s.dwWord d 5).toInt) else max full (here - (s.dwWord d 5).toInt)
         let here := match s.dwRole d 0 with
           | some m => (s.setp m).p
           | none => 0
         dest t 8 ∧ t.get .pe (PE.DW_STAT.NOBS.nth d.val) = nobs ∧
         own t (back here) ∧
         frame t { x with obs := false, obst := x.obst + 1, legs := legs, ownMove := (s.openTbl d, back here) } (s.dwLeaves d))) ∧
     (s.sequencerOn = true → x.obs = true → s.dwState d = 6 → fld (s.dwWord d 6) 35 33 < nobs →
       gives (.obstacleReversal d) s (fun t =>
         dest t 11 ∧ alarm t 1 ∧ t.get .pe (PE.DW_STAT.NOBS.nth d.val) = fld (s.dwWord d 6) 35 33 + 1 ∧ own t (s.tableEnd (s.openTbl d)) ∧
         frame t { x with obs := false, obst := x.obst + 1, legs := legs, ownMove := (s.openTbl d, s.tableEnd (s.openTbl d)) } (s.dwLeaves d))) ∧
     (s.sequencerOn = true → x.obs = true → s.dwState d = 4 →
       gives (.obstacleReversal d) s (fun t =>
         dest t 10 ∧ alarm t 4 ∧ stopped t (s.dwAxes d) ∧ t.store = s.store ∧
         frame t { x with obs := false, legs := [] } (s.dwAxes d))) ∧
     (s.sequencerOn = true → s.dwState d = 9 →
       gives (.reopenDwellEnd d) s (fun t =>
         dest t 6 ∧ own t (s.tableEnd (s.closeTbl d)) ∧
         frame t { x with closeAt := s.now, closedAt := if s.dwClosed d then some s.now else none, legs := legs, ownMove := (s.closeTbl d, s.tableEnd (s.closeTbl d)) } (s.dwLeaves d))) ∧
     (s.sequencerOn = true → s.dwState d ≠ 0 → s.dwState d ≠ 12 → n ∈ s.dwAxes d → s.axState n = 3 ∨ s.axState n = 4 →
       gives (.doorwayAxisFault d) s (fun t =>
         dest t 12 ∧ alarm t 3 ∧ stopped t ((s.dwAxes d).filter (fun m => s.axState m != 3 && s.axState m != 4)) ∧ t.axes[n] = s.axes[n] ∧
         t.store = s.store ∧ frame t { x with legs := [] } (s.dwAxes d))))

/-! ### The base configuration and overlays (R187-R191) -/

/-- R187: LOAD copies COUNT records of the parameter region into an overlay slot, with the SECURE bit of its requester; for a slot in
the active stack or named by a pending switch, or records that do not fit, it is refused with LOAD_REFUSED and copies nothing. ERASE
empties a slot. BASE_LOAD is taken with every axis in AX_STATE 0 and no switch pending, else LOAD_REFUSED; its check finds the first
invalid record, such as one whose VALUE leaves its MASK. R190: OVL_MODE requests a switch. R188-R190: a base image of one record
gives its register (word AND NOT MASK) OR VALUE, empties the active stack and is DONE; an image that its check found invalid applies
none of its records and FAILs, and one with a record malformed as it is applied FAILs there. The commit comes in the tick of its
group's cutoff. A switch to a stack of one slot with one record commits the record over the base image's value and takes the stack in
force; an invalid record, when the switch is prepared or committed, commits nothing and fires OVL_FAIL; a switch back to the empty
stack returns the named bits to the base image's value. Shown on POS_PRESET of a feedback port, whose reset word is 0, without a base
image. Completes here (exec answers the next state described, from every state and with every operand that meet the hypotheses):
overlayLoad, overlayErase, baseLoad, baseLoadComplete, overlaySwitchRequest, overlayCommit. -/
def Obligations.Overlay : Prop :=
  (∀ (s : State) (r : Req) (slot : Fin 16) (src : Nat) (w : Word), s.opens r .ovl = true → src < 0x40000 →
     let n := s.get .ovl OVL.OVL_CNT.COUNT
     let named := stackHas s.activeStack slot || stackHas (s.ovl.request.getD 0) slot
     (named = false → src + 3 * n ≤ 0x40000 → n ≤ 2048 → s.storeOpen (s.pageSecure .ovl) false src (3 * n) →
       s.storeOpen (s.pageSecure .ovl) true (slotBase slot.val) (3 * n) →
       gives (.overlayLoad r slot src) s (fun t =>
         (∀ k, k < 3 * n → t.storeGet (slotBase slot.val + k) = s.storeGet (src + k)) ∧
         (∀ a, a < slotBase slot.val ∨ slotBase slot.val + 3 * n ≤ a → t.storeGet a = s.storeGet a) ∧
         changes s t { s with store := t.store, ovl := { s.ovl with src := src, count := s.ovl.count.set slot n, secure := s.ovl.secure.set slot (s.secure r) } } [(.ovl, 0x40)])) ∧
     (named = true ∨ 0x40000 < src + 3 * n ∨ 2048 < n →
       gives (.overlayLoad r slot src) s (fun t =>
         t.raised .ovl 1 = true ∧ changes s t { s with ovl := { s.ovl with src := src } } [(.ovl, 0x40), (.ovl, 0x18)])) ∧
     gives (.overlayErase r slot) s (fun t =>
       changes s t { s with ovl := { s.ovl with src := 0, count := s.ovl.count.set slot 0, secure := s.ovl.secure.set slot false } } [(.ovl, 0x40)]) ∧
     (s.secure r = true → (∀ x, s.axState x = 0) → s.ovl.request = none → s.ovl.load = none →
       gives (.baseLoad r) s (fun t => ∃ bad,
         (∀ k, k < n → s.storeOpen (s.pageSecure .ovl) false s.ovl.src (3 * n) → s.ovl.src + 3 * n ≤ 0x40000 →
           s.storeGet (s.ovl.src + 3 * k + 2) &&& ~~~ s.storeGet (s.ovl.src + 3 * k + 1) ≠ 0 → ∃ i ≤ k, bad = some i) ∧
         t.flag .ovl OVL.BASE_LOAD.GO = true ∧ t.word .ovl 0x80 = 0 ∧
         changes s t { s with ovl := { s.ovl with load := some (s.ovl.src, n, bad) } } [(.ovl, 0x50), (.ovl, 0x80), (.sec, 0x40), (.sec, 0x18)])) ∧
     (s.secure r = true → (∃ x, s.axState x ≠ 0) ∨ s.ovl.request ≠ none →
       gives (.baseLoad r) s (fun t => t.raised .ovl 1 = true ∧ onlyWords s t [(.ovl, 0x50), (.ovl, 0x18)])) ∧
     ((∀ k : Fin 4, bit w.toNat (5 * k.val + 4) = true ∨ fld w (5 * k.val + 3) (5 * k.val) = 0) →
       gives (.overlaySwitchRequest r w) s (fun t =>
         t.flag .ovl OVL.OVL_STAT.PEND = true ∧
         changes s t { s with ovl := { s.ovl with request := some (fld w 19 0), bad := t.ovl.bad } }
           [(.ovl, 0x60), (.ovl, 0x70), (.sec, 0x40), (.sec, 0x18)]))) ∧
  (∀ (s : State) (n : Fin 48) (i : Fin 16) (mask value : Word) (src cnt k : Nat),
     let holds := fun (a : Nat) => s.storeGet a = BitVec.ofNat 36 (slotAddr (.fb n) 0x60) ∧ s.storeGet (a + 1) = mask ∧ s.storeGet (a + 2) = value
     let slots := [(Pg.fb n, 0x60), (.ovl, 0x50), (.ovl, 0x70), (.ovl, 0x80), (.ovl, 0x18)]
     (s.ovl.load = some (src, 1, none) → s.softResetting (.fb n) = false → src + 3 ≤ 0x40000 → holds src → value &&& ~~~mask = 0 →
       s.storeOpen (s.pageSecure .ovl) false src 3 → s.storeOpen (s.pageSecure .ovl) true imageBase 3 →
       gives .baseLoadComplete s (fun t =>
         t.word (.fb n) 0x60 = (s.word (.fb n) 0x60 &&& ~~~mask) ||| value ∧ t.flag .ovl OVL.BASE_STAT.DONE = true ∧
         t.activeStack = 0 ∧ t.flag .ovl OVL.BASE_LOAD.GO = false ∧ t.raised .ovl 2 = true ∧
         (∀ a, a < 0x40000 → t.storeGet a = s.storeGet a) ∧
         changes s t { s with store := t.store, ovl := { s.ovl with load := none, baseCount := 1 } } slots)) ∧
     (s.ovl.load = some (src, cnt, some k) → k < 0x4000 →
       gives .baseLoadComplete s (fun t =>
         t.flag .ovl OVL.BASE_STAT.FAIL = true ∧ t.get .ovl OVL.BASE_STAT.FAIL_REC = k ∧ t.flag .ovl OVL.BASE_LOAD.GO = false ∧
         t.raised .ovl 0 = true ∧
         changes s t { s with ovl := { s.ovl with load := none } } [(.ovl, 0x50), (.ovl, 0x80), (.ovl, 0x18)])) ∧
     (s.ovl.load = some (src, cnt, none) → src + 3 * cnt ≤ 0x40000 → cnt < 0x4000 → k < cnt →
       s.storeGet (src + 3 * k + 2) &&& ~~~ s.storeGet (src + 3 * k + 1) ≠ 0 → s.storeOpen (s.pageSecure .ovl) false src (3 * cnt) →
       gives .baseLoadComplete s (fun t =>
         t.flag .ovl OVL.BASE_STAT.FAIL = true ∧ t.get .ovl OVL.BASE_STAT.FAIL_REC ≤ k ∧ t.raised .ovl 0 = true ∧
         t.flag .ovl OVL.BASE_STAT.DONE = s.flag .ovl OVL.BASE_STAT.DONE ∧ t.ovl.load = none)) ∧
     (s.cars[Fin.ofNat 12 (s.get .ovl OVL.OVL_SYNC.GRP)].cutAt ≠ some s.now → gives .overlayCommit s (fun t => t = s)) ∧
     (s.rst.periRel = true → s.flag .dbg DBG.DBG_STAT.HALTED = false → s.cars[Fin.ofNat 12 (s.get .ovl OVL.OVL_SYNC.GRP)].cutAt = some s.now →
       s.softResetting (.fb n) = false → s.ovl.baseCount = 0 → s.ovl.count[i] = 1 → holds (slotBase i.val) →
       s.storeOpen (s.pageSecure .ovl) false (slotBase i.val) 3 →
       (s.ovl.request = some (16 + i.val) → s.activeStack = 0 → s.ovl.bad ≠ none → gives .overlayCommit s (fun t =>
           (∀ lv j, s.ovl.bad = some (lv, j) → lv < 4 → j < 0x2000 → t.get .ovl OVL.OVL_STAT.FAIL_LVL = lv ∧ t.get .ovl OVL.OVL_STAT.FAIL_REC = j) ∧
           t.activeStack = 0 ∧ t.flag .ovl OVL.OVL_STAT.PEND = false ∧ t.raised .ovl 0 = true ∧
           changes s t { s with ovl := { s.ovl with request := none, bad := none } } [(.ovl, 0x70), (.ovl, 0x18)])) ∧
       (s.ovl.request = some (16 + i.val) → s.activeStack = 0 → s.ovl.bad = none →
         (value &&& ~~~mask = 0 → gives .overlayCommit s (fun t =>
           t.word (.fb n) 0x60 = (s.word (.fb n) 0x60 &&& ~~~mask) ||| value ∧ t.activeStack = 16 + i.val ∧
           t.flag .ovl OVL.OVL_STAT.PEND = false ∧ t.raised .ovl 2 = true ∧
           changes s t { s with ovl := { s.ovl with request := none } } slots)) ∧
         (value &&& ~~~mask ≠ 0 → gives .overlayCommit s (fun t =>
           t.get .ovl OVL.OVL_STAT.FAIL_LVL = 0 ∧ t.get .ovl OVL.OVL_STAT.FAIL_REC = 0 ∧ t.activeStack = 0 ∧
           t.flag .ovl OVL.OVL_STAT.PEND = false ∧ t.raised .ovl 0 = true ∧
           changes s t { s with ovl := { s.ovl with request := none } } [(.ovl, 0x70), (.ovl, 0x18)]))) ∧
       (s.ovl.request = some 0 → s.activeStack = 16 + i.val → s.ovl.bad = none → value &&& ~~~mask = 0 → gives .overlayCommit s (fun t =>
         t.word (.fb n) 0x60 = s.word (.fb n) 0x60 &&& ~~~mask ∧ t.activeStack = 0 ∧ t.flag .ovl OVL.OVL_STAT.PEND = false ∧
         t.raised .ovl 2 = true ∧ changes s t { s with ovl := { s.ovl with request := none } } slots))))

/-! ### The engines: control, tasks, traps, heartbeats (R73, R207, R209-R220, R432) -/

/-- R84, R211, R219, R220: START from STATE 0 copies COUNT words of the engine's image to its program RAM, runs it from 0x8000 in
STATE 1 and, unless CUSTOM is 1, writes the ROM task table; HALT and RESET are taken with every axis of the engine in AX_STATE 0 or
4, the halt at the end of the running task, the reset with the queues that end at the engine emptied and its store requests dropped;
any other case, and any requester other than PE, SPI and BAR2, is refused with CTRL_REFUSED. A task word is taken while the engine is
halted, else TASK_BUSY. Completes here (exec answers the next state described, from every state and with every operand that meet the
hypotheses): engineStart, engineHalt, engineHaltComplete, engineReset, taskTableWrite. -/
def Obligations.EngineControl : Prop :=
  ∀ (s : State) (r : Req) (k : Fin 12) (i : Fin 16) (w : Word),
    let e := engOf k
    let x := s.engs[e]
    let tasks := (List.range 16).map (fun j => (Pg.ae k, 0x100 + 8 * j))
    let ent := fun (j : Nat) => (Config.romEntry j).toNat
    let per := s.get (.ae k) AE.LOOP_RATE.SRV_N * s.get (.ae k) AE.LOOP_RATE.CUR_PER
    let loaded := fun (t : State) => ∀ j, t.ramGet e 0 j = (if j < s.get (.ae k) AE.ENG_IMG.COUNT then s.storeGet (s.get (.ae k) AE.ENG_IMG.BASE + j) else s.ramGet e 0 j)
    let started := fun (t : State) => { x with pmem := t.engs[e].pmem, pc := 0x8000, running := none, ready := [], stack := [], cache := [], waiting := none, haltReq := false, hbMiss := 0, hbDue := false }
    (s.opens r (.ae k) = true → r = .pe ∨ r = .spi ∨ r = .bar2 → s.peLive = true →
      (s.engState k = 0 → s.flag (.ae k) AE.ENG_CFG.CUSTOM = true → gives (.engineStart r k) s (fun t =>
        t.engState k = 1 ∧ loaded t ∧ changes s t { s with engs := s.engs.set e (started t) } [(.ae k, 0x48), (.ae k, 0x58)])) ∧
      (s.engState k = 0 → s.flag (.ae k) AE.ENG_CFG.CUSTOM = false → gives (.engineStart r k) s (fun t =>
        let sel := fun (j : Nat) => t.get (.ae k) (AE.TASK.SEL.nth j)
        let last := fun (j : Nat) => s.lastEntry (axOf k ⟨sel j % 4, Nat.mod_lt _ (by decide)⟩)
        t.engState k = 1 ∧ loaded t ∧
        (∀ j : Fin 4, sel j.val < 4 ∧ t.word (.ae k) (0x100 + 8 * j.val) = taskWord 0 (sel j.val) 8 (ent j.val)) ∧
        (∀ j l : Fin 4, j < l → sel j.val ≠ sel l.val ∧ last j.val ≤ last l.val) ∧
        (∀ j : Fin 4, t.word (.ae k) (0x120 + 8 * j.val) = taskWord 1 0 (per / 64) (ent (4 + j.val))) ∧
        t.word (.ae k) 0x140 = taskWord 1 0 ((2 * per - 64) / 64) (ent 8) ∧
        (∀ j : Fin 7, t.word (.ae k) (0x148 + 8 * j.val) = 0) ∧
        changes s t { s with engs := s.engs.set e (started t) } ([(.ae k, 0x48), (.ae k, 0x58)] ++ tasks))) ∧
      (s.axesStill k = true →
        gives (.engineHalt r k) s (fun t => changes s t { s with engs := s.engs.set e { x with haltReq := true } } [(.ae k, 0x48)]) ∧
        gives (.engineReset r k) s (fun t =>
          t.engState k = 0 ∧ t.engs[e].pmem = x.pmem ∧ t.engs[e].xmem = x.xmem ∧ t.engs[e].ymem = x.ymem ∧ t.engs[e].g = Engine.reset.g ∧
          t.engs[e].acc = Engine.reset.acc ∧ t.engs[e].ptr = Engine.reset.ptr ∧ t.engs[e].flags = Engine.reset.flags ∧
          t.engs[e].running = none ∧ t.engs[e].ready = [] ∧ t.engs[e].stack = [] ∧
          (∀ q ∈ s.queuesOf (.ae k), t.qGet q = []) ∧ keepsQueues s t (s.queuesOf (.ae k)) ∧
          changes s t { s with engs := s.engs.set e t.engs[e], queues := t.queues, arb := (s.arbMask (fun q => q == 7 + k.val)).arb } ([(.ae k, 0x48), (.ae k, 0x58)] ++ (s.queuesOf (.ae k)).map qStatReg)))) ∧
    (s.opens r (.ae k) = true →
      let refused := fun (c : Instr) => gives c s (fun t => t.raised (.ae k) 6 = true ∧ onlyWords s t [(.ae k, 0x48), (.ae k, 0x18)])
      let no := r ≠ .pe ∧ r ≠ .spi ∧ r ≠ .bar2
      (no ∨ s.engState k ≠ 0 → refused (.engineStart r k)) ∧
      (no ∨ s.axesStill k = false → refused (.engineHalt r k) ∧ refused (.engineReset r k))) ∧
    (x.haltReq = true → x.running = none → gives (.engineHaltComplete k) s (fun t =>
      t.engState k = 0 ∧ changes s t { s with engs := s.engs.set e { x with haltReq := false, ready := [] } } [(.ae k, 0x58)])) ∧
    (s.reaches r (.ae k) true = true → fld w 34 33 < 3 → taskBad false w = false →
      (s.engState k = 0 → gives (.taskTableWrite r e (0x100 + 8 * i.val) w) s (fun t =>
        t.word (.ae k) (0x100 + 8 * i.val) = w ∧ onlyWords s t [(.ae k, 0x100 + 8 * i.val)])) ∧
      (s.engState k ≠ 0 → gives (.taskTableWrite r e (0x100 + 8 * i.val) w) s (fun t =>
        t.raised (.ae k) 5 = true ∧ onlyWords s t [(.ae k, 0x18)]))) ∧
    (s.reaches r .pe true = true → taskBad true w = false → 8 ≤ i.val → (s.word .pe (0x180 + 8 * i.val)).msb = false →
      gives (.taskTableWrite r peIx (0x180 + 8 * i.val) w) s (fun t =>
        t.word .pe (0x180 + 8 * i.val) = w ∧ onlyWords s t [(.pe, 0x180 + 8 * i.val)]))

/-- R207, R209, R219: with no task running and no halt requested, the ready task of the earliest absolute deadline is dispatched, the
lower task number breaking ties. R207: a ready urgent task of PE pre-empts a running task that is not urgent, and the program
counter, flags and loop state are saved. R210, R214, R215: a trap abandons the running task, latches TRAP_INFO where TRAP is clear
and fires TRAP; an axis engine enters fault mode at 0x8008, and at a second trap stops with DOUBLE_TRAP. R217: PE enters its fault
handler at 0x10008. Completes here (exec answers the next state described, from every state and with every operand that meet the
hypotheses): taskDispatch, urgentTaskPreempt, taskLimitExceeded, engineTrap, peTrap. -/
def Obligations.TasksAndTraps : Prop :=
  ∀ (s : State) (e : Fin 13) (k : Fin 12) (i : Fin 32) (d : Ready) (v : Option Ready) (cause : Fin 8),
    let x := s.engs[e]
    let pe := s.engs[peIx]
    let info := fun (t : State) (f : Fin 13) (c : Nat) =>
      t.raised (engPg f) 0 = true ∧
      t.word (engPg f) 0x60 = (if s.raised (engPg f) 0 = true then s.word (engPg f) 0x60
        else BitVec.ofNat 36 (c <<< 32 ||| ((s.engs[f].running.map (·.task)).getD 0) <<< 22 ||| s.engs[f].pc % 2 ^ 20))
    let aeTrap := fun (t : State) (j : Fin 12) (c : Nat) =>
      info t (engOf j) c ∧
      (s.engState j = 1 → t.engState j = 2) ∧ (s.engState j = 2 → t.engState j = 3 ∧ t.raised (.ae j) 2 = true) ∧
      changes s t { s with engs := s.engs.set (engOf j) { s.engs[engOf j] with
          running := none, ready := [], stack := [], cache := [], waiting := none
          pc := (if s.engState j = 2 then s.engs[engOf j].pc else 0x8008)
          trapAt := (if s.engState j = 2 then s.engs[engOf j].trapAt else s.now)
          trapDue := true } }
        [(.ae j, 0x60), (.ae j, 0x58), (.ae j, 0x18)]
    let peTrapped := fun (t : State) (c : Nat) =>
      info t peIx c ∧
      changes s t { s with engs := s.engs.set peIx { pe with running := none, stack := [], cache := [], waiting := none, saved := none, pc := 0x10008, dead := true } }
        [(.pe, 0x60), (.pe, 0x18)]
    (s.engRuns e = true → x.running = none → x.haltReq = false → d ∈ x.ready →
      (∀ y, y ∈ x.ready → d.deadline < y.deadline ∨ (d.deadline = y.deadline ∧ d.task ≤ y.task)) →
      gives (.taskDispatch e) s (fun t =>
        (∀ j : Fin 12, e = engOf j → t.engs[e].pc = (if s.engState j = 2 then fld (Config.faultTask d.task) 16 0 else fld (s.word (.ae j) (AE.TASK.EN.nth d.task).off) 16 0)) ∧
        (e = peIx → t.engs[e].pc = fld (s.taskW peIx d.task) 16 0) ∧
        t = { s with engs := s.engs.set e { x with running := some d, ready := x.ready.filter (fun y => y.task != d.task), stack := [], pc := t.engs[e].pc } })) ∧
    (s.engRuns peIx = true → s.urgent i.val = true → pe.saved = none → pe.waiting = none → pe.running = v → (∀ y, v = some y → s.urgent y.task = false) →
      pe.ready = [d] → d.task = i.val →
      gives (.urgentTaskPreempt i) s (fun t =>
        t = { s with engs := s.engs.set peIx { pe with running := some d, ready := [], stack := [], pc := fld (s.taskW peIx i.val) 16 0, saved := v.map (fun y => { pc := pe.pc, flags := pe.flags, stack := pe.stack, task := some y }) } })) ∧
    (s.engRuns (engOf k) = true →
      (s.engs[engOf k].running.isSome = true → gives (.taskLimitExceeded (engOf k)) s (fun t => aeTrap t k 3)) ∧
      (cause ≠ 0 → cause ≠ 7 → gives (.engineTrap k cause) s (fun t => aeTrap t k cause.val))) ∧
    (s.engRuns peIx = true →
      (pe.running.isSome = true → gives (.taskLimitExceeded peIx) s (fun t => peTrapped t 3)) ∧
      (cause ≠ 0 → gives (.peTrap cause) s (fun t => peTrapped t cause.val)))

/-- R216: PE declares a trapped engine failed, its axes in AX_STATE 1 or 2 enter state 3 with cause 6, and the drive ports lose EN on
a double trap, where FAULT_ACT is 2 or where the axis held; later those of axes not in state 4. R73, R218: HB_CFG.LIM boundaries and
more without a heartbeat fail the engine and fire HB_FAIL; its axes take cause 6 and lose their ports. R73, R211, R216, R220: with
every axis of a failed engine in state 0 or 4 PE disables the ports that still hold, empties the engine's queues, copies COUNT words
to program RAM and starts the engine; after 16 heartbeats in a row, with its axes at standstill and accepted by the doorway
sequencer, it is failed no longer and its released ports are enabled, all four of them (the model's choice, log 64). R432: with a
base image applied PE starts every halted axis engine, and its own tasks stand in the table. Completes here (exec answers the next
state described, from every state and with every operand that meet the hypotheses): engineFailureHandling, trapAxisTimeout,
engineReload, engineReadmit, heartbeatCheck, hbFail, peBootStart. -/
def Obligations.EngineRecovery : Prop :=
  (∀ (s : State) (k : Fin 12) (m : Fin 48), s.peLive = true →
     let e := engOf k
     let x := s.engs[e]
     let cnt := s.get (.ae k) AE.ENG_STAT.HB_CNT
     let off := fun (t : State) (n : Fin 48) => t.flag (.dp n) HDR.CTRL.EN = false ∧ t.ostate n = 0 ∧ t.qGet (.dq n) = [] ∧
       (1 ≤ s.axState n → s.axState n ≤ 3 → t.axState n = 4 ∧ t.axHold n = false) ∧ (s.axState n = 4 → t.axHold n = false)
     let frame := fun (t : State) (y : Engine) (l : List (Fin 48)) =>
       (∀ n, n ∉ l → t.axes[n] = s.axes[n] ∧ t.ports[n] = s.ports[n]) ∧ (∀ u, (∀ n ∈ l, adcOf n ≠ u) → t.adcs[u] = s.adcs[u]) ∧
       keepsQueues s t (l.map (fun n => QId.dq n)) ∧
       within s t { s with engs := s.engs.set e y, axes := t.axes, ports := t.ports, queues := t.queues, adcs := t.adcs }
         (.ae k :: l.map (fun n => Pg.ax n) ++ l.map (fun n => Pg.dp n))
     (x.trapDue = true → gives (.engineFailureHandling k) s (fun t =>
       (∀ n, n ∈ axesOf k → s.axState n = 1 ∨ s.axState n = 2 → t.get (.ax n) AX.AX_STATE.CAUSE = 6 ∧
         (if s.engState k = 3 ∨ s.faultAct n = 2 then off t n
          else t.faulted n 6 (s.faultAct n) ∧ t.flag (.dp n) HDR.CTRL.EN = s.flag (.dp n) HDR.CTRL.EN)) ∧
       (∀ n, n ∈ axesOf k → s.axState n = 3 → t.get (.ax n) AX.AX_STATE.CAUSE = (if s.feOutranked n 6 then 6 else s.get (.ax n) AX.AX_STATE.CAUSE)) ∧
       (∀ n, n ∈ axesOf k → s.axState n = 4 → s.axHold n = true → off t n) ∧
       (∀ n, n ∈ axesOf k → s.engState k = 3 → off t n) ∧
       frame t { x with trapDue := false, failed := true, hbGood := 0 } (axesOf k))) ∧
     (s.engs[engOf (aeOf m)].failed = true → s.engState (aeOf m) = 2 ∨ s.engState (aeOf m) = 3 → s.axState m ≠ 4 →
       gives (.trapAxisTimeout m) s (fun t =>
         off t m ∧ keepsQueues s t [.dq m] ∧
         within s t { s with axes := s.axes.set m t.axes[m], ports := s.ports.set m t.ports[m], queues := t.queues, adcs := s.adcs.set (adcOf m) t.adcs[adcOf m] } [.ax m, .dp m])) ∧
     (let watched := bit (s.get .pe PE.HB_CFG.EN) k.val && s.engState k == 1
      gives (.heartbeatCheck k) s (fun t =>
       t.engs[e].hbSeen = cnt ∧
       (cnt ≠ x.hbSeen → t.engs[e].hbMiss = 0 ∧ t.engs[e].hbGood = x.hbGood + 1 ∧ t.engs[e].hbDue = x.hbDue) ∧
       (cnt = x.hbSeen → watched = true → t.engs[e].hbMiss = x.hbMiss + 1 ∧
         (s.get .pe PE.HB_CFG.LIM ≤ x.hbMiss + 1 → x.reloadDue = false → t.engs[e].hbDue = true)) ∧
       (watched = false → t.engs[e].hbMiss = 0 ∧ t.engs[e].hbDue = x.hbDue) ∧
       t = { s with engs := s.engs.set e { x with hbSeen := cnt, hbMiss := t.engs[e].hbMiss, hbGood := t.engs[e].hbGood, hbDue := t.engs[e].hbDue } })) ∧
     (x.hbDue = true → gives (.hbFail k) s (fun t =>
       t.raised (.ae k) 1 = true ∧ (∀ n, n ∈ axesOf k → off t n) ∧
       (∀ n, n ∈ axesOf k → s.axState n = 1 ∨ s.axState n = 2 → t.get (.ax n) AX.AX_STATE.CAUSE = 6) ∧
       frame t { x with hbDue := false, hbGood := 0, failed := true, reloadDue := true } (axesOf k)))) ∧
  (∀ (s : State) (k : Fin 12), s.peLive = true →
     let e := engOf k
     let x := s.engs[e]
     let base := s.get (.ae k) AE.ENG_IMG.BASE
     let count := s.get (.ae k) AE.ENG_IMG.COUNT
     (x.failed = true → s.axesStill k = true → gives (.engineReload k) s (fun t =>
       t.engState k = 1 ∧ t.engs[e].pc = 0x8000 ∧ t.engs[e].trapDue = false ∧ t.engs[e].reloadDue = false ∧ t.engs[e].failed = true ∧
       (∀ i, t.ramGet e 0 i = (if i < count then s.storeGet (base + i) else s.ramGet e 0 i)) ∧
       t.engs[e].xmem = x.xmem ∧ t.engs[e].ymem = x.ymem ∧
       (∀ n, n ∈ axesOf k → s.axState n = 4 → s.axHold n = true →
         t.flag (.dp n) HDR.CTRL.EN = false ∧ t.ostate n = 0 ∧ t.axHold n = false) ∧
       (∀ n, n ∈ axesOf k → s.axHold n = false → t.axes[n] = s.axes[n] ∧ t.ports[n] = s.ports[n] ∧
         t.ostate n = s.ostate n ∧ t.flag (.dp n) HDR.CTRL.EN = s.flag (.dp n) HDR.CTRL.EN) ∧
       (∀ n, n ∉ axesOf k → t.axes[n] = s.axes[n] ∧ t.ports[n] = s.ports[n]) ∧ (∀ q ∈ s.queuesOf (.ae k), t.qGet q = []) ∧ keepsQueues s t (s.queuesOf (.ae k)) ∧
       (∀ u, (∀ n ∈ axesOf k, adcOf n ≠ u) → t.adcs[u] = s.adcs[u]) ∧
       within s t { s with engs := s.engs.set e t.engs[e], axes := t.axes, ports := t.ports, queues := t.queues, adcs := t.adcs }
         (.ae k :: (qStatReg (.cq k)).1 :: (axesOf k).map (fun n => Pg.ax n) ++ (axesOf k).map (fun n => Pg.dp n)))) ∧
     (x.failed = true → 16 ≤ x.hbGood → (∀ n, n ∈ axesOf k → s.standsStill n = true) → s.seqAccepts k = true → s.engState k = 1 → s.rst.dpRel = true →
       gives (.engineReadmit k) s (fun t =>
         (∀ n, n ∈ axesOf k → s.ostate n = 0 → t.ostate n = 1 ∧ t.flag (.dp n) HDR.CTRL.EN = true ∧ t.flag (.dp n) DP.DP_STAT.PEN = s.penBall n ∧
           t.ports[n] = { s.ports[n] with tripSince := s.now }) ∧
         (∀ n, n ∉ axesOf k ∨ s.ostate n ≠ 0 → t.ports[n] = s.ports[n]) ∧
         (∀ n, n ∈ axesOf k → s.ostate n ≠ 0 → t.ostate n = s.ostate n ∧ t.flag (.dp n) HDR.CTRL.EN = s.flag (.dp n) HDR.CTRL.EN) ∧
         changes s t { s with engs := s.engs.set e { x with failed := false }, ports := t.ports }
           ((axesOf k).flatMap (fun n => [(Pg.dp n, HDR.CTRL.EN.off), (Pg.dp n, DP.DP_STAT.OSTATE.off)])))) ∧
     (s.flag .ovl OVL.BASE_STAT.DONE = true → gives .peBootStart s (fun t =>
       (∀ i : Fin 24, t.word .pe (0x100 + 8 * i.val) = Config.peTask false i.val ∧ t.word .pe (0x200 + 8 * i.val) = Config.peTask true i.val) ∧
       (∀ j : Fin 12, s.engState j = 0 → t.engState j = 1 ∧ t.engs[engOf j].pc = 0x8000 ∧
         t.engs[engOf j] = { s.engs[engOf j] with pmem := t.engs[engOf j].pmem, pc := 0x8000, running := none, ready := [], stack := [], cache := [], waiting := none, haltReq := false, hbMiss := 0, hbDue := false }) ∧
       (∀ j : Fin 12, s.engState j ≠ 0 → t.engs[engOf j] = s.engs[engOf j] ∧ ∀ o, o < 0x1000 → t.word (.ae j) o = s.word (.ae j) o) ∧
       t.engs[peIx] = s.engs[peIx] ∧
       changes s t { s with engs := t.engs }
         ((List.range 24).flatMap (fun i => [(Pg.pe, 0x100 + 8 * i), (Pg.pe, 0x200 + 8 * i)]) ++
          (List.finRange 12).flatMap (fun j => (Pg.ae j, 0x58) :: (List.range 16).map (fun i => (Pg.ae j, 0x100 + 8 * i)))))))

/-! ### Drive ports (R249-R269) -/

/-- R159, R160, R250-R257, R261, R295: a carrier start is the PWM sync of the group's four ports, at which LOOP_RATE's word comes
into force, or the middle of the loop period for those in double-update mode. At its start a port's words written since the last one
are in force, TRIP_IN shows the trip input, a run of trips that ended clears, HOLD_LOW becomes SWITCHING where R251 allows, and the
shadow words that its TYPE uses become the active duty words, which command the outputs in SWITCHING; the averages of the port's
converter inputs end their period. A port in OFF runs no carrier. R251, R253, R257, R258, R264: a port pops its DQ into the shadow
words, with UPD into this period's duty and edges too; in TYPE 2 into the step address and the coils' references. R27, R250,
R260-R263: a low port enable takes SWITCHING to HOLD_LOW. A trip input that has been active for FILT + 1 edges, outside blanking,
counts and is latched as TRIPPED, or, cycle by cycle, forces the outputs low until the next carrier start and is latched when CBC_RUN
reaches CBC_LIM; each withdraws the axis with cause 5. REARM returns to HOLD_LOW where R262 accepts it, else REARM_REFUSED. R255,
R256: a calibration builds a map that is taken up at a carrier start with no edge pending; out of range it sets CAL_FAULT, and the
edges to come fall on whole ticks, until a map in range is taken up. R298: the comparator ends an on-phase only at a voltage past its
threshold. R265, R266: the comparator past CBLANK, or TON_MAX, ends an on-phase, TOFF the off-phase; sixteen TON_MAX in a row fire
OPEN_LOAD. Completes here (exec answers the next state described, from every state and with every operand that meet the hypotheses):
carrierStart, drivePortDqPop, penLow, delayLineCalibration, calibrationMapTakeup, trip, cbcLimitLatch, rearm, chopperComparatorTrip,
chopperTonMaxExpiry, chopperOffTimeEnd, openLoad. -/
def Obligations.DrivePorts : Prop :=
  (∀ (s : State) (k : Fin 12) (n : Fin 48) (e : List Word) (q : List (List Word)), s.dpOn = true →
     let sync := s.cars[k].half || (axesOf k).all (fun m => !s.dblMode m)
     let starts := fun (m : Fin 48) => (axesOf k).contains m && (sync || s.dblMode m)
     let per := if sync then fld (s.word (.ae k) 0x40) 15 0 else s.curPer k
     let u := adcOf (axOf k 0)
     let mine := fun (i : Nat) => s.runs (.adc u) && decide (s.adcInput u i < 16) &&
       (axesOf k).any (fun m => starts m && s.ostate m != 0 && 8 * u.val + s.adcInput u i / 2 == m.val)
     let quiet := fun (m : Fin 48) => s.axes[m].dice.capRun = false ∧ s.ports[m].tripAt ≠ some s.now ∧
       (fld (s.word (.dp m) 0x50) 0 0 = 0 ∨ s.ports[m].tripPin ≠ (fld (s.word (.dp m) 0x50) 1 1 == 1))
     ((∀ m ∈ axesOf k, quiet m) → gives (.carrierStart k) s (fun t =>
       t.cars = s.cars.set k (if sync then { s.cars[k] with rate := s.word (.ae k) 0x40, sync := s.now, half := false }
         else { s.cars[k] with half := true }) ∧
       (∀ m, starts m = false ∨ s.ostate m = 0 → t.ports[m] = s.ports[m]) ∧
       (∀ m, starts m = false ∨ s.ostate m = 0 → ∀ off, off < 0x1000 → t.word (.dp m) off = s.word (.dp m) off) ∧
       (∀ m, starts m = true → s.ostate m ≠ 0 →
         let d := s.ports[m]
         let x := t.ports[m]
         let w := s.word (.dp m) 0x40
         x.cfgW = w ∧ x.deadW = s.word (.dp m) 0x48 ∧ x.tripW = s.word (.dp m) 0x50 ∧ x.chopW = s.word (.dp m) 0x60 ∧ x.carStart = s.now ∧
         x.carLen = (if sync then (if fld w 2 2 = 1 then per / 2 else per) else per - per / 2) ∧
         x.forced = false ∧ x.cbcHit = false ∧ x.shadow = d.shadow ∧
         t.flag (.dp m) DP.DP_STAT.TRIP_IN = (d.tripPin == (fld (s.word (.dp m) 0x50) 1 1 == 1)) ∧
         t.get (.dp m) DP.DP_STAT.CBC_RUN = (if d.cbcHit then s.get (.dp m) DP.DP_STAT.CBC_RUN else 0) ∧
         t.ostate m = (if s.ostate m = 1 ∧ s.flag (.dp m) DP.DP_STAT.PEN = true ∧ s.axLetsSwitch m = true ∧ d.popped = true then 2 else s.ostate m) ∧
         (∀ i : Fin 4, t.word (.dp m) (0x80 + 8 * i.val) = (if i.val < dutyWords (s.axType m) then d.shadow[i] else 0)) ∧
         (s.axType m ≠ 2 → ∀ i : Fin 4, x.waves[i] = (if t.ostate m = 2 then d.waves[i].next s.now (t.dutyEdges m i.val) else d.waves[i]))) ∧
       (∀ i : Fin 32, t.adcs[u].ents[i] = (if mine i.val then s.adcs[u].ents[i].roll else s.adcs[u].ents[i]) ∧
         (mine i.val = true → t.word (.adc u) (0x500 + 8 * i.val) =
           (let a := s.adcs[u].ents[i]
            let sum := if a.skip then a.pSum else a.sum
            let cnt := if a.skip then a.pCnt else a.cnt
            if cnt = 0 then s.word (.adc u) (0x400 + 8 * i.val) else wordS (divRound sum cnt)))) ∧
       within s t { s with cars := t.cars, ports := t.ports, adcs := s.adcs.set u { s.adcs[u] with ents := t.adcs[u].ents } }
         (.adc u :: (axesOf k).map Pg.dp))) ∧
     (s.ostate n ≠ 0 → s.queuesFresh → s.qGet (.dq n) = e :: q → s.axType n ≠ 0 →
       let d := s.ports[n]
       let frame := fun (t : State) => t.qGet (.dq n) = q ∧ t.ostate n = s.ostate n ∧ t.ports[n].popped = true ∧ keepsQueues s t [.dq n] ∧
         within s t { s with ports := s.ports.set n t.ports[n], queues := t.queues } [.dp n]
       let words := #v[e.getD 0 0, e.getD 1 0, e.getD 2 0, e.getD 3 0]
       (s.axType n = 2 → gives (.drivePortDqPop n) s (fun t =>
         let i := (e.getD 0 0).toNat % 256
         let sc := s.get (.dp n) DP.CHOP_REF.SCALE
         t.get (.dp n) DP.DP_STAT.ADDR = i ∧ t.ports[n].coilA.raw = s.getI (.dp n) (DP.USTEP.IA.nth i) ∧
         t.ports[n].coilB.raw = s.getI (.dp n) (DP.USTEP.IB.nth i) ∧
         t.ports[n].coilA.ref = coilRef (s.getI (.dp n) (DP.USTEP.IA.nth i)) sc ∧
         t.ports[n].coilB.ref = coilRef (s.getI (.dp n) (DP.USTEP.IB.nth i)) sc ∧ frame t)) ∧
       (s.axType n ≠ 2 → gives (.drivePortDqPop n) s (fun t =>
         t.ports[n].shadow = words ∧
         (s.flag (.dp n) DP.DP_CFG.UPD = true → ∀ i : Fin 4,
           t.word (.dp n) (0x80 + 8 * i.val) = (if i.val < dutyWords (s.axType n) then words[i] else 0) ∧
           (s.ostate n = 2 → d.forced = false → (t.ports[n].waves[i].rise, t.ports[n].waves[i].fall) =
             immEdges (s.now - d.carStart) (d.waves[i].rise, d.waves[i].fall) (t.dutyEdges n i.val))) ∧
         (s.flag (.dp n) DP.DP_CFG.UPD = false → t.ports[n] = { d with shadow := words, popped := true }) ∧
         (s.ostate n ≠ 2 ∨ d.forced = true → t.ports[n] = { d with shadow := words, popped := true }) ∧ frame t)))) ∧
  (∀ (s : State) (r : Req) (n : Fin 48) (ntap volt : Nat) (b : Bool) (level : Bool),
     let d := s.ports[n]
     let c := d.coil b
     let ends := fun (t : State) =>
       (s.axState n = 1 ∨ s.axState n = 2 → t.axState n = 4 ∧ t.get (.ax n) AX.AX_STATE.CAUSE = 5) ∧
       (s.axState n = 3 → t.axState n = 4 ∧ t.get (.ax n) AX.AX_STATE.CAUSE = s.get (.ax n) AX.AX_STATE.CAUSE) ∧
       (s.axState n ≠ 0 → s.axState n ≤ 4 → t.axHold n = false) ∧ (s.axState n = 0 ∨ 4 < s.axState n → t.axes[n] = s.axes[n] ∧ t.axState n = s.axState n)
     let frame := fun (t : State) =>
       within s t { s with axes := s.axes.set n t.axes[n], ports := s.ports.set n t.ports[n] } [.dp n, .ax n]
     let low := fun (t : State) => t.ports[n].shadow = Vector.replicate 4 0 ∧ t.ports[n].waves = Vector.replicate 4 Wave.low ∧
       t.ports[n].popped = false ∧ ∀ i : Fin 4, t.word (.dp n) (0x80 + 8 * i.val) = 0
     let coil := fun (t : State) (y : Coil) => t = ({ s with ports := s.ports.set n (d.updCoil b (fun _ => y)) } : State).coilOuts n
     let pin := if d.tripPin = level then d else { d with tripPin := level, tripSince := s.now, tripDone := false }
     let trips := pin.tripActive && fld d.tripW 0 0 == 1 && s.ostate n != 0
     (s.penBall n = false → d.tripAt ≠ some s.now → gives (.penLow n) s (fun t =>
       t.flag (.dp n) DP.DP_STAT.PEN = false ∧ t.ostate n = (if s.ostate n = 2 then 1 else s.ostate n) ∧
       (s.ostate n = 2 → t.raised (.dp n) 9 = true ∧ low t) ∧ ends t ∧ frame t)) ∧
     (s.rst.dpRel = true → trips = true → pin.tripDone = false → pin.tripSince + fld d.tripW 7 4 ≤ s.now →
       State.blanking { s with ports := s.ports.set n pin } n = false → d.rearmAt ≠ some s.now → d.penAt ≠ some s.now →
       gives (.trip n level) s (fun t =>
         t.flag (.dp n) DP.DP_STAT.TRIP_IN = true ∧ t.get (.dp n) DP.DP_STAT.TRIPS = satInc 12 (s.get (.dp n) DP.DP_STAT.TRIPS) ∧
         (fld d.tripW 2 2 = 0 ∨ s.dbgHalted = true → t.ostate n = 3 ∧ t.raised (.dp n) 0 = true ∧ low t ∧ ends t ∧ frame t) ∧
         (fld d.tripW 2 2 = 1 → s.dbgHalted = false →
           let run := if d.cbcHit then s.get (.dp n) DP.DP_STAT.CBC_RUN else satInc 4 (s.get (.dp n) DP.DP_STAT.CBC_RUN)
           t.get (.dp n) DP.DP_STAT.CBC_RUN = run ∧ t.raised (.dp n) 8 = true ∧ t.ostate n = s.ostate n ∧
           changes s t { s with ports := s.ports.set n { pin.cut s.now with
             tripDone := true, tripAt := some s.now, forced := true, cbcHit := true, cbcPrev := d.cbcHit, cbcDue := decide (fld d.tripW 13 10 ≤ run) } }
             [(.dp n, 0x70), (.dp n, 0x18)]))) ∧
     (s.rst.dpRel = true → trips = false → gives (.trip n level) s (fun t =>
       t.flag (.dp n) DP.DP_STAT.TRIP_IN = pin.tripActive ∧ changes s t { s with ports := s.ports.set n pin } [(.dp n, 0x70)])) ∧
     (d.cbcDue = true → s.ostate n = 1 ∨ s.ostate n = 2 → gives (.cbcLimitLatch n) s (fun t =>
       t.ostate n = 3 ∧ t.raised (.dp n) 0 = true ∧ t.ports[n].cbcDue = false ∧ low t ∧ ends t ∧ frame t)) ∧
     (s.reaches r (.dp n) true = true → s.rst.dpRel = true →
       (s.ostate n = 3 → d.tripActive = false → s.axState n = 0 ∨ s.axState n = 4 → gives (.rearm r n) s (fun t =>
         t.ostate n = 1 ∧ low t ∧ within s t { s with ports := s.ports.set n t.ports[n] } [.dp n])) ∧
       (s.ostate n ≠ 3 ∨ d.tripActive = true ∨ (s.axState n ≠ 0 ∧ s.axState n ≠ 4) → gives (.rearm r n) s (fun t =>
         t.raised (.dp n) 10 = true ∧ onlyWords s t [(.dp n, 0x58), (.dp n, 0x18)]))) ∧
     (s.dpOn = true → ntap < 256 → gives (.delayLineCalibration n ntap) s (fun t =>
       t.get (.dp n) DP.CAL_STAT.NTAP = ntap ∧
       (40 ≤ ntap → ntap ≤ 120 → changes s t { s with ports := s.ports.set n { d with calNew := some ntap } } [(.dp n, 0x78)]) ∧
       (ntap < 40 ∨ 120 < ntap → t.flag (.dp n) DP.CAL_STAT.CAL_FAULT = true ∧ t.raised (.dp n) 11 = true ∧
         (∀ i : Fin 4, let w := d.waves[i]
           let at' := fun (x : Nat) => if s.ostate n = 2 ∧ s.axType n ≠ 2 ∧ d.forced = false ∧ s.now ≤ w.start + x / 64 then edgePos true x else x
           t.ports[n].waves[i] = { w with rise := at' w.rise, fall := at' w.fall }) ∧
         changes s t { s with ports := s.ports.set n { d with calNew := some ntap, waves := t.ports[n].waves } } [(.dp n, 0x78), (.dp n, 0x18)]))) ∧
     (s.dpOn = true → s.ostate n ≠ 0 → d.calNew.isSome = true → d.carStart = s.now → s.edgeFree n = true → gives (.calibrationMapTakeup n) s (fun t =>
       t.get (.dp n) DP.CAL_STAT.CAL_CNT = (s.get (.dp n) DP.CAL_STAT.CAL_CNT + 1) % 65536 ∧
       t.flag (.dp n) DP.CAL_STAT.CAL_FAULT = (s.flag (.dp n) DP.CAL_STAT.CAL_FAULT && !d.calNew.any fineTaps) ∧
       (s.flag (.dp n) DP.CAL_STAT.CAL_FAULT = false ∨ d.calNew.any fineTaps = false → t.ports[n].waves = d.waves) ∧
       changes s t { s with ports := s.ports.set n { d with calMap := d.calNew, calNew := none, waves := t.ports[n].waves } } [(.dp n, 0x78)])) ∧
     (s.cmpReached n b volt = false → gives (.chopperComparatorTrip n b volt) s (fun t => t = s)) ∧
     (s.chops n = true →
       (s.cmpReached n b volt = true → c.phase = .on → c.blank + fld d.chopW 9 0 ≤ s.now →
         gives (.chopperComparatorTrip n b volt) s (fun t => coil t { c with phase := .off, since := s.now, openRun := 0 })) ∧
       (c.phase = .on → c.since + s.get (.dp n) DP.CHOP_REF.TON_MAX_US * 300 ≤ s.now →
         gives (.chopperTonMaxExpiry n b) s (fun t =>
           coil t { c with phase := .off, since := s.now, openRun := c.openRun + 1, openDue := c.openDue || c.openRun + 1 == 16 })) ∧
       (c.phase = .off → c.since + fld d.chopW 33 20 ≤ s.now → gives (.chopperOffTimeEnd n b) s (fun t =>
         coil t { c with phase := .on, since := s.now, blank := s.now, neg := c.ref < 0 }))) ∧
     (c.openDue = true → gives (.openLoad n b) s (fun t =>
       t.raised (.dp n) 12 = true ∧
       changes s t { s with ports := s.ports.set n (d.updCoil b (fun x => { x with openDue := false })) } [(.dp n, 0x18)])))

/-! ### Feedback ports and echo outputs (R270-R279, R286-R288) -/

/-- R272, R273: an edge MIN_EDGE or more after its line's last accepted edge is accepted; MODE 1 counts ±1 by which line leads, both
lines at once are an edge fault; MODE 3 counts the rising edges of A by the level of B; MODE 2 follows the Hall sequence 1, 3, 2, 6,
4, 5 forward, and a code outside it or not next to the last is an edge fault; an edge before MIN_EDGE counts as a fault and is
accepted when MIN_EDGE ends. R287: an enabled echo output of the port has the line's level, inverted where its INV bit says so, at
once. Completes here (exec answers the next state described, from every state and with every operand that meet the hypotheses):
fbLineEdge, minEdgeAccept. -/
def Obligations.FeedbackCounts : Prop :=
  ∀ (s : State) (n : Fin 48) (lines : BitVec 3) (line : Fin 3),
    s.released (.fb n) = true → s.softResetting (.fb n) = false → s.fbs[n].preset = none → s.fbs[n].loaded ≠ some s.now → s.fbs[n].zeroDue = none →
    s.get (.fb n) FB.FB_CFG.IDX_MODE = 0 → (∀ u, s.fbs[n].undo = some u → u.tick ≠ s.now) →
    let b := s.fbs[n]
    let mode := s.fbMode n
    let faults := s.get (.fb n) FB.FB_STAT.EDGE_FAULTS
    let moved := fun (i : Fin 3) => b.inp[i] != lines.getLsbD i.val
    let sgn : Int := if s.flag (.fb n) FB.FB_CFG.DIR then -1 else 1
    let code := fun (l : Vector Bool 3) => 4 * b2n l[2] + 2 * b2n l[1] + b2n l[0]
    let same := fun (t : State) => t.fbs[n].pos = b.pos ∧ t.fbs[n].counts = b.counts
    let counted := fun (t : State) (c : Int) =>
      t.fbs[n].pos = clamp (-(2 : Int) ^ 23) ((2 : Int) ^ 23 - 1) (b.pos + sgn * c) ∧
      (t.fbs[n].pos ≠ b.pos + sgn * c → t.raised (.fb n) 0 = true) ∧
      t.flag (.fb n) FB.FB_STAT.STILL = false ∧ t.fbs[n].dir = sgn * c ∧
      t.fbs[n].counts = (if b.dir = sgn * c then (s.now :: b.counts).take 65 else [s.now])
    let fault := fun (t : State) (k : Nat) =>
      t.get (.fb n) FB.FB_STAT.EDGE_FAULTS = min 4095 (faults + k) ∧ (0 < k → t.raised (.fb n) 8 = true ∧ t.fbs[n].sawFault = true)
    let effect := fun (t : State) (ch : Fin 3 → Bool) (early : Nat) =>
      let l := t.fbs[n].acc
      (∀ i : Fin 3, l[i] = (if ch i then !b.acc[i] else b.acc[i]) ∧ t.fbs[n].edge[i] = (if ch i then some s.now else b.edge[i])) ∧
      t.get (.fb n) FB.FB_STAT.LINES = code l ∧
      (mode = 1 → (ch 0 = true → ch 1 = true → same t ∧ fault t (early + 1)) ∧
        (ch 0 = true → ch 1 = false → counted t (if l[0] != l[1] then 1 else -1) ∧ fault t early) ∧
        (ch 0 = false → ch 1 = true → counted t (if l[0] == l[1] then 1 else -1) ∧ fault t early) ∧
        (ch 0 = false → ch 1 = false → same t ∧ fault t early)) ∧
      (mode = 3 → (ch 0 = true → l[0] = true → counted t (if l[1] then 1 else -1)) ∧ (ch 0 = false ∨ l[0] = false → same t) ∧ fault t early) ∧
      (mode = 2 → (ch 0 || ch 1 || ch 2) = true →
        (hallPlace (code l) = none → same t ∧ t.fbs[n].hall = b.hall ∧ fault t (early + 1)) ∧
        (∀ i, hallPlace (code l) = some i → t.fbs[n].hall = some (code l) ∧
          (∀ j, b.hall.bind hallPlace = some j →
            (i = (j + 1) % 6 → counted t 1 ∧ fault t early) ∧ (j = (i + 1) % 6 → counted t (-1) ∧ fault t early) ∧
            (i = j → same t ∧ fault t early) ∧
            (i ≠ j → i ≠ (j + 1) % 6 → j ≠ (i + 1) % 6 → same t ∧ fault t (early + 1))) ∧
          (b.hall.bind hallPlace = none → same t ∧ fault t early))) ∧
      (mode = 0 ∨ 3 < mode → same t ∧ fault t early) ∧
      changes s t { s with fbs := s.fbs.set n t.fbs[n] } [(.fb n, 0x78), (.fb n, 0x18)]
    gives (.fbLineEdge n lines) s (fun t =>
      (∀ i : Fin 3, t.fbs[n].inp[i] = lines.getLsbD i.val) ∧
      (∀ (o : Fin 12) (i : Fin 3), s.runs .ec = true → s.get .ec (EC.EC_CFG.EN.nth o.val) = 1 → s.get .ec (EC.EC_CFG.SRC.nth o.val) = n.val →
        t.echo o i = if lines.getLsbD i.val != bit (s.get .ec (EC.EC_CFG.INV.nth o.val)) i.val then .high else .low) ∧
      effect t (fun i => moved i && s.minEdge n i && b.acc[i] != lines.getLsbD i.val)
        ((List.finRange 3).filter (fun i => moved i && !s.minEdge n i)).length) ∧
    (b.inp[line] ≠ b.acc[line] → gives (.minEdgeAccept n line) s (fun t => t.fbs[n].inp = b.inp ∧ effect t (fun i => i == line) 0))

/-- R274-R279, R286-R288: a sample shows position and speed and is pushed into FQ of every axis that selects the port and into MQ of
the enabled ones that take it as master; no count for STILL_US sets STILL; SETPOS loads POS_PRESET at the next tick; the position
latch stores position and time while its event bit is clear; CLR clears the counts; FB_CFG's MODE, SYNC_GRP and FDIV stay while a
selecting axis is outside AX_STATE 0, with CFG_BUSY; EC_CFG takes its word. Completes here (exec answers the next state described,
from every state and with every operand that meet the hypotheses): fbSample, fbStandstillTimeout, setpos, latch, fbCounterClr,
fbCfgWrite, echoCfgWrite. -/
def Obligations.FeedbackSamples : Prop :=
  ∀ (s : State) (r : Req) (n : Fin 48) (i : Fin 12) (w : Word) (p0 : Int) (t0 : Nat), s.fbs[n].preset = none → s.fbs[n].zeroDue = none →
    let b := s.fbs[n]
    let frame := fun (t : State) (l : List Nat) => changes s t { s with fbs := s.fbs.set n t.fbs[n] } (l.map (fun o => (Pg.fb n, o)))
    let latched := fun (t : State) =>
      t.fbs[n] = { b with sawLat := true, latAt := if s.raised (.fb n) 10 then b.latAt else some s.now } ∧
      (s.raised (.fb n) 10 = false →
        t.word (.fb n) 0x98 = BitVec.ofInt 36 (b.pos * 4096) ∧ t.word (.fb n) 0xA0 = (time72 s.nowT).1 ∧
        t.word (.fb n) 0xA8 = (time72 s.nowT).2 ∧ t.raised (.fb n) 10 = true ∧ frame t [0x98, 0xA0, 0xA8, 0x18, 0x58]) ∧
      (s.raised (.fb n) 10 = true → frame t [0x58])
    (s.runs (.fb n) = true → 1 ≤ s.fbMode n → s.fbMode n ≤ 3 → s.queuesFresh → b.prev = some (p0, t0) → gives (.fbSample n) s (fun t =>
      let v := s.fbSpeed n
      let e := [BitVec.ofInt 36 (b.pos * 4096), BitVec.ofInt 36 v, BitVec.ofNat 36 (b2n b.sawFault <<< 34 ||| b2n b.sawIdx <<< 33 ||| b2n b.sawLat <<< 32 ||| b.seqNo)]
      t.word (.fb n) 0x68 = BitVec.ofInt 36 (b.pos * 4096) ∧ t.word (.fb n) 0x70 = BitVec.ofInt 36 v ∧
      (s.flag (.fb n) FB.FB_STAT.STILL = true → v = 0) ∧
      (s.flag (.fb n) FB.FB_STAT.STILL = false → s.get (.fb n) FB.FB_SPD.MODE = 0 → t0 < s.now →
        v = satS 36 (roundQ (((b.pos - p0 : Int) : Rat) * 300000 * 65536 / ((s.now - t0 : Nat) : Rat)))) ∧
      t.fbs[n] = { b with vel := v, prev := some (b.pos, s.now), sawFault := false, sawIdx := false, sawLat := false, seqNo := (b.seqNo + 1) % 65536 } ∧
      (∀ x : Fin 48, t.qGet (.fq x) = (if s.fbPort x = some n ∧ (s.qGet (.fq x)).length < 4 then s.qGet (.fq x) ++ [e] else s.qGet (.fq x))) ∧
      (∀ x : Fin 48, t.qGet (.mq x) = (if s.runs (.ax x) = true ∧ s.get (.ax x) AX.GEAR_CFG.MSRC = 1 ∧ s.get (.ax x) AX.GEAR_CFG.MIDX = n.val ∧
          (s.qGet (.mq x)).length < 4
        then s.qGet (.mq x) ++ [[BitVec.ofInt 36 (b.pos * 4096), BitVec.ofInt 36 v, 0, BitVec.ofNat 36 (s.timeC % 2 ^ 32)]] else s.qGet (.mq x))) ∧
      keepsQueues s t ((List.finRange 48).flatMap (fun x => [QId.fq x, QId.mq x])) ∧
      (∀ x : Fin 48, t.axes[x] = (if s.fbPort x = some n ∧ (s.qGet (.fq x)).length < 4
        then { s.axes[x] with fbNew := ((BitVec.ofInt 36 (b.pos * 4096)).toInt, (BitVec.ofInt 36 v).toInt)
                              sup := { s.axes[x].sup with fbOk := s.axes[x].sup.fbOk ++ (if n ∈ s.axes[x].sup.fbOk then [] else [n]) } }
        else s.axes[x])) ∧
      changes s t { s with fbs := s.fbs.set n t.fbs[n], queues := t.queues, axes := t.axes }
        ([(.fb n, 0x68), (.fb n, 0x70)] ++ (List.finRange 48).flatMap (fun x => [(Pg.ax x, 0x1F8), (Pg.ax x, 0x1E8)])))) ∧
    (s.released (.fb n) = true → gives (.fbStandstillTimeout n) s (fun t => t.flag (.fb n) FB.FB_STAT.STILL = true ∧ onlyWords s t [(.fb n, 0x78)])) ∧
    (s.opens r (.fb n) = true →
      gives (.setpos r n) s (fun t =>
        t.fbs[n] = { b with preset := some (s.now + 1, (s.word (.fb n) 0x60).toInt / 4096) } ∧ frame t [0x58]) ∧
      gives (.latch r n false) s latched ∧
      gives (.fbCounterClr r n) s (fun t =>
        t.get (.fb n) FB.FB_STAT.EDGE_FAULTS = 0 ∧ t.get (.fb n) FB.SEQ_STAT.FRAMES_BAD = 0 ∧ t.get (.fb n) FB.SEQ_STAT.OVERRUNS = 0 ∧
        onlyWords s t [(.fb n, 0x58), (.fb n, 0x78), (.fb n, 0xD0)])) ∧
    (s.fieldIndet (s.get (.fb n) FB.LAT_CFG.CH) = true → gives (.latch r n true) s (fun t => t = s)) ∧
    (s.runs (.fb n) = true → s.fieldIndet (s.get (.fb n) FB.LAT_CFG.CH) = false →
      (s.get (.fb n) FB.LAT_CFG.SRC = 1 ∧ s.fieldOn (s.get (.fb n) FB.LAT_CFG.CH) = true ∨
        s.get (.fb n) FB.LAT_CFG.SRC = 2 ∧ s.fieldOn (s.get (.fb n) FB.LAT_CFG.CH) = false) → gives (.latch r n true) s latched) ∧
    (s.reaches r (.fb n) true = true → s.flag (.fb n) HDR.LOCK.LOCK = false →
      fld w 15 12 ≠ 0 → fld w 11 8 < 12 → fld w 6 5 ≠ 3 → fld w 2 0 < 5 →
      (s.fbBusy n = false → s.seqState n = 0 → gives (.fbCfgWrite r n w) s (fun t =>
        t.get (.fb n) FB.FB_CFG.MODE = fld w 2 0 ∧ t.get (.fb n) FB.FB_CFG.SYNC_GRP = fld w 11 8 ∧ t.get (.fb n) FB.FB_CFG.FDIV = fld w 15 12 ∧
        t.get (.fb n) FB.FB_CFG.MIN_EDGE = fld w 27 16 ∧ t.get (.fb n) FB.FB_CFG.IDX_MODE = fld w 6 5 ∧
        t.fbs[n].pos = b.pos ∧ t.fbs[n].cfgd = true ∧ (fld w 2 0 ≠ s.fbMode n → t.fbs[n].vel = 0) ∧ frame t [0x40])) ∧
      (s.fbBusy n = true → fld w 2 0 ≠ s.fbMode n → gives (.fbCfgWrite r n w) s (fun t =>
        t.fbMode n = s.fbMode n ∧ t.get (.fb n) FB.FB_CFG.SYNC_GRP = s.get (.fb n) FB.FB_CFG.SYNC_GRP ∧
        t.get (.fb n) FB.FB_CFG.FDIV = s.get (.fb n) FB.FB_CFG.FDIV ∧ t.get (.fb n) FB.FB_CFG.MIN_EDGE = fld w 27 16 ∧ t.raised (.fb n) 15 = true ∧
        t.fbs[n] = { b with zeroArm := fld w 6 5 == 2, cfgd := true } ∧ frame t [0x40, 0x18]))) ∧
    (s.reaches r .ec true = true → fld w 5 0 < 48 → gives (.echoCfgWrite r i w) s (fun t =>
      t.get .ec (EC.EC_CFG.INV.nth i.val) = fld w 11 9 ∧ t.get .ec (EC.EC_CFG.EN.nth i.val) = fld w 8 8 ∧
      t.get .ec (EC.EC_CFG.SRC.nth i.val) = fld w 5 0 ∧ onlyWords s t [(.ec, 0x40 + 8 * i.val)]))

/-! ### The shift sequencer (R280-R285) -/

/-- R280: each instruction of the sequencer, standing in a frame at its word, has the effect of its row and goes on to the next word,
a failed check ends the frame with its error, END ends it with 0, or 8 where no LOADP ran. R281: a frame passing its time ends with
error 6. R281, R282, R284, R285: in MODE 4 a trigger in IDLE starts a frame at word 0, in a frame counts as OVERRUN, in STOPPED
pushes a STALE sample; a frame that ends invalid counts in FRAMES_BAD with FRAME_BAD and pushes the held position as STALE; a valid
one puts raw plus offset as position, or under UNWRAP moves on by the difference to the last valid raw value; RUN, HALT and ABORT
change SSTATE as R284's table says; program words are written in STOPPED only, else PROG_BUSY. Completes here (exec answers the next
state described, from every state and with every operand that meet the hypotheses): seqRun, seqHalt, seqAbort, serialFrameTrigger,
serialFrameEnd, serialFrameTimeout, seqEnd, seqSet, seqShift, seqWaitb, seqWaitbTimeout, seqExpect, seqCrci, seqCrcchk, seqPar,
seqLoadp, seqTxld, seqBr, seqMark, seqProgramWrite. -/
def Obligations.Sequencer : Prop :=
  (∀ (s : State) (n : Fin 48) (bits : List Bool) (level : Bool), s.runs (.fb n) = true → s.fbMode n = 4 → s.seqState n = 2 ∨ s.seqState n = 3 →
     s.fbs[n].ended = none →
     let b := s.fbs[n]
     let w := s.seqWord n
     let op := fld w 35 32
     let pc := s.get (.fb n) FB.SEQ_STAT.PC
     let lsb := fld w 31 26
     let width := fld w 25 20
     let field := (b.sr.toNat >>> lsb) % 2 ^ width
     let crcW := s.get (.fb n) FB.SEQ_CRC.WIDTH
     let cycle := fun (y : FbPart) (x : Bool) =>
       let top := crcW != 0 && y.crc.getLsbD (crcW - 1)
       let sh := (y.crc.toNat * 2) % 2 ^ crcW
       { y with
         outC := if fld w 24 24 = 1 then some y.tx.msb else y.outC
         tx := if fld w 24 24 = 1 then y.tx <<< 1 else y.tx
         sr := (y.sr <<< 1) ||| (if x then 1 else 0)
         crc := if fld w 23 23 = 1 then BitVec.ofNat 16 (if top != x then (sh ^^^ s.get (.fb n) FB.SEQ_CRC.POLY) % 2 ^ crcW else sh) else y.crc }
     let goes := fun (t : State) (y : FbPart) =>
       (pc = 31 → t = { s with fbs := s.fbs.set n { y with ended := some 5 } }) ∧
       (pc ≠ 31 → t.get (.fb n) FB.SEQ_STAT.PC = pc + 1 ∧ changes s t { s with fbs := s.fbs.set n y } [(.fb n, 0xD0)])
     let fails := fun (t : State) (e : Nat) => t = { s with fbs := s.fbs.set n { b with ended := some e } }
     let check := fun (c : Instr) (ok : Bool) (e : Nat) => gives c s (fun t => (ok = true → goes t b) ∧ (ok = false → fails t e))
     (op = 0 → gives (.seqEnd n) s (fun t => fails t (if b.raw.isSome then 0 else 8))) ∧
     (op = 1 → gives (.seqSet n) s (fun t => goes t { b with
       outA := if fld w 31 30 = 0 then false else if fld w 31 30 = 1 then true else if fld w 31 30 = 2 then b.outA else false
       outC := if fld w 29 28 = 0 then some false else if fld w 29 28 = 1 then some true else if fld w 29 28 = 2 then b.outC else none
       setC := if fld w 29 28 = 0 then some false else if fld w 29 28 = 1 then some true else if fld w 29 28 = 2 then b.outC else none })) ∧
     (op = 2 → bits.length = lsb → gives (.seqShift n bits) s (fun t => goes t { bits.foldl cycle b with outA := false })) ∧
     (op = 3 → gives (.seqWaitb n level) s (fun t =>
         (b2n level = fld w 31 31 → goes t b) ∧ (b2n level ≠ fld w 31 31 → t = s)) ∧
       gives (.seqWaitbTimeout n) s (fun t => fails t 1)) ∧
     (op = 4 → check (.seqExpect n) (field == fld w 15 0) 2) ∧
     (op = 5 → gives (.seqCrci n) s (fun t => goes t { b with crc := BitVec.ofNat 16 (fld w 15 0 % 2 ^ crcW) })) ∧
     (op = 6 → check (.seqCrcchk n) (b.crc.toNat == (if fld w 31 31 = 1 then 2 ^ crcW - 1 else 0)) 3) ∧
     (op = 7 → check (.seqPar n) (((List.range 48).filter (fun i => bit field i)).length % 2 == fld w 19 19) 4) ∧
     (op = 8 → gives (.seqLoadp n) s (fun t =>
       let v := (t.fbs[n].raw.map Prod.fst).getD 0
       (fld w 19 19 = 0 → v = field) ∧ (fld w 19 19 = 1 → v < 2 ^ width ∧
         ∀ i, i < width → bit v i = (((List.range width).filter (fun j => decide (i ≤ j) && bit field j)).length % 2 == 1)) ∧
       goes t { b with raw := some (v, width, fld w 18 18 == 1) })) ∧
     (op = 9 → gives (.seqTxld n) s (fun t => goes t { b with tx := BitVec.ofNat 32 (fld w 31 0) })) ∧
     (op = 10 → gives (.seqBr n level) s (fun t =>
       let taken := fld w 31 29 = 0 ∨ (fld w 31 29 = 1 ∧ level = true) ∨ (fld w 31 29 = 2 ∧ level = false)
       (taken → t.get (.fb n) FB.SEQ_STAT.PC = fld w 4 0 ∧ changes s t s [(.fb n, 0xD0)]) ∧ (¬ taken → goes t b))) ∧
     (op = 11 → gives (.seqMark n) s (fun t => goes t { b with mark := (s.now, s.timeC) })) ∧
     gives (.serialFrameTimeout n) s (fun t => fails t 6)) ∧
  (∀ (s : State) (r : Req) (n : Fin 48) (i : Fin 32) (w : Word) (raw width err : Nat) (unwrap : Bool), s.fbMode n = 4 → s.fbs[n].preset = none → s.fbs[n].zeroDue = none →
     let b := s.fbs[n]
     let st := s.seqState n
     let frame := fun (t : State) (y : FbPart) (l : List Nat) => changes s t { s with fbs := s.fbs.set n y } (l.map (fun o => (Pg.fb n, o)))
     let pushed := fun (t : State) (p v : Int) (stale : Bool) (inst : Nat) =>
       let e := [BitVec.ofInt 36 (p * 4096), BitVec.ofInt 36 v, BitVec.ofNat 36 (b2n stale <<< 35 ||| b2n b.sawFault <<< 34 ||| b2n b.sawIdx <<< 33 ||| b2n b.sawLat <<< 32 ||| b.seqNo)]
       t.word (.fb n) 0x68 = BitVec.ofInt 36 (p * 4096) ∧ t.word (.fb n) 0x70 = BitVec.ofInt 36 v ∧
       (∀ x : Fin 48, t.qGet (.fq x) = (if s.fbPort x = some n ∧ (s.qGet (.fq x)).length < 4 then s.qGet (.fq x) ++ [e] else s.qGet (.fq x))) ∧
       (∀ x : Fin 48, t.qGet (.mq x) = (if s.runs (.ax x) = true ∧ s.get (.ax x) AX.GEAR_CFG.MSRC = 1 ∧ s.get (.ax x) AX.GEAR_CFG.MIDX = n.val ∧
           (s.qGet (.mq x)).length < 4
         then s.qGet (.mq x) ++ [[BitVec.ofInt 36 (p * 4096), BitVec.ofInt 36 v, 0, BitVec.ofNat 36 (b2n stale <<< 34 ||| inst % 2 ^ 32)]] else s.qGet (.mq x))) ∧
       keepsQueues s t ((List.finRange 48).flatMap (fun x => [QId.fq x, QId.mq x])) ∧
       (∀ x : Fin 48, t.axes[x] = (if s.fbPort x = some n ∧ (s.qGet (.fq x)).length < 4
         then { s.axes[x] with fbNew := ((BitVec.ofInt 36 (p * 4096)).toInt, (BitVec.ofInt 36 v).toInt)
                               sup := { s.axes[x].sup with fbOk := s.axes[x].sup.fbOk ++ (if stale || decide (n ∈ s.axes[x].sup.fbOk) then [] else [n]) } }
         else s.axes[x])) ∧
       changes s t { s with fbs := s.fbs.set n t.fbs[n], queues := t.queues, axes := t.axes }
         ([0x68, 0x70, 0xD0, 0xD8, 0x18].map (fun o => (Pg.fb n, o)) ++ (List.finRange 48).flatMap (fun x => [(Pg.ax x, 0x1F8), (Pg.ax x, 0x1E8)]))
     (s.runs (.fb n) = true → b.ended = none → s.queuesFresh → gives (.serialFrameTrigger n) s (fun t =>
       (st = 0 → pushed t b.pos b.vel true s.timeC ∧ t.seqState n = 0) ∧
       (st = 1 → t.seqState n = 2 ∧ t.get (.fb n) FB.SEQ_STAT.PC = 0 ∧
         frame t { b with raw := none, ended := none, mark := (s.now, s.timeC) } [0xD0]) ∧
       (2 ≤ st → t.get (.fb n) FB.SEQ_STAT.OVERRUNS = min 4095 (s.get (.fb n) FB.SEQ_STAT.OVERRUNS + 1) ∧ t.raised (.fb n) 14 = true ∧
         t.seqState n = st ∧ frame t b [0xD0, 0x18]))) ∧
     (s.runs (.fb n) = true → b.ended = some err → err < 16 → s.queuesFresh →
       (err ≠ 0 → gives (.serialFrameEnd n) s (fun t =>
         t.get (.fb n) FB.SEQ_STAT.ERR = err ∧ t.get (.fb n) FB.SEQ_STAT.FRAMES_BAD = min 4095 (s.get (.fb n) FB.SEQ_STAT.FRAMES_BAD + 1) ∧
         t.raised (.fb n) 11 = true ∧ t.fbs[n].outA = true ∧ t.fbs[n].outC = b.setC ∧ t.fbs[n].ended = none ∧ t.fbs[n].pos = b.pos ∧
         t.seqState n = (if st = 2 then 1 else if st = 3 then 0 else st) ∧ (st = 3 → t.raised (.fb n) 13 = true) ∧
         pushed t b.pos b.vel true b.mark.2)) ∧
       (err = 0 → b.raw = some (raw, width, unwrap) → b.valid = none → gives (.serialFrameEnd n) s (fun t =>
         let sgn : Int := if s.flag (.fb n) FB.FB_CFG.DIR then -1 else 1
         let p := clamp (-(2 : Int) ^ 23) ((2 : Int) ^ 23 - 1) (match unwrap, b.first, b.lastRaw with
           | true, false, some r0 => b.pos + sgn * (((raw : Int) - r0 + 2 ^ (width - 1)) % 2 ^ width - 2 ^ (width - 1))
           | _, _, _ => sgn * (raw : Int) + b.offset)
         t.get (.fb n) FB.SEQ_STAT.ERR = 0 ∧ t.fbs[n].pos = p ∧ t.fbs[n].valid = some (b.mark.1, p) ∧ t.fbs[n].lastRaw = some raw ∧
         t.fbs[n].first = false ∧ t.fbs[n].outA = true ∧ t.fbs[n].outC = b.setC ∧ t.fbs[n].ended = none ∧
         t.word (.fb n) 0xD8 = b.sr.setWidth 36 ∧ t.seqState n = (if st = 2 then 1 else if st = 3 then 0 else st) ∧
         pushed t p b.vel false b.mark.2))) ∧
     (s.opens r (.fb n) = true →
       gives (.seqRun r n) s (fun t => t.seqState n = (if st = 0 then 1 else if st = 3 then 2 else st) ∧
         frame t { b with first := if st = 0 then true else b.first } [0x58, 0xD0]) ∧
       gives (.seqHalt r n) s (fun t => t.seqState n = (if st = 1 then 0 else if st = 2 then 3 else st) ∧
         (st = 1 → t.raised (.fb n) 13 = true) ∧ frame t b [0x58, 0xD0, 0x18]) ∧
       gives (.seqAbort r n) s (fun t => t.seqState n = 0 ∧ (st ≠ 0 → t.raised (.fb n) 13 = true) ∧
         (2 ≤ st → t.get (.fb n) FB.SEQ_STAT.ERR = 7) ∧
         frame t (if 2 ≤ st then { b with ended := some 7, outA := true, outC := none, setC := none } else if st = 1 then { b with outC := none, setC := none } else b) [0x58, 0xD0, 0x18])) ∧
     (s.reaches r (.fb n) true = true →
       (st = 0 → seqInsnBad w = false → gives (.seqProgramWrite r n (0x400 + 8 * i.val) w) s (fun t =>
         t.word (.fb n) (0x400 + 8 * i.val) = w ∧ onlyWords s t [(.fb n, 0x400 + 8 * i.val)])) ∧
       (st ≠ 0 → gives (.seqProgramWrite r n (0x400 + 8 * i.val) w) s (fun t => t.raised (.fb n) 12 = true ∧ onlyWords s t [(.fb n, 0x18)]))))

/-! ### Converters (R289-R299) -/

/-- R291-R294, R296: a conversion gives entry i the result (code - 8192 - OFS) × GAIN × 4, negated with NEG, by the IN_CALj that was
in force at its aperture 50 ticks before, and goes on to entry i + 1; with PUSH its first in the present period is pushed into CQ,
and an end code fires CLIP. R293, R296: a restart applies 50 ticks later, from entry RESTART. R297: ZERO takes 1,024 codes of every
named input, refused while a port switches or its axis is not in AX_STATE 0; each mean in range becomes the offset. Completes here
(exec answers the next state described, from every state and with every operand that meet the hypotheses): adcConversion,
sequenceRestart, adcZero, adcZeroDone. -/
def Obligations.Converters : Prop :=
  ∀ (s : State) (r : Req) (u : Fin 6) (code : BitVec 14) (seq : Vector Word 32) (first : Nat), s.runs (.adc u) = true → s.queuesFresh →
    let a := s.adcs[u]
    let named := (List.range 20).filter (fun j => (List.range 32).any (fun i => s.adcInput u i == j))
    let hot := fun (j : Nat) => match nthPg Pg.ax (8 * u.val + j / 2) with
      | some (.ax n) => decide (j < 16) && (decide (1 < s.ostate n) || s.axState n != 0)
      | _ => false
    ((a.restart = none ∧ seq = a.seq ∧ first = a.next % 32 ∧ fld a.cfg 6 5 ≠ 2) ∨
      (a.restart.map (fun x => (decide (x.1 + 50 ≤ s.now), x.2)) = some (true, seq) ∧ first = fld a.cfg 4 0 ∧ fld a.cfg 6 5 ≠ 2) →
      let i : Fin 32 := ⟨first % 32, Nat.mod_lt _ (by decide)⟩
      let j := fld seq[i] 4 0
      let cal := match a.prior.find? (fun e => e.1 == 0x200 + 8 * j && decide (s.now - 50 ≤ e.2.2)) with
        | some e => e.2.1
        | none => s.word (.adc u) (0x200 + 8 * j)
      let x : Int := (code.toNat : Int) - 8192 - sx 11 (fld cal 34 24)
      let v := satS 36 (x * fld cal 23 0 * 4)
      let res := if cal.msb then satS 36 (-v) else v
      let q : QId := .cq ⟨2 * u.val + (j / 8) % 2, by omega⟩
      let push := fld seq[i] 8 8 == 1 && decide (j < 16)
      let clip := push && (code == 0 || code == 16383)
      gives (.adcConversion u code) s (fun t =>
        t.word (.adc u) (0x400 + 8 * i.val) = wordS res ∧ t.adcs[u].next = (i.val + 1) % 32 ∧ t.adcs[u].restart = none ∧
        t.get (.adc u) ADC.ADC_STAT.CLIPS = (if clip = true then min 4095 (s.get (.adc u) ADC.ADC_STAT.CLIPS + 1) else s.get (.adc u) ADC.ADC_STAT.CLIPS) ∧
        (clip = true → t.raised (.adc u) 8 = true) ∧
        (push = false ∨ s.adcPeriod u j + 50 > s.now → t.qGet q = s.qGet q) ∧
        (push = true → s.adcPeriod u j + 50 ≤ s.now → a.restart = none → a.ents[i].pushed = false → a.ents[i].skip = false → (s.qGet q).length < 16 →
          t.qGet q = s.qGet q ++ [[BitVec.ofNat 36 i.val, wordS res, wordS (if a.ents[i].pCnt = 0 then res else divRound a.ents[i].pSum a.ents[i].pCnt)]] ∧
          t.adcs[u].ents[i] = { a.ents[i] with sum := a.ents[i].sum + res, cnt := a.ents[i].cnt + 1, pushed := true }) ∧
        keepsQueues s t [q] ∧ t.recd = { s.recd with aps := t.recd.aps, trg := t.recd.trg } ∧
        within s t { s with adcs := s.adcs.set u t.adcs[u], recd := t.recd, queues := t.queues } [.adc u])) ∧
    (fld a.cfg 6 5 ≠ 2 → (∀ e ∈ a.prior, e.2.2 ≤ s.now) → gives (.sequenceRestart u) s (fun t =>
      t.adcs[u].cfg = s.word (.adc u) 0x40 ∧
      t.adcs[u].restart = some (s.now, Vector.ofFn (fun i => s.word (.adc u) (0x100 + 8 * i.val))) ∧ t.adcs[u].grpStart = s.now ∧
      t.adcs[u].seq = a.seq ∧ t.adcs[u].next = a.next ∧ t.get (.adc u) ADC.ADC_STAT.LP_ACT = fld (s.word (.adc u) 0x40) 8 8 ∧
      (∀ i : Fin 32, t.adcs[u].ents[i] = (if 16 ≤ s.adcInput u i.val then a.ents[i].roll else a.ents[i])) ∧
      within s t { s with adcs := s.adcs.set u t.adcs[u] } [.adc u])) ∧
    (s.opens r (.adc u) = true →
      (named.any hot = false → gives (.adcZero r u) s (fun t =>
        t.flag (.adc u) ADC.ADC_STAT.CAL_BUSY = true ∧
        changes s t { s with adcs := s.adcs.set u { a with cal := named.map (fun j => (j, 0, 0)) } } [(.adc u, 0x48), (.adc u, 0x50)])) ∧
      (named.any hot = true → gives (.adcZero r u) s (fun t =>
        t.raised (.adc u) 10 = true ∧ onlyWords s t [(.adc u, 0x48), (.adc u, 0x18)]))) ∧
    (s.flag (.adc u) ADC.ADC_STAT.CAL_BUSY = true → (∀ e, e ∈ a.cal → e.2.2 = 1024 ∧ e.1 < 20) → (a.cal.map Prod.fst).Nodup →
      gives (.adcZeroDone u) s (fun t =>
        (∀ e, e ∈ a.cal →
          (-1023 ≤ divRound e.2.1 1024 → divRound e.2.1 1024 ≤ 1023 → t.getI (.adc u) (ADC.IN_CAL.OFS.nth e.1) = divRound e.2.1 1024) ∧
          (divRound e.2.1 1024 < -1023 ∨ 1023 < divRound e.2.1 1024 →
            t.raised (.adc u) 0 = true ∧ t.word (.adc u) (0x200 + 8 * e.1) = s.word (.adc u) (0x200 + 8 * e.1))) ∧
        t.flag (.adc u) ADC.ADC_STAT.CAL_BUSY = false ∧ t.raised (.adc u) 9 = true ∧
        changes s t { s with adcs := s.adcs.set u { a with cal := [], prior := t.adcs[u].prior } }
          ([(.adc u, 0x50), (.adc u, 0x18)] ++ a.cal.map (fun e => (Pg.adc u, 0x200 + 8 * e.1)))))

/-! ### Field I/O banks (R332-R345) -/

/-- R70, R71, R333-R344: a scan takes the ball levels and applies the outputs, and the first one marks the indeterminate inputs; a
level that the filter has passed shows in IN; wire break, overload, bank overload, low field supply and watchdog set their bits and
fire, outputs follow; an expired watchdog of a dead link puts the outputs into their safe states at once (the model's inference, log
95); KICK, RESUME and CLR act as R338, R342 and R343 say; OUT_SET and OUT_CLR change the named bits alone; CH_CFG takes its word, and
an indeterminate input reads its PUV. Completes here (exec answers the next state described, from every state and with every operand
that meet the hypotheses): fieldScan, fieldInputAccept, wireBreak, wireBreakClear, overload, overloadAutoRestart, bankOver, vfLow,
vfLowClear, wdExp, kick, resume, bankClr, outSet, outClr, channelDirectionChange. -/
def Obligations.FieldBanks : Prop :=
  ∀ (s : State) (r : Req) (b : Fin 4) (i : Fin 32) (balls inband bits : BitVec 32) (ma : Nat) (cur : List Nat) (level : Bool) (w : Word),
    let f := s.fiobs[b]
    let p := Pg.fiob b
    let outs := fun (t : State) => ∀ k : Fin 32, t.fiobs[b].on.getLsbD k.val = t.outOn b k
    let frame := fun (t : State) (y : FiobPart) (l : List Nat) => changes s t { s with fiobs := s.fiobs.set b y } (l.map (fun o => (p, o)))
    let wide := fun (t : State) (y : FiobPart) =>
      within s t { s with fiobs := s.fiobs.set b y, axes := t.axes, doors := t.doors } (p :: (List.finRange 48).map Pg.ax) ∧
      (∀ d : Fin 32, t.doors[d] = { s.doors[d] with closedAt := t.doors[d].closedAt })
    let only := fun (t : State) (off : Nat) (on : Bool) => ∀ k : Fin 32, t.chan b off k = (if k = i then on else s.chan b off k)
    let band := fun (k : Fin 32) => inband.getLsbD k.val && !s.flag p (FIOB.CH_CFG.DIR.nth k.val)
    (s.linkOn b = false → gives (.fieldScan b balls inband ma cur) s (fun t => t = s)) ∧
    (s.linkOn b = true →
      gives (.fieldScan b balls inband ma cur) s (fun t =>
        let y := { f with
          balls := balls, band := t.fiobs[b].band, scanned := true, run := t.fiobs[b].run, on := t.fiobs[b].on
          cur := Vector.ofFn (fun k : Fin 32 => cur.getD k.val 0), scanAt := s.now
          kickAt := if f.resumed then f.kickAt.map (fun _ => s.now) else f.kickAt, resumed := false }
        t.get p FIOB.BANK_STAT.IBANK_MA = min ma 65535 ∧ outs t ∧ (∀ k : Fin 32, t.fiobs[b].band.getLsbD k.val = band k) ∧
        (∀ k : Fin 32, t.fiobs[b].run[k] = if t.chan b 0x70 k = true ∧ band k = true then 0
          else if f.scanned = true ∧ f.balls.getLsbD k.val = balls.getLsbD k.val then f.run[k] + 1 else 1) ∧
        (f.scanned = false → wide t y ∧ ∀ k : Fin 32, t.chan b 0x70 k = band k ∧
          t.chan b 0x68 k = (band k && s.flag p (FIOB.CH_CFG.PUV.nth k.val))) ∧
        (f.scanned = true → frame t y [0x88])) ∧
      (f.scanned = true → f.balls.getLsbD i.val = level → s.get p (FIOB.CH_CFG.FILT_US.nth i.val) ≤ 10 * f.run[i] →
        s.chan b 0x70 i = false ∨ f.band.getLsbD i.val = false →
        gives (.fieldInputAccept b i level) s (fun t => only t 0x68 level ∧ only t 0x70 false ∧
          (∀ d : Fin 32, t.doors[d] = { s.doors[d] with closedAt := t.doors[d].closedAt }) ∧
          changes s t { s with doors := t.doors } [(p, 0x68), (p, 0x70)])) ∧
      (f.cur[i] < 250 → s.flag p (FIOB.CH_CFG.DIR.nth i.val) = false → s.flag p (FIOB.CH_CFG.WB_EN.nth i.val) = true → s.chan b 0x78 i = false →
        gives (.wireBreak b i) s (fun t => only t 0x78 true ∧ t.raised p 8 = true ∧ frame t f [0x78, 0x18])) ∧
      (250 ≤ f.cur[i] → gives (.wireBreakClear b i) s (fun t => only t 0x78 false ∧ frame t f [0x78])) ∧
      (f.on.getLsbD i.val = true → s.flag p FIOB.BANK_STAT.VF_LOW = false →
        gives (.overload b i) s (fun t => only t 0x80 true ∧ t.raised p 9 = true ∧
          (∀ k : Fin 32, t.fiobs[b].on.getLsbD k.val = (f.on.getLsbD k.val && k != i)) ∧
          (∀ k : Fin 32, t.fiobs[b].off.getLsbD k.val = (f.off.getLsbD k.val || k == i)) ∧
          frame t { f with off := t.fiobs[b].off, on := t.fiobs[b].on } [0x80, 0x18])) ∧
      (s.flag p (FIOB.CH_CFG.ARST.nth i.val) = true →
        gives (.overloadAutoRestart b i) s (fun t =>
          (∀ k : Fin 32, t.fiobs[b].off.getLsbD k.val = (f.off.getLsbD k.val && k != i)) ∧ frame t { f with off := t.fiobs[b].off } [])) ∧
      (6000 < s.get p FIOB.BANK_STAT.IBANK_MA → gives (.bankOver b) s (fun t =>
        t.flag p FIOB.BANK_STAT.BANK_OVER = true ∧ t.raised p 1 = true ∧ frame t { f with on := 0 } [0x88, 0x18])) ∧
      gives (.vfLow b) s (fun t =>
        t.flag p FIOB.BANK_STAT.VF_LOW = true ∧ t.raised p 2 = true ∧ frame t { f with on := 0 } [0x88, 0x18]) ∧
      gives (.vfLowClear b) s (fun t =>
        t.flag p FIOB.BANK_STAT.VF_LOW = false ∧ frame t f [0x88])) ∧
    (f.rel = true → s.flag p FIOB.BANK_STAT.SAFE = false → s.wdDue b = true →
      gives (.wdExp b) s (fun t =>
        t.flag p FIOB.BANK_STAT.SAFE = true ∧ t.raised p 0 = true ∧ (s.linkRuns b = true → t.fiobs[b].on = f.on) ∧
        (s.linkRuns b = false → outs t) ∧ frame t { f with hold := f.on, on := t.fiobs[b].on } [0x88, 0x18])) ∧
    (s.opens r p = true →
      (f.rel = true →
        gives (.kick r b) s (fun t => frame t { f with kickAt := some s.now } [0x48]) ∧
        (s.linkRuns b = true → s.flag p FIOB.BANK_STAT.SAFE = true →
          gives (.resume r b) s (fun t => t.flag p FIOB.BANK_STAT.SAFE = false ∧ frame t { f with resumed := true } [0x48, 0x88])) ∧
        (s.linkRuns b = false ∨ s.flag p FIOB.BANK_STAT.SAFE = false → gives (.resume r b) s (fun t => frame t f [0x48])) ∧
        gives (.bankClr r b) s (fun t =>
          t.word p 0x80 = 0 ∧ t.flag p FIOB.BANK_STAT.BANK_OVER = false ∧
          (∀ k : Fin 32, t.fiobs[b].off.getLsbD k.val = (f.off.getLsbD k.val && s.flag p (FIOB.CH_CFG.ARST.nth k.val))) ∧
          frame t { f with off := t.fiobs[b].off } [0x48, 0x80, 0x88])) ∧
      gives (.outSet r b bits) s (fun t => (∀ k : Fin 32, t.chan b 0x50 k = (s.chan b 0x50 k || bits.getLsbD k.val)) ∧ frame t f [0x50, 0x58]) ∧
      gives (.outClr r b bits) s (fun t => (∀ k : Fin 32, t.chan b 0x50 k = (s.chan b 0x50 k && !bits.getLsbD k.val)) ∧ frame t f [0x50, 0x60])) ∧
    (s.reaches r p true = true → s.flag p HDR.LOCK.LOCK = false → fld w 7 6 ≠ 3 → fld w 19 8 ≤ 4000 → gives (.channelDirectionChange r b i w) s (fun t =>
      t.get p (FIOB.CH_CFG.DIR.nth i.val) = fld w 0 0 ∧ t.get p (FIOB.CH_CFG.WB_EN.nth i.val) = fld w 4 4 ∧
      t.get p (FIOB.CH_CFG.SAFE.nth i.val) = fld w 7 6 ∧
      (fld w 0 0 = 1 ∨ fld w 4 4 = 0 → only t 0x78 false) ∧
      (let turned := s.flag p (FIOB.CH_CFG.DIR.nth i.val) = true ∧ fld w 0 0 = 0
       only t 0x68 (if s.chan b 0x70 i = true then fld w 5 5 == 1 else if turned then f.balls.getLsbD i.val else s.chan b 0x68 i) ∧
       (∀ k : Fin 32, t.fiobs[b].run[k] = if k = i ∧ turned then 0 else f.run[k])) ∧
      (∀ off, off < 0x1000 → off ∉ [0x100 + 8 * i.val, 0x78, 0x68] → t.word p off = s.word p off) ∧ wide t { f with run := t.fiobs[b].run }))

/-! ### The arbiter of the shared store (R346-R360) -/

/-- R347, R350, R354-R359: a cycle gives its slot's claim, grants a free store to the oldest claim, else the urgent requester, else
the lowest code with a request, and carries one transfer of the tablet; a refresh that is due starts at the end of a burst. A
requester at the dwell limit becomes urgent. A read returns corrected, or as zero after a double error with ECC_ERR. A committed
timetable is in force from the next slot 0; a masked requester's slot is open. Completes here (exec answers the next state described,
from every state and with every operand that meet the hypotheses): storeRequest, arbCycle, dwellPromotion, storeReadReturn,
storeRefresh, storeRefreshEnd, timetableCommit, timetableTakeup, arbCounterClr. -/
def Obligations.Arbiter : Prop :=
  ∀ (s : State) (r : Req) (q : Fin 29) (own : Fin 48) (rq : StoreReq) (wr : Bool) (addr len : Nat) (data : List Word) (w : Word) (rest : List (Nat × Nat × Word)),
    let a := s.arb
    let lim := s.get .arb ARB.ARB_CFG.DWELL_LIMIT
    let code := fld (a.tt[a.cycle % 64 / 6]'(by omega)) (6 * (a.cycle % 64 % 6) + 5) (6 * (a.cycle % 64 % 6))
    let slot := if (List.finRange 29).any (fun x => x.val == code && s.arbMasked x) then 63 else code
    let asks := fun (c : Nat) => (List.finRange 29).any (fun x => x.val == c && a.reqs[x].isSome)
    let claims1 := if slot < 29 then (if asks slot = true ∧ slot ∉ a.claims ∧ a.cur.map Fin.val ≠ some slot then a.claims ++ [slot] else a.claims)
      else match a.urgent with
        | some u => if slot = 63 ∧ u ∉ a.claims then a.claims ++ [u] else a.claims
        | none => a.claims
    let granted := a.cur.isNone
    let claims2 := if granted then claims1.filter (fun c => c != q.val) else claims1
    let urgent2 := if granted ∧ a.urgent = some q.val then none else a.urgent
    let last := decide (rq.len ≤ rq.done + 1)
    let burstEnd := last || (rq.done + 1) % 4 == 0
    let at_ := (rq.addr + rq.done) % 0x400000
    (s.arbMasked q = false → a.reqs[q] = none → 0 < len →
      gives (.storeRequest q own wr addr len data) s (fun t => t = { s with arb := { a with reqs := a.reqs.set q (some { own := own, wr := wr, addr := addr, len := min len (tabletMax q.val), data := data, done := 0, raised := a.cycle }) } })) ∧
    (s.rst.mgmtRel = true → s.rst.storeRdy = true → a.refresh = false → a.reqs[q] = some rq →
      a.cur = some q ∨ (a.cur = none ∧ (claims1.head? = some q.val ∨
        (claims1 = [] ∧ (a.urgent = some q.val ∨ (a.urgent = none ∧ ∀ x : Fin 29, x < q → a.reqs[x] = none))))) →
      worldAllows (s.storeWorld at_) (s.arbSecure q rq.own) rq.wr = true →
      gives .arbCycle s (fun t =>
        (∀ x : Fin 29, t.arb.dwell[x] = (if x = q then (if granted then 0 else a.dwell[x])
          else if a.reqs[x].isSome = true ∧ x.val ∉ claims2 ∧ urgent2 ≠ some x.val then min (a.dwell[x] + 1) lim else a.dwell[x])) ∧
        (∀ x, x < 0x400000 → t.storeGet x = (if rq.wr = true ∧ x = at_ then rq.data.getD rq.done 0 else s.storeGet x)) ∧
        t.get .arb (ARB.WSTAT.WAIT_MAX.nth q.val) = (if granted then max (s.get .arb (ARB.WSTAT.WAIT_MAX.nth q.val)) (min (a.cycle - rq.raised) 65535)
          else s.get .arb (ARB.WSTAT.WAIT_MAX.nth q.val)) ∧
        t.get .arb ARB.ARB_STAT.SUSP = (if a.refDue = true ∧ burstEnd = true ∧ last = false then min 4095 (s.get .arb ARB.ARB_STAT.SUSP + 1)
          else s.get .arb ARB.ARB_STAT.SUSP) ∧
        changes s t { s with store := t.store, arb := { a with cycle := a.cycle + 1, claims := claims2, urgent := urgent2, dwell := t.arb.dwell, reqs := a.reqs.set q (if last then none else some { rq with done := rq.done + 1 }), cur := (if last then none else some q), flight := (if rq.wr then a.flight else a.flight ++ [(q.val, at_, s.storeGet at_)]), refDue := a.refDue && !burstEnd, refresh := a.refDue && burstEnd } }
          [(.arb, 0x200 + 8 * q.val), (.arb, 0x58)])) ∧
    (let due := fun (x : Fin 29) => a.reqs[x].isSome = true ∧ x.val ∉ a.claims ∧ a.cur ≠ some x ∧ lim ≤ a.dwell[x]
     a.urgent = none → due q → (∀ x, due x → a.lastUrg[q] < a.lastUrg[x] ∨ (a.lastUrg[q] = a.lastUrg[x] ∧ q ≤ x)) →
      gives .dwellPromotion s (fun t =>
        t.get .arb (ARB.WSTAT.URGENT.nth q.val) = min 4095 (s.get .arb (ARB.WSTAT.URGENT.nth q.val) + 1) ∧
        changes s t { s with arb := { a with urgent := some q.val, dwell := Vector.replicate 29 0, urgNo := a.urgNo + 1, lastUrg := a.lastUrg.set q (a.urgNo + 1) } }
          [(.arb, 0x200 + 8 * q.val)])) ∧
    (a.flight = (q.val, addr, w) :: rest → addr < 0x400000 →
      let back := fun (v : Word) => { s with arb := { a with flight := rest, ret := a.ret ++ [(q.val, v)] } }
      gives (.storeReadReturn .none) s (fun t => t = back w) ∧
      gives (.storeReadReturn .single) s (fun t =>
        t.get .arb ARB.ARB_STAT.ECC_CORR = min 4095 (s.get .arb ARB.ARB_STAT.ECC_CORR + 1) ∧ t.raised .arb 1 = true ∧
        changes s t (back w) [(.arb, 0x58), (.arb, 0x18)]) ∧
      gives (.storeReadReturn .double) s (fun t =>
        t.raised .arb 0 = true ∧
        (s.raised .arb 0 = false → t.get .arb ARB.ECC_ADDR.ADDR = addr ∧ t.get .arb ARB.ECC_ADDR.REQ = q.val ∧ t.get .arb ARB.ECC_ADDR.COUNT = 0) ∧
        (s.raised .arb 0 = true → t.get .arb ARB.ECC_ADDR.COUNT = min 15 (s.get .arb ARB.ECC_ADDR.COUNT + 1) ∧
          t.get .arb ARB.ECC_ADDR.ADDR = s.get .arb ARB.ECC_ADDR.ADDR) ∧
        changes s t (back 0) [(.arb, 0x60), (.arb, 0x18)])) ∧
    (s.rst.mgmtRel = true →
      (a.cur = none → gives .storeRefresh s (fun t => t = { s with arb := { a with refresh := true } })) ∧
      (a.cur = some q → a.reqs[q] = some rq → gives .storeRefresh s (fun t =>
        (rq.done % 4 = 0 → t.get .arb ARB.ARB_STAT.SUSP = min 4095 (s.get .arb ARB.ARB_STAT.SUSP + 1) ∧
          changes s t { s with arb := { a with refresh := true } } [(.arb, 0x58)]) ∧
        (rq.done % 4 ≠ 0 → t = { s with arb := { a with refDue := true } })))) ∧
    (a.cur.isSome = true ∨ (∀ p : Fin 2, s.eths[p].held = []) → gives .storeRefreshEnd s (fun t => t = { s with arb := { a with refresh := false } })) ∧
    (s.opens r .arb = true →
      gives (.timetableCommit r) s (fun t =>
        t.flag .arb ARB.ARB_STAT.TT_PEND = true ∧ (∀ i : Fin 11, t.arb.ttPend.map (fun v => v[i]) = some (s.word .arb (0x80 + 8 * i.val))) ∧
        changes s t { s with arb := { a with ttPend := t.arb.ttPend, ttAt := a.cycle } } [(.arb, 0x50), (.arb, 0x58)]) ∧
      gives (.arbCounterClr r) s (fun t =>
        (∀ x : Fin 29, t.word .arb (0x200 + 8 * x.val) = 0) ∧ t.get .arb ARB.ARB_STAT.SUSP = 0 ∧ t.get .arb ARB.ARB_STAT.ECC_CORR = 0 ∧
        onlyWords s t ([(.arb, 0x50), (.arb, 0x58)] ++ (List.range 29).map (fun x => (Pg.arb, 0x200 + 8 * x))))) ∧
    (∀ v, a.ttPend = some v → a.cycle % 64 = 0 → a.ttAt < a.cycle → gives .timetableTakeup s (fun t =>
      t.flag .arb ARB.ARB_STAT.TT_PEND = false ∧ t.raised .arb 2 = true ∧
      changes s t { s with arb := { a with tt := v, ttPend := none } } [(.arb, 0x58), (.arb, 0x18)]))

/-! ### Platform time and the Ethernet ports (R403-R417) -/

/-- R405-R408: a correction of COR_CMD takes its reference at this tick, SET from TARGET, STEP from the time plus the step, RATE with
a new rate, fires COR_DONE and enters TRACK; one before time 0 is refused. HOLD_MS later HOLDOVER fires. A read of NOW0 takes the
requester's snapshot. Completes here (exec answers the next state described, from every state and with every operand that meet the
hypotheses): timeSet, timeStep, timeRate, timeStepRate, holdover, timeSnapshotRead. -/
def Obligations.PlatformTime : Prop :=
  ∀ (s : State) (r : Req) (i : Fin 4),
    let now := s.timeAt s.timeC
    let step := (s.word .time 0x88).toInt
    let rate := s.word .time 0x80
    let commits := fun (c : Instr) (tref : Int) (rt : Word) =>
      let next : Int := roundQ ((tref : Rat) + (640 / 3) * (1 + (rt.toInt : Rat) / 2 ^ 40))
      (0 ≤ next → 0 ≤ tref → next < (2 : Int) ^ 36 * 64000000000 → gives c s (fun t =>
        t.get .time TIME.TIME_STAT.STATE = 1 ∧ t.raised .time 1 = true ∧
        changes s t { s with cor := some (tref.toNat, s.timeC, rt), lastCor := s.timeC } [(.time, 0xA0), (.time, 0xB0), (.time, 0x18)])) ∧
      (next < 0 ∨ tref < 0 ∨ (2 : Int) ^ 36 * 64000000000 ≤ next → gives c s (fun t =>
        t.raised .time 2 = true ∧ onlyWords s t [(.time, 0xA0), (.time, 0x18)]))
    (s.opens r .time = true → s.secure r = true →
      (s.crossBad .time 0xA0 0 1 = false →
        commits (.timeSet r) ((s.word .time 0x90).toNat * 64000000000 + (s.word .time 0x88).toNat : Nat) rate) ∧
      commits (.timeStep r) (now + step) rate ∧ commits (.timeRate r) now (s.word .time 0x98) ∧
      commits (.timeStepRate r) (now + step) (s.word .time 0x98)) ∧
    (s.get .time TIME.TIME_STAT.STATE = 1 → s.lastCor + 300000 * s.get .time TIME.HOLD_CFG.HOLD_MS ≤ s.timeC → gives .holdover s (fun t =>
      t.get .time TIME.TIME_STAT.STATE = 2 ∧ t.raised .time 0 = true ∧ onlyWords s t [(.time, TIME.TIME_STAT.STATE.off), (.time, 0x18)])) ∧
    (s.reaches .bar0 .time false = true → gives (.timeSnapshotRead .bar0) s (fun t =>
      t.bar0.rdata = s.bar0.rdata ++ [((time72 s.nowT).1).signExtend 64] ∧
      t = { s with snaps := s.snaps.set 0 (s.nowT, s.timeC), bar0 := { s.bar0 with rdata := t.bar0.rdata } }))

/-- R410-R413, R415-R417, R429: a good frame that passes the filter is written into the port's receive slot with its stamps, word 0
with SEQ last, and fires RX_FRAME; while ARB is busy four are held and the next is dropped; with FWD it goes to the other port, of
which two are held. A slot is sent with its bytes, padded to 60, after no forwarded frame that had arrived waits; it gets its
transmission time and DONE, the channel that moved it writes back, and TX_CONS advances. A link comes up and goes down. Completes
here (exec answers the next state described, from every state and with every operand that meet the hypotheses): ethFrameReceived,
ethTxProduce, ethTxSlotDone, linkUp, linkDown. -/
def Obligations.EthernetPorts : Prop :=
  ∀ (s : State) (r : Req) (p : Fin 2) (f : EthFrame) (prod : Fin 128) (dropped : Bool) (ago : Nat) (full xover : Bool),
    let x := s.eths[p]
    let b := f.bytes
    let len := b.length
    let on := s.runs (.eth p) = true ∧ s.flag (.eth p) ETH.ETH_CFG.EN = true
    let c := s.timeC - f.ago
    let stamp := fun (tx : Bool) (at_ : Nat) => time72 ((s.timeAt at_ + (s.word .ptp (0x48 + 8 * (2 * p.val + b2n tx))).toInt).toNat)
    let area := 0x80000 + 0x20000 * p.val
    let good := f.ok = true ∧ 60 ≤ len ∧ len ≤ (if beAt b 12 2 = 0x8100 then 1522 else 1518) ∧
      (s.flag (.eth p) ETH.ETH_CFG.PROMISC = true ∨ beAt b 0 6 = s.macAddr p ∨ beAt b 0 6 = 2 ^ 48 - 1 ∨
        (beAt b 0 1 % 2 = 1 ∧ s.flag (.eth p) ETH.ETH_CFG.MCAST = true))
    let ptp := s.ptpHeader b
    let started := x.fwd.filter (fun e => decide (s.now < e.2 + f.ago))
    let fwd := started ++ [(s.now - f.ago + 336, s.now - f.fwdAgo + frameTicks len)]
    let ts := f.ok = true ∧ ptp.isSome = true
    (on → s.ethUp p = true → s.ethForwards p b = false →
      (good → s.storeBusy = false → x.held = [] → s.storeOpen (s.pageSecure (.eth p)) true (area + 512 * s.get (.eth p) ETH.RX_STAT.WIDX) 512 →
        gives (.ethFrameReceived p f) s (fun t =>
          let i := s.get (.eth p) ETH.RX_STAT.WIDX
          let n := s.get (.eth p) ETH.RX_STAT.SEQ
          let base := area + 512 * i
          let words := [BitVec.ofNat 36 (n <<< 16 ||| b2n x.restart <<< 15 ||| b2n ptp.isSome <<< 14 ||| b2n (beAt b 12 2 == 0x8100) <<< 12 ||| len),
            (stamp false c).1, (stamp false c).2, BitVec.ofNat 36 (c % 2 ^ 36), 0, 0,
            (match ptp with
              | some k => BitVec.ofNat 36 ((beAt b k 1 % 16) <<< 32 ||| beAt b (k + 4) 1 <<< 24 ||| beAt b (k + 30) 2)
              | none => 0), 0]
          (∀ j, j < 8 → t.storeGet (base + j) = words.getD j 0) ∧
          (∀ j, j < (len + 3) / 4 → t.storeGet (base + 8 + j) =
            BitVec.ofNat 36 ((b.getD (4 * j) 0).toNat * 2 ^ 24 + (b.getD (4 * j + 1) 0).toNat * 2 ^ 16 + (b.getD (4 * j + 2) 0).toNat * 2 ^ 8 +
              (b.getD (4 * j + 3) 0).toNat)) ∧
          (∀ a, a < base ∨ base + 8 + (len + 3) / 4 ≤ a → t.storeGet a = s.storeGet a) ∧
          t.get (.eth p) ETH.RX_STAT.WIDX = (i + 1) % 128 ∧ t.get (.eth p) ETH.RX_STAT.SEQ = (n + 1) % 65536 ∧ t.raised (.eth p) 9 = true ∧
          (ptp.isSome = true → t.raised .ptp 0 = true) ∧
          changes s t { s with store := t.store, eths := s.eths.set p { x with restart := false } } [(.eth p, 0x60), (.eth p, 0x18), (.ptp, 0x18)])) ∧
      (¬ good → gives (.ethFrameReceived p f) s (fun t => (ts → t.raised .ptp 0 = true) ∧ (¬ ts → t = s) ∧ onlyWords s t [(.ptp, 0x18)])) ∧
      (good → s.storeBusy = true → gives (.ethFrameReceived p f) s (fun t =>
        (ptp.isSome = true → t.raised .ptp 0 = true) ∧
        (x.held.length < 4 → t.eths[p].held.length = x.held.length + 1 ∧ t.eths[p].held.take x.held.length = x.held ∧
          changes s t { s with eths := s.eths.set p { x with held := t.eths[p].held } } [(.ptp, 0x18)]) ∧
        (4 ≤ x.held.length → t.get (.eth p) ETH.RX_STAT.DROPS = satInc 13 (s.get (.eth p) ETH.RX_STAT.DROPS) ∧ t.raised (.eth p) 11 = true ∧
          onlyWords s t [(.eth p, 0x60), (.eth p, 0x18), (.ptp, 0x18)])))) ∧
    (on → s.ethUp p = true → s.ethForwards p b = true → ¬ good →
      (started.length < 2 → gives (.ethFrameReceived p f) s (fun t =>
        (ts → t.raised .ptp 0 = true ∧ t.raised .ptp 1 = true) ∧
        t.eths[otherPort p].out.length = 12 + max 60 len ∧ (∀ j, j < len → t.eths[otherPort p].out.getD (8 + j) 0 = b.getD j 0) ∧
        changes s t { s with eths := (s.eths.set p { x with fwd := fwd }).set (otherPort p) { s.eths[otherPort p] with
          out := t.eths[otherPort p].out } } [(.ptp, 0x18)])) ∧
      (2 ≤ started.length → gives (.ethFrameReceived p f) s (fun t =>
        t.get (.eth p) ETH.ETH_STAT.FWD_DROP = min 4095 (s.get (.eth p) ETH.ETH_STAT.FWD_DROP + 1) ∧ t.raised (.eth p) 12 = true ∧
        (ts → t.raised .ptp 0 = true) ∧
        changes s t { s with eths := s.eths.set p { x with fwd := started } } [(.eth p, 0x58), (.eth p, 0x18), (.ptp, 0x18)]))) ∧
    (s.opens r (.eth p) = true → gives (.ethTxProduce r p prod) s (fun t =>
      t.get (.eth p) ETH.TX_PROD.PROD = prod.val ∧ onlyWords s t [(.eth p, 0x68)])) ∧
    (on → s.ethUp p = true ∨ dropped = true → s.get (.eth p) ETH.TX_CONS.CONS ≠ s.get (.eth p) ETH.TX_PROD.PROD →
      s.ethMayBegin p (s.now - ago) = true →
      (∀ wr, s.storeOpen (s.pageSecure (.eth p)) wr (area + 0x10000 + 512 * s.get (.eth p) ETH.TX_CONS.CONS) 512) →
      s.storeOpen (s.secure .dma) false (area + 0x10000 + 512 * s.get (.eth p) ETH.TX_CONS.CONS) 3 → s.host.txBack = [] →
      gives (.ethTxSlotDone p dropped ago) s (fun t =>
        let i := s.get (.eth p) ETH.TX_CONS.CONS
        let base := area + 0x10000 + 512 * i
        let w0 := s.storeGet base
        let bad := decide (fld w0 10 0 < 14) || decide (1518 < fld w0 10 0)
        let ch : Fin 9 := ⟨6 + p.val, by omega⟩
        let moved := (p, i) ∈ s.host.txMoved
        let left := s.host.txMoved.filter (fun e => e != (p, i))
        let sent := bad = false ∧ dropped = false
        t.storeGet base = setFld (setFld w0 35 35 1) 34 34 (b2n (bad || dropped)) ∧
        (bad = false → t.storeGet (base + 1) = (stamp true (s.timeC - ago)).1 ∧ t.storeGet (base + 2) = (stamp true (s.timeC - ago)).2) ∧
        (∀ a, a ≠ base → (bad = true ∨ (a ≠ base + 1 ∧ a ≠ base + 2)) → t.storeGet a = s.storeGet a) ∧
        t.get (.eth p) ETH.TX_CONS.CONS = (i + 1) % 128 ∧ t.raised (.eth p) 10 = true ∧
        (sent → t.eths[p].out.length = 12 + max 60 (fld w0 10 0) ∧ ∀ j, j < fld w0 10 0 →
          t.eths[p].out.getD (8 + j) 0 = BitVec.ofNat 8 ((s.storeGet (base + 8 + j / 4)).toNat / 2 ^ (24 - 8 * (j % 4)))) ∧
        (¬ sent → t.eths = s.eths) ∧
        (¬ moved → t.host = s.host) ∧
        (moved → s.dmaReady = false → t.host = { s.host with txMoved := left, txBack := [(p, i)] }) ∧
        (moved → s.dmaReady = true → s.dmaState ch = 2 → t.host = { s.host with txMoved := left }) ∧
        (moved → s.dmaReady = true → s.dmaState ch ≠ 2 → t.host = { s.host with txMoved := left, posted := t.host.posted } ∧ t.host.posted = s.host.posted ++
          (List.range 3).map (fun k => (s.hostBase ch + 4096 * i + 8 * k, (t.storeGet (base + k)).signExtend 64)) ++
          [(s.hostBase ch + 4096 * 128, (BitVec.ofNat 36 ((i + 1) % 128)).signExtend 64)]) ∧
        changes s t { s with store := t.store, host := t.host, eths := s.eths.set p { x with out := t.eths[p].out } }
          [(.eth p, 0x70), (.eth p, 0x18), (.ptp, 0x18)])) ∧
    (on → s.ethUp p = false → gives (.linkUp p full xover) s (fun t =>
      t.ethUp p = true ∧ t.raised (.eth p) 8 = true ∧
      t.flag (.eth p) ETH.ETH_STAT.FULL = (if s.get (.eth p) ETH.ETH_CFG.LINK = 1 then true else if s.get (.eth p) ETH.ETH_CFG.LINK = 2 then false else full) ∧
      t.flag (.eth p) ETH.ETH_STAT.XOVER = (if s.get (.eth p) ETH.ETH_CFG.MDIX = 1 then false else if s.get (.eth p) ETH.ETH_CFG.MDIX = 2 then true else xover) ∧
      onlyWords s t [(.eth p, 0x58), (.eth p, 0x18)])) ∧
    (s.ethUp p = true → gives (.linkDown p) s (fun t =>
      t.ethUp p = false ∧ t.raised (.eth p) 0 = true ∧
      changes s t { s with eths := s.eths.set p { x with fwd := [] } } [(.eth p, 0x58), (.eth p, 0x18)]))

/-! ### The event recorder (R361-R381) -/

/-- R361, R363, R365: an accepted change of a probe is marked in its window, and the measurement unit measures it. R363, R366, R367:
the window's end gives one change record of the probes that changed, an analog record of each probe that moved by DEADBAND and a LOSS
record, each put in its place by its tag, and moves the ladder; a FIFO full but for its reserve loses a record, with OVERFLOW and a
LOSS record once that fits. R364: count bits 31:0 at zero, or a correction, gives a TIME record. Completes here (exec answers the
next state described, from every state and with every operand that meet the hypotheses): probeChange, recWindowEnd, recTimeMark. -/
def Obligations.RecorderWindows : Prop :=
  ∀ (s : State) (i : Fin 32) (level : Bool) (tap : Nat),
    let r := s.recd
    let k := s.get (.recorder 0) REC0.REC_STAT.K_NOW
    let mode := s.get (.recorder 1) REC1.MEAS_CFG.MODE
    let inst := s.timeC * 64 + (if s.get (.recorder 1) (REC1.PROBE.GROUP.nth i.val) ∈ [1, 2, 3, 4, 8, 11] then tap % 64 else 0)
    let measured := s.get (.recorder 1) REC1.MEAS_CFG.CH = i.val
    let dead := fun (j : Nat) => s.get (.recorder 1) (REC1.DBAND.DEADBAND.nth j)
    let tag := fun (n : Nat) => n % 2 ^ 32
    let chgs : List RecEnt := if r.chg = 0 then [] else
      [{ key := r.winStart, cls := 1, prim := false, at_ := s.now,
         words := [BitVec.ofNat 36 ((if r.multi = 0 then (if r.meas.isNone then 1 else 2) else (if r.meas.isNone then 3 else 7)) * 2 ^ 32 + tag r.winStart),
             BitVec.ofNat 36 (k * 2 ^ 32 + r.lvl.toNat)] ++
           (if r.multi = 0 then [] else [BitVec.ofNat 36 r.multi.toNat]) ++ (r.meas.toList.map (fun x => BitVec.ofNat 36 (min x (2 ^ 36 - 1)))) }]
    let anas : List RecEnt := (List.finRange 4).filterMap (fun j => match r.aps[j].cur, r.aps[j].last with
      | some (v, t), none => some { key := t, cls := 2, words := [BitVec.ofNat 36 ((8 + j.val) * 2 ^ 32 + tag t), BitVec.ofInt 36 v], prim := false, at_ := s.now }
      | some (v, t), some l => if dead j ≤ (v - l).natAbs
          then some { key := t, cls := 2, words := [BitVec.ofNat 36 ((8 + j.val) * 2 ^ 32 + tag t), BitVec.ofInt 36 v], prim := false, at_ := s.now } else none
      | none, _ => none)
    let losses : List RecEnt := if r.lossCnt = 0 then [] else
      [{ key := s.timeC, cls := 1, words := [BitVec.ofNat 36 (6 * 2 ^ 32 + tag s.timeC), BitVec.ofNat 36 (min r.lossCnt (2 ^ 36 - 1))], prim := false, at_ := s.now }]
    let adds := chgs ++ anas ++ losses
    let most := if adds = [] then r.winMax else max r.winMax (fifoWords r.fifo + fifoWords adds)
    let high := r.high || (decide (adds ≠ []) && decide (768 ≤ fifoWords r.fifo + fifoWords adds))
    let rises := high = true ∧ k < s.get (.recorder 0) REC0.REC_CFG.LADDER_MAX ∧ s.timeC % 2 ^ (k + 1) = 0
    let falls := 0 < k ∧ most ≤ 128 ∧ 15 ≤ r.lowRun
    let k' := if rises then k + 1 else if falls then k - 1 else k
    (s.runs (.recorder 0) = true → (∀ l, s.probeSource i (inst % 64) = some l → l = level) → r.lvl.getLsbD i.val ≠ level →
      gives (.probeChange i level tap) s (fun t =>
        (∀ j : Fin 32, t.recd.lvl.getLsbD j.val = (if j = i then level else r.lvl.getLsbD j.val) ∧
          t.recd.chg.getLsbD j.val = (r.chg.getLsbD j.val || decide (j = i)) ∧
          t.recd.multi.getLsbD j.val = (r.multi.getLsbD j.val || (decide (j = i) && r.chg.getLsbD i.val))) ∧
        (mode = 0 ∨ ¬ measured → t.recd.meas = r.meas ∧ t.recd.chgCnt = r.chgCnt) ∧
        (measured → mode = 1 → ∀ p, r.lastChg[i] = some p → t.recd.meas = some (inst - p)) ∧
        (measured → mode = 2 → level = true → ∀ p, r.rise[i] = some p → t.recd.meas = some (inst - p)) ∧
        (measured → mode = 2 → level = false → ∀ p, r.period[i] = some p → t.recd.meas = some p) ∧
        (measured → mode = 3 → t.recd.meas = some (r.chgCnt + 1)) ∧
        (measured → mode ≠ 0 → t.recd.chgCnt = r.chgCnt + 1) ∧
        t = { s with recd := { r with
          lvl := t.recd.lvl, chg := t.recd.chg, multi := t.recd.multi, meas := t.recd.meas, chgCnt := t.recd.chgCnt
          lvlWas := (if r.lvlTick = s.timeC then r.lvlWas else r.lvl), lvlTick := s.timeC
          lastChg := r.lastChg.set i (some inst), prevChg := r.prevChg.set i r.lastChg[i]
          rise := (if level then r.rise.set i (some inst) else r.rise)
          period := (if level then r.period.set i (r.rise[i].map (fun p => inst - p)) else r.period) } })) ∧
    (s.capturing = true → s.timeC % 2 ^ k = 0 → fifoWords r.fifo + 14 ≤ 960 → k < 16 → k' < 16 →
      gives .recWindowEnd s (fun t =>
        let l := adds.foldl (fun l e => fifoIns e l) r.fifo
        t.get (.recorder 0) REC0.REC_STAT.K_NOW = k' ∧
        t.get (.recorder 0) REC0.REC_STAT.K_MAX = (if k' = k then s.get (.recorder 0) REC0.REC_STAT.K_MAX else max k' (s.get (.recorder 0) REC0.REC_STAT.K_MAX)) ∧
        (k = 0 → k' = 1 → t.raised (.recorder 0) 10 = true) ∧
        (∀ j : Fin 4, t.recd.aps[j] = ⟨match r.aps[j].cur, r.aps[j].last with
            | some (v, _), none => some v
            | some (v, _), some x => if dead j ≤ (v - x).natAbs then some v else some x
            | none, x => x, none, r.aps[j].conv⟩) ∧
        changes s t { s with recd := { r with aps := t.recd.aps, fifo := l, lossCnt := 0, winStart := s.timeC, chg := 0, multi := 0, meas := none, winMax := fifoWords l, high := (if k' = k then high else decide (768 ≤ fifoWords l)), lowRun := (if k' ≠ k ∨ 128 < most then 0 else r.lowRun + 1) } }
          [(.recorder 0, 0x60), (.recorder 0, 0x18)])) ∧
    (s.capturing = true → s.timeC % 2 ^ k = 0 → r.chg ≠ 0 → 959 ≤ fifoWords r.fifo → (∀ j : Fin 4, r.aps[j].cur = none) → gives .recWindowEnd s (fun t =>
      t.get (.recorder 0) REC0.REC_STAT.LOST = min 1048575 (s.get (.recorder 0) REC0.REC_STAT.LOST + 1) ∧ t.raised (.recorder 0) 0 = true ∧
      (1023 ≤ fifoWords r.fifo → t.recd.fifo = r.fifo ∧ t.recd.lossCnt = r.lossCnt + 1) ∧
      (fifoWords r.fifo ≤ 1022 → t.recd.lossCnt = 0 ∧ t.recd.fifo = fifoIns { key := s.timeC, cls := 1, prim := false, at_ := s.now, words :=
        [BitVec.ofNat 36 (6 * 2 ^ 32 + tag s.timeC), BitVec.ofNat 36 (min (r.lossCnt + 1) (2 ^ 36 - 1))] } r.fifo) ∧
      changes s t { s with recd := t.recd } [(.recorder 0, 0x60), (.recorder 0, 0x18)])) ∧
    (s.capturing = true → s.timeC % 2 ^ 32 = 0 ∨ (s.get .time TIME.TIME_STAT.STATE ≠ 0 ∧ (s.timeC = s.lastCor ∨ s.timeC = s.lastCor + 1)) →
      gives .recTimeMark s (fun t =>
      let e : RecEnt := { key := s.timeC, cls := 0, prim := false, at_ := s.now, words := [BitVec.ofNat 36 (4 * 2 ^ 32 + tag s.timeC), BitVec.ofNat 36 (s.timeC / 2 ^ 32 % 2 ^ 32), (time72 s.nowT).1, (time72 s.nowT).2] }
      t = { s with recd := { r with fifo := fifoIns e r.fifo, winMax := max r.winMax (fifoWords r.fifo + 4), high := r.high || decide (768 ≤ fifoWords r.fifo + 4) } }))

/-- R364, R367, R370-R377: ARM restarts the ring and writes the header and the first records; FORCE is a capture trigger of unit 4;
STOP, the end of POST_T and a ring that reaches the primary record drain the FIFO into the ring, write the header and end in DONE
with END 3, 1 and 2; a drain writes whole records and the header where 14 words are held or a record has waited (the tags it may
write are bounded by the model's reading, log 67); a denied write ends the capture with END 4 and WR_DENY. A FORCE in the tick of a
unit's firing comes before it; a command in any other state is refused. RD_DATA reads the store at RD_ADDR, which moves on; a running
capture drops writes to REC1 and REC2. R378-R380: a master with TX raises BAON_TRIG on an edge of BAON_CLK (placed by the model's
reading, log 67) at least 2 ticks after its capture trigger and records its emission as a TRIG record of UNIT 5; a slave's enabled
Baon units fire at the edge's instant less BAON_DLY, the first as the capture trigger; MEAS on a master starts a pulse and a
measurement, which an echo publishes in BAON_RT and a silence fails; a slave that loses the clock fires BAON_LOST until edges return.
Completes here (exec answers the next state described, from every state and with every operand that meet the hypotheses): recDrain,
arm, force, stop, capturePostExpiry, recReadData, recConfigWrite, baonEmit, baonTriggerReceived, baonMeasure, baonEchoReceived,
baonEchoTimeout, baonLost, baonClkReturn. -/
def Obligations.RecorderCaptures : Prop :=
  (∀ (s : State) (r : Req) (i : Fin 32) (u : Fin 4) (pg2 : Bool) (off : Nat) (w : Word) (d : RegD) (j pu pin pt : Nat),
     let x := s.recd
     let st := s.recState
     let top := 0x400000
     let at_ := fun (b wp j : Nat) => if wp + j < top then wp + j else wp + j - top + b + 4
     let sec := s.pageSecure (.recorder 0)
     let free := fun (l : List RecEnt) => s.storeOpen sec true x.base 2 ∧
       ∀ j, j < (l.flatMap (fun e => e.words)).length → worldAllows (s.storeWorld (at_ x.base x.wptr j)) sec true = true
     let hdr0 := fun (t : State) (wrap : Bool) (wp : Nat) => t.word (.recorder 0) 0x68 =
       BitVec.ofNat 36 (t.recState * 2 ^ 34 + t.get (.recorder 0) REC0.REC_STAT.END * 2 ^ 31 + b2n wrap * 2 ^ 30 + wp)
     let written := fun (t : State) (l : List RecEnt) (stop : Option Nat) (slots : List (Pg × Nat)) =>
       let ws := l.flatMap (fun e => e.words)
       let wrap := x.wrap || decide (top ≤ x.wptr + ws.length)
       (∀ j, j < ws.length → t.storeGet (at_ x.base x.wptr j) = ws.getD j 0) ∧
       t.storeGet x.base = t.word (.recorder 0) 0x68 ∧ t.storeGet (x.base + 1) = t.word (.recorder 0) 0x70 ∧
       (∀ a, a < top → a ≠ x.base → a ≠ x.base + 1 → (∀ j, j < ws.length → a ≠ at_ x.base x.wptr j) → t.storeGet a = s.storeGet a) ∧
       t.recd.wptr = at_ x.base x.wptr ws.length ∧ t.recd.wrap = wrap ∧
       hdr0 t wrap (at_ x.base x.wptr ws.length) ∧
       t.word (.recorder 0) 0x70 = (match t.recd.taddr with
         | some a => BitVec.ofNat 36 (2 ^ 35 + a)
         | none => 0) ∧
       ((∀ e ∈ l, e.prim = false) → t.recd.taddr = x.taddr) ∧
       changes s t { s with store := t.store, recd := { x with fifo := x.fifo.drop l.length, lossCnt := t.recd.lossCnt, winMax := t.recd.winMax, high := t.recd.high, wptr := t.recd.wptr, wrap := t.recd.wrap, taddr := t.recd.taddr, stopAt := stop } }
         ([(.recorder 0, 0x60), (.recorder 0, 0x68), (.recorder 0, 0x70), (.recorder 0, 0x18)] ++ slots)
     let fits := fun (l : List RecEnt) => x.base + 4 ≤ x.wptr ∧ x.wptr < top ∧ x.base + 4 + (l.flatMap (fun e => e.words)).length ≤ top ∧
       ∀ j, j < (l.flatMap (fun e => e.words)).length → x.taddr ≠ some (at_ x.base x.wptr j)
     let owed := if x.lossCnt = 0 then x.fifo else fifoIns { key := s.timeC, cls := 1, prim := false, at_ := s.now, words :=
       [BitVec.ofNat 36 (6 * 2 ^ 32 + s.timeC % 2 ^ 32), BitVec.ofNat 36 (min x.lossCnt (2 ^ 36 - 1))] } x.fifo
     let ends := fun (c : Instr) (why : Nat) (stop : Option Nat) (slots : List (Pg × Nat)) =>
       (fits owed → (∀ e ∈ owed, e.prim = false) → free owed → gives c s (fun t =>
         t.recState = 3 ∧ t.get (.recorder 0) REC0.REC_STAT.END = why ∧ t.raised (.recorder 0) 9 = true ∧
         (t.recd.lossCnt = 0 ∧ (x.lossCnt = 0 → t.recd.winMax = x.winMax ∧ t.recd.high = x.high)) ∧
         written t owed stop slots))
     let refused := fun (c : Instr) => gives c s (fun t => t.raised (.recorder 0) 11 = true ∧ onlyWords s t [(.recorder 0, 0x58), (.recorder 0, 0x18)])
     (s.opens r (.recorder 0) = true →
       (st = 0 ∨ st = 3 → s.storeOpen sec true (s.get .arb ARB.STORE_CFG.CAP_BASE * 4096) 4 → (∀ j : Fin 4, fld (s.word (.recorder 1) (0x200 + 8 * j.val)) 34 32 < 6) → 0 < s.get .arb ARB.STORE_CFG.CAP_BASE → gives (.arm r) s (fun t =>
         let b := s.get .arb ARB.STORE_CFG.CAP_BASE * 4096
         let t72 := time72 s.nowT
         let low := s.timeC % 2 ^ 32
         let anas := (List.finRange 4).filter (fun j => fld (s.word (.recorder 1) (0x200 + 8 * j.val)) 35 35 == 1)
         let val := fun (j : Fin 4) => match nthPg Pg.adc (fld (s.word (.recorder 1) (0x200 + 8 * j.val)) 34 32) with
           | some p => s.word p (0x400 + 8 * fld (s.word (.recorder 1) (0x200 + 8 * j.val)) 31 27)
           | none => 0
         t.word (.recorder 0) 0x60 = BitVec.ofNat 36 (2 ^ 34) ∧ hdr0 t false (b + 4) ∧ t.word (.recorder 0) 0x70 = 0 ∧
         t.storeGet b = t.word (.recorder 0) 0x68 ∧ t.storeGet (b + 1) = 0 ∧ t.storeGet (b + 2) = t72.1 ∧ t.storeGet (b + 3) = t72.2 ∧
         (∀ a, a < b ∨ b + 4 ≤ a → t.storeGet a = s.storeGet a) ∧
         t.recd = { RecPart.reset with
           lvl := x.lvl, lastChg := x.lastChg, prevChg := x.prevChg, rise := x.rise, period := x.period, lvlWas := x.lvlWas, lvlTick := x.lvlTick
           trg := x.trg, armC := s.timeC, winStart := s.timeC, base := b, wptr := b + 4, armT := t72, measuring := x.measuring, clkLost := x.clkLost, pulseC := x.pulseC, trigSeen := x.trigSeen
           winMax := 6 + 2 * anas.length
           aps := t.recd.aps
           fifo := [{ key := s.timeC, cls := 0, words := [BitVec.ofNat 36 (4 * 2 ^ 32 + low), BitVec.ofNat 36 (s.timeC / 2 ^ 32 % 2 ^ 32), t72.1, t72.2], prim := false, at_ := s.now },
               { key := s.timeC, cls := 1, words := [BitVec.ofNat 36 (2 ^ 32 + low), BitVec.ofNat 36 x.lvl.toNat], prim := false, at_ := s.now }] ++
             anas.map (fun j => { key := s.timeC, cls := 2, words := [BitVec.ofNat 36 ((8 + j.val) * 2 ^ 32 + low), val j], prim := false, at_ := s.now }) } ∧
         (∀ j : Fin 4, t.recd.aps[j] = ⟨if j ∈ anas then some (val j).toInt else none, none, x.aps[j].conv⟩) ∧
         changes s t { s with store := t.store, recd := t.recd } [(.recorder 0, 0x58), (.recorder 0, 0x60), (.recorder 0, 0x68), (.recorder 0, 0x70)])) ∧
       (st = 1 ∨ st = 2 → refused (.arm r)) ∧
       (st = 1 → gives (.force r) s (fun t =>
         t.recState = 2 ∧ t.raised (.recorder 0) 8 = true ∧
         t.recd.prim = some (4, s.timeC * 64, s.now) ∧
         t.recd.emit = (s.get (.recorder 3) REC3.BAON_CFG.ROLE == 1 && s.flag (.recorder 3) REC3.BAON_CFG.TX) ∧
         t.recd.fifo = fifoIns { key := s.timeC, cls := 3, words := [BitVec.ofNat 36 (5 * 2 ^ 32 + s.timeC % 2 ^ 32), BitVec.ofNat 36 (4 * 2 ^ 32 + 2 ^ 31), (time72 s.nowT).1, (time72 s.nowT).2], prim := true, at_ := s.now } x.fifo ∧
         changes s t { s with recd := { x with prim := t.recd.prim, trigWas := t.recd.trigWas, emit := t.recd.emit, fifo := t.recd.fifo, winMax := t.recd.winMax, high := t.recd.high } }
           [(.recorder 0, 0x58), (.recorder 0, 0x60), (.recorder 0, 0x18)])) ∧
       (st ≠ 1 → s.recUnitNow = false → refused (.force r)) ∧
       (st = 2 → x.prim = some (pu, pin, pt) → pu < 4 → pt = s.now → s.flag (.recorder 0) REC0.REC_CFG.SEQ = false → gives (.force r) s (fun t =>
         let first := decide (s.timeC * 64 < pin)
         let e : RecEnt := { key := s.timeC, cls := 3, words := [BitVec.ofNat 36 (5 * 2 ^ 32 + s.timeC % 2 ^ 32), BitVec.ofNat 36 (4 * 2 ^ 32 + b2n first * 2 ^ 31), (time72 s.nowT).1, (time72 s.nowT).2], prim := first, at_ := s.now }
         t.recd.fifo = fifoIns e (if first then unPrime x.fifo else x.fifo) ∧ t.recd.prim = (if first then some (4, s.timeC * 64, s.now) else x.prim) ∧
         changes s t { s with recd := { x with prim := t.recd.prim, emit := t.recd.emit, fifo := t.recd.fifo, winMax := t.recd.winMax, high := t.recd.high } }
           [(.recorder 0, 0x58)])) ∧
       (st = 1 ∨ st = 2 → (∀ p, x.prim = some p → p.2.2 ≠ s.now) → ends (.stop r) 3 (some s.now) [(.recorder 0, 0x58)]) ∧ (st = 0 ∨ st = 3 → refused (.stop r))) ∧
     (s.runs (.recorder 0) = true → st = 2 → x.prim = some (pu, pin, pt) → pin + 64 * s.get (.recorder 0) REC0.REC_POST.POST_T ≤ 64 * s.timeC →
       ends .capturePostExpiry 1 x.stopAt [] ∧
       ((∀ a ∈ [x.base, x.base + 1, x.wptr], worldAllows (s.storeWorld (a % top)) sec true = false) → gives .capturePostExpiry s (fun t =>
         t.recState = 3 ∧ t.get (.recorder 0) REC0.REC_STAT.END = 4 ∧ t.raised (.recorder 0) 1 = true ∧ t.store = s.store ∧ t.recd.fifo = [] ∧
         changes s t { s with recd := t.recd } [(.recorder 0, 0x60), (.recorder 0, 0x18), (.sec, 0x40), (.sec, 0x18)])) ∧
       (x.lossCnt = 0 → x.taddr = some x.wptr → x.base + 1 < x.wptr → x.wptr < top → (∀ e ∈ x.fifo.head?, e.words ≠ []) → x.fifo ≠ [] → free [] → gives .capturePostExpiry s (fun t =>
         t.recState = 3 ∧ t.get (.recorder 0) REC0.REC_STAT.END = 2 ∧ t.raised (.recorder 0) 9 = true ∧ t.recd.wptr = x.wptr ∧ t.recd.fifo = [] ∧
         (∀ a, a < top → a ≠ x.base → a ≠ x.base + 1 → t.storeGet a = s.storeGet a) ∧
         changes s t { s with store := t.store, recd := t.recd } [(.recorder 0, 0x60), (.recorder 0, 0x68), (.recorder 0, 0x70), (.recorder 0, 0x18)]))) ∧
     (let l := takeTablet s.recLimit 14 x.fifo
      s.capturing = true → s.recWants = true → l ≠ [] → fits l → (∀ e ∈ l, e.prim = false) → x.lossCnt = 0 → free l → gives .recDrain s (fun t =>
         t.recState = st ∧ (t.recd.lossCnt = 0 ∧ t.recd.winMax = x.winMax ∧ t.recd.high = x.high) ∧ written t l x.stopAt [])) ∧
     (s.reaches .bar0 (.recorder 0) false = true → s.storeOpen sec false (s.get (.recorder 0) REC0.RD_ADDR.ADDR) 1 →
       let a := s.get (.recorder 0) REC0.RD_ADDR.ADDR
       gives (.recReadData .bar0) s (fun t =>
         t.bar0.rdata = s.bar0.rdata ++ [(s.storeGet a).signExtend 64] ∧
         (x.base + 4 < top → t.get (.recorder 0) REC0.RD_ADDR.ADDR = (if a + 1 < top then a + 1 else x.base + 4)) ∧
         changes s t { s with bar0 := { s.bar0 with rdata := t.bar0.rdata } } [(.recorder 0, 0x78)])) ∧
     (let p := Pg.recorder (if pg2 then 2 else 1)
      (st = 1 ∨ st = 2 → s.reaches r p true = true → off % 8 = 0 → off < 0x1000 → 0x40 ≤ off → pgReg p off = some (d, j) → s.carriesBad p d j w = false →
         gives (.recConfigWrite r pg2 off w) s (fun t => t.raised (.recorder 0) 12 = true ∧ onlyWords s t [(.recorder 0, 0x18)])) ∧
      (st = 0 ∨ st = 3 →
         (s.reaches r (.recorder 1) true = true → fld w 11 8 = 2 → fld w 7 0 < 192 → gives (.recConfigWrite r false (0x40 + 8 * i.val) w) s (fun t =>
           t.get (.recorder 1) (REC1.PROBE.GROUP.nth i.val) = 2 ∧ t.get (.recorder 1) (REC1.PROBE.INDEX.nth i.val) = fld w 7 0 ∧
           onlyWords s t [(.recorder 1, 0x40 + 8 * i.val)])) ∧
         (s.reaches r (.recorder 2) true = true → gives (.recConfigWrite r true (0x58 + 0x40 * u.val) w) s (fun t =>
           t.word (.recorder 2) (0x58 + 0x40 * u.val) = w ∧ onlyWords s t [(.recorder 2, 0x58 + 0x40 * u.val)]))))) ∧
  (∀ (s : State) (r : Req) (u : Fin 4) (tap rt c : Nat),
     let x := s.recd
     let role := s.get (.recorder 3) REC3.BAON_CFG.ROLE
     let trig := fun (unit inst : Nat) (prim : Bool) =>
       let t := time72 (s.timeAtTap (inst / 64) (inst % 64))
       ({ key := inst / 64, cls := 3, prim := prim, at_ := s.now, words := [BitVec.ofNat 36 (5 * 2 ^ 32 + inst / 64 % 2 ^ 32), BitVec.ofNat 36 (unit * 2 ^ 32 + b2n prim * 2 ^ 31 + inst % 64), t.1, t.2] } : RecEnt)
     let baon := fun (j : Fin 4) => fld (s.word (.recorder 2) (0x40 + 0x40 * j.val)) 35 35 = 1 ∧ fld (s.word (.recorder 2) (0x40 + 0x40 * j.val)) 34 32 = 6
     let inst := s.timeC * 64 + tap % 64 - s.get (.recorder 3) REC3.BAON_DLY.DLY
     (x.emit = true → baonEdge s.timeC = true → x.prim = some (tap, rt, c) → c + 2 ≤ s.now → role = 1 → s.flag (.recorder 3) REC3.BAON_CFG.TX = true → gives .baonEmit s (fun t =>
       t = { s with recd := { x with emit := false, pulseC := some s.timeC, fifo := t.recd.fifo, winMax := t.recd.winMax, high := t.recd.high } } ∧
       t.recd.fifo = (if s.capturing then fifoIns (trig 5 (s.timeC * 64) false) x.fifo else x.fifo))) ∧
     (s.runs (.recorder 3) = true → role = 2 → s.flag (.recorder 3) REC3.BAON_CFG.LOOP_EN = true ∨ x.clkLost = true ∨ (∀ j, ¬ baon j) →
       gives (.baonTriggerReceived tap) s (fun t => t = { s with recd := { x with trigSeen := some (s.timeC * 64 + tap % 64) } })) ∧
     (s.capturing = true → s.runs (.recorder 3) = true → role = 2 → s.flag (.recorder 3) REC3.BAON_CFG.LOOP_EN = false → x.clkLost = false →
       ((∀ j, baon j ↔ j = u) → x.fired[u] = none → s.flag (.recorder 0) REC0.REC_CFG.SEQ = false →
         (s.recState = 1 → gives (.baonTriggerReceived tap) s (fun t =>
           t.recState = 2 ∧ t.raised (.recorder 0) 8 = true ∧ t.recd.prim = some (u.val, inst, s.now) ∧
           t.recd.fifo = fifoIns (trig u.val inst true) (unPrime x.fifo) ∧
           changes s t { s with recd := { x with trigSeen := some (s.timeC * 64 + tap % 64), prim := t.recd.prim, trigWas := t.recd.trigWas, emit := false, fifo := t.recd.fifo, winMax := t.recd.winMax, high := t.recd.high, fired := x.fired.set u (some inst), seq0 := t.recd.seq0 } }
             [(.recorder 0, 0x60), (.recorder 0, 0x18)])) ∧
         (s.recState = 2 → x.prim = none → gives (.baonTriggerReceived tap) s (fun t =>
           t.recd.fifo = fifoIns (trig u.val inst false) x.fifo ∧
           t = { s with recd := { x with trigSeen := some (s.timeC * 64 + tap % 64), fifo := t.recd.fifo, winMax := t.recd.winMax, high := t.recd.high, fired := x.fired.set u (some inst), seq0 := t.recd.seq0 } })))) ∧
     (s.opens r (.recorder 3) = true → gives (.baonMeasure r) s (fun t =>
       t.recd.measuring = (x.measuring || role == 1) ∧ t.recd.pulseC = (if role = 1 then some ((s.timeC + 11) / 12 * 12) else x.pulseC) ∧
       changes s t { s with recd := { x with measuring := t.recd.measuring, pulseC := t.recd.pulseC } } [(.recorder 3, 0x48)])) ∧
     (x.measuring = true →
       (rt ≤ 64000 → gives (.baonEchoReceived rt) s (fun t =>
         t.get (.recorder 3) REC3.BAON_RT.RT = rt ∧ t.flag (.recorder 3) REC3.BAON_RT.VALID = true ∧ t.flag (.recorder 3) REC3.BAON_RT.FAIL = false ∧
         changes s t { s with recd := { x with measuring := false } } [(.recorder 3, 0x50)])) ∧
       (x.pulseC = some c → c + 1000 ≤ s.timeC → gives .baonEchoTimeout s (fun t =>
         t.flag (.recorder 3) REC3.BAON_RT.FAIL = true ∧ changes s t { s with recd := { x with measuring := false } } [(.recorder 3, 0x50)]))) ∧
     (s.runs (.recorder 0) = true → role = 2 → x.clkLost = false → gives .baonLost s (fun t =>
       t.raised (.recorder 0) 13 = true ∧ changes s t { s with recd := { x with clkLost := true } } [(.recorder 0, 0x18)])) ∧
     gives .baonClkReturn s (fun t => t = { s with recd := { x with clkLost := false } }))

/-! ### CAN FD links (R382-R402) -/

/-- R388-R391, R395, R398: a frame received takes a place before the ring with its record, and is lost with RX_DROP where all four
are full; a reference message sets Ref_Mark, the cycle count and SYNC; a commit frame leads to GUARD. A frame that began before
CONFIG was selected is still received (the model's reading, log 91). The oldest record goes to its slot with the next SEQ. RD_DATA
reads the ring. With FD_EN 0 an FD frame is no frame received. R382: an error sets its code, raises the receive counter by 1 or by 8
(the standard's step, presumed, log 68) and shows in the error state. Completes here (exec answers the next state described, from
every state and with every operand that meet the hypotheses): canFrameReceived, canRingWrite, canReadData, canRxError. -/
def Obligations.CanReception : Prop :=
  ∀ (s : State) (c : Fin 4) (f : CanFrame) (lec : Fin 8) (eight : Bool) (until_ om : Nat) (e : CanRec) (rest : List CanRec),
    let x := s.cans[c]
    let m := s.canMode c
    let cnt := s.timeC - f.ago
    let tm := time72 (s.timeAt cnt).toNat
    let len := canLen f.fdf f.rtr f.dlc
    let cfg := s.word (.can c) 0x98
    let slp := s.word (.can c) 0xC8
    let ref := fld cfg 35 34 ≠ 0 ∧ fld cfg 28 0 = f.id ∧ (fld cfg 33 33 = 1 ↔ f.ide = true) ∧ 1 ≤ len
    let commit := fld slp 35 35 = 1 ∧ fld slp 28 0 = f.id ∧ (fld slp 34 34 = 1 ↔ f.ide = true) ∧ 1 ≤ len ∧ f.data.getD 0 0 = 0x5C
    let b0 := (f.data.getD 0 0).toNat
    let record : CanRec := {
      w0 := (if ref then 1 else 0) * 2 ^ 13 + (if commit then 1 else 0) * 2 ^ 12 + f.dlc * 2 ^ 8 + len
      rest := [BitVec.ofNat 36 (b2n f.ide * 2 ^ 35 + b2n f.fdf * 2 ^ 34 + b2n f.brs * 2 ^ 33 + b2n f.esi * 2 ^ 32 + b2n f.rtr * 2 ^ 31 + f.id), tm.1, tm.2, BitVec.ofNat 36 (cnt % 2 ^ 36)] ++
        (List.range ((len + 3) / 4)).map (fun w => BitVec.ofNat 36 ((f.data.getD (4 * w) 0).toNat * 2 ^ 24 + (f.data.getD (4 * w + 1) 0).toNat * 2 ^ 16 +
          (f.data.getD (4 * w + 2) 0).toNat * 2 ^ 8 + (f.data.getD (4 * w + 3) 0).toNat)) }
    let shown := fun (t : State) => t.canErr c = (if 128 ≤ t.get (.can c) CAN.ERR_STAT.RX_ERR ∨ 128 ≤ t.get (.can c) CAN.ERR_STAT.TX_ERR then 1 else 0)
    let passive := fun (t : State) => t.canErr c = 1 → s.canErr c ≠ 1 → t.raised (.can c) 1 = true
    (s.runs (.can c) = true → (m = 1 ∨ m = 2) ∧ x.onBus = true ∨ m = 0 ∧ x.left = some (until_, om) ∧ cnt < until_ → s.slp c = 0 → s.canErr c ≠ 2 → f.dlc ≤ 15 → f.data.length = len →
      f.id < (if f.ide then 2 ^ 29 else 2 ^ 11) → f.fdf = false ∨ s.flag (.can c) CAN.CAN_MODE.FD_EN = true →
      gives (.canFrameReceived c f) s (fun t =>
        (x.held.length < 4 → t.cans[c].held = x.held ++ [record] ∧ t.get (.can c) CAN.RX_STAT.DROPS = s.get (.can c) CAN.RX_STAT.DROPS) ∧
        (4 ≤ x.held.length → t.cans[c].held = x.held ∧ t.get (.can c) CAN.RX_STAT.DROPS = min 4095 (s.get (.can c) CAN.RX_STAT.DROPS + 1) ∧
          t.raised (.can c) 8 = true) ∧
        (ref → t.word (.can c) 0xB8 = tm.1 ∧ t.word (.can c) 0xC0 = tm.2 ∧ t.cans[c].refMark = cnt ∧ t.get (.can c) CAN.TT_STAT.CC = b0 % 64 ∧
          t.get (.can c) CAN.TT_STAT.NEXT_GAP = b0 / 128 ∧ t.get (.can c) CAN.TT_STAT.TSTATE = 2 ∧ t.raised (.can c) 27 = true ∧
          (fld cfg 35 34 = 1 → t.raised (.can c) 29 = true)) ∧
        (¬ ref → t.cans[c].refMark = x.refMark ∧ t.word (.can c) 0xB8 = s.word (.can c) 0xB8 ∧ t.word (.can c) 0xC0 = s.word (.can c) 0xC0 ∧
          t.word (.can c) 0xA8 = s.word (.can c) 0xA8) ∧
        t.slp c = (if commit then 1 else 0) ∧
        t.cans[c] = { x with held := t.cans[c].held, refMark := t.cans[c].refMark, left := none } ∧
        changes s t { s with cans := s.cans.set c t.cans[c], serial := t.serial }
          ([0x70, 0xA8, 0xB8, 0xC0, 0xE0, 0x68, 0x18].map (fun o => (Pg.can c, o))))) ∧
    (s.runs (.can c) = true → m ≠ 0 → m < 3 → x.onBus = true → s.slp c = 0 → f.dlc ≤ 15 → f.data.length = len → f.id < (if f.ide then 2 ^ 29 else 2 ^ 11) →
      f.fdf = true → s.flag (.can c) CAN.CAN_MODE.FD_EN = false →
      gives (.canFrameReceived c f) s (fun t => t = { s with cans := s.cans.set c { x with onBus := false, left := none } })) ∧
    (s.runs (.can c) = true → x.held = e :: rest → e.rest.length ≤ 31 → s.storeOpen (s.pageSecure (.can c)) true (0x70000 + 0x2000 * c.val + 32 * s.get (.can c) CAN.RX_STAT.WIDX) 32 →
      gives (.canRingWrite c) s (fun t =>
        let i := s.get (.can c) CAN.RX_STAT.WIDX
        let q := s.get (.can c) CAN.RX_STAT.SEQ
        let base := 0x70000 + 0x2000 * c.val + 32 * i
        t.storeGet base = BitVec.ofNat 36 (q <<< 16 ||| b2n x.restart <<< 15 ||| e.w0) ∧
        (∀ j, j < e.rest.length → t.storeGet (base + 1 + j) = e.rest.getD j 0) ∧
        (∀ a, a < base ∨ base + 1 + e.rest.length ≤ a → t.storeGet a = s.storeGet a) ∧
        t.get (.can c) CAN.RX_STAT.WIDX = (i + 1) % 256 ∧ t.get (.can c) CAN.RX_STAT.SEQ = (q + 1) % 65536 ∧ t.raised (.can c) 9 = true ∧
        changes s t { s with store := t.store, cans := s.cans.set c { x with held := rest, restart := false } } [(.can c, 0x70), (.can c, 0x18)])) ∧
    (s.reaches .bar0 (.can c) false = true → s.storeOpen (s.pageSecure (.can c)) false (0x70000 + 0x2000 * c.val + s.get (.can c) CAN.RD_ADDR.ADDR) 1 →
      let a := s.get (.can c) CAN.RD_ADDR.ADDR
      gives (.canReadData .bar0 c) s (fun t =>
        t.bar0.rdata = s.bar0.rdata ++ [(s.storeGet (0x70000 + 0x2000 * c.val + a)).signExtend 64] ∧
        t.get (.can c) CAN.RD_ADDR.ADDR = (a + 1) % 8192 ∧
        changes s t { s with bar0 := { s.bar0 with rdata := t.bar0.rdata } } [(.can c, 0x78)])) ∧
    (s.runs (.can c) = true → m ≠ 0 → x.onBus = true → s.canErr c ≠ 2 → 1 ≤ lec.val → lec.val ≤ 6 →
      gives (.canRxError c lec eight) s (fun t =>
        t.get (.can c) CAN.ERR_STAT.LEC = lec.val ∧ t.get (.can c) CAN.ERR_STAT.RX_ERR = min 255 (s.get (.can c) CAN.ERR_STAT.RX_ERR + (if eight then 8 else 1)) ∧
        shown t ∧ passive t ∧ onlyWords s t [(.can c, 0x68), (.can c, 0x18)]))

/-- R386, R387: a write of CAN_MODE takes its fields, but FD_EN only in CONFIG (CFG_BUSY), and a change to CONFIG waits for the end
of the link's frame; the link joins the bus; bus-off stops it until it has recovered. R398-R401: SLEEP asks for a commit frame, GUARD
ends in ASLEEP or is cancelled, and a wake leads through WAKING to AWAKE. Completes here (exec answers the next state described, from
every state and with every operand that meet the hypotheses): canModeWrite, canBusJoin, busOff, recover, canRecoveryComplete,
canSleepCmd, canWakeCmd, canGuardEnd, sleepCancel, canStandbySettled, canWakeInput, canWakeComplete. -/
def Obligations.CanModes : Prop :=
  ∀ (s : State) (r : Req) (c : Fin 4) (w : Word) (byRxd : Bool),
    let x := s.cans[c]
    let old := s.canMode c
    let m := fld w 1 0
    let part := fun (t : State) (y : CanPart) (l : List Nat) => changes s t { s with cans := s.cans.set c y } (l.map (fun o => (Pg.can c, o)))
    let wakes := fun (cmd : Instr) (l : List Nat) => gives cmd s (fun t => t.slp c = 3 ∧ part t { x with stby := old == 0, onBus := false } l)
    let cancels := fun (cmd : Instr) => gives cmd s (fun t => t.slp c = 0 ∧ t.raised (.can c) 25 = true ∧ part t x [0xE0, 0x18])
    (s.reaches r (.can c) true = true → m < 3 → gives (.canModeWrite r c w) s (fun t =>
      t.get (.can c) CAN.CAN_MODE.TX_RETRY = fld w 13 8 ∧ t.get (.can c) CAN.CAN_MODE.BOFF_AUTO = fld w 4 4 ∧ t.get (.can c) CAN.CAN_MODE.ECHO_OWN = fld w 3 3 ∧
      (old = 0 → t.get (.can c) CAN.CAN_MODE.FD_EN = fld w 2 2) ∧
      (old ≠ 0 → t.get (.can c) CAN.CAN_MODE.FD_EN = s.get (.can c) CAN.CAN_MODE.FD_EN ∧
        (s.get (.can c) CAN.CAN_MODE.FD_EN ≠ fld w 2 2 → t.raised (.can c) 30 = true)) ∧
      (m ≠ 0 → old = 0 → t.canMode c = m ∧ part t { x with onBus := false, toConfig := false, stby := s.slp c == 2, left := none } [0x58, 0x18]) ∧
      (m ≠ 0 → old ≠ 0 → t.canMode c = m ∧ part t { x with toConfig := false } [0x58, 0x18]) ∧
      (m = 0 → old ≠ 0 → x.active.isNone = true → t.canMode c = 0 ∧ 
        part t { x with onBus := false, stby := true, left := if x.onBus then some (s.timeC, old) else none } [0x58, 0x18]) ∧
      (m = 0 → old ≠ 0 → x.active.isSome = true → t.canMode c = old ∧ part t { x with toConfig := true } [0x58, 0x18]))) ∧
    (s.runs (.can c) = true →
      (old ≠ 0 → s.canErr c ≠ 2 → s.slp c ≤ 1 → gives (.canBusJoin c) s (fun t => t = { s with cans := s.cans.set c { x with onBus := true } })) ∧
      (s.get (.can c) CAN.ERR_STAT.TX_ERR = 256 → s.canErr c ≠ 2 → gives (.busOff c) s (fun t =>
        t.canErr c = 2 ∧ t.raised (.can c) 0 = true ∧
        part t { x with onBus := false, recovering := s.flag (.can c) CAN.CAN_MODE.BOFF_AUTO } [0x68, 0x18])) ∧
      (s.canErr c = 2 → x.recovering = true → gives (.canRecoveryComplete c) s (fun t =>
        t.canErr c = 0 ∧ t.get (.can c) CAN.ERR_STAT.RX_ERR = 0 ∧ t.get (.can c) CAN.ERR_STAT.TX_ERR = 0 ∧
        t.get (.can c) CAN.ERR_STAT.LEC = s.get (.can c) CAN.ERR_STAT.LEC ∧ part t { x with recovering := false, onBus := old != 0 } [0x68]))) ∧
    (s.opens r (.can c) = true →
      gives (.recover r c) s (fun t =>
        part t { x with recovering := x.recovering || (s.canErr c == 2 && !s.flag (.can c) CAN.CAN_MODE.BOFF_AUTO) } [0x60]) ∧
      (s.slp c = 0 → s.flag (.can c) CAN.SLP_CFG.EN = true → gives (.canSleepCmd r c) s (fun t =>
        part t { x with sleepPend := true, spent := x.spent.set 8 0 } [0xD8])) ∧
      (s.slp c ≠ 0 ∨ s.flag (.can c) CAN.SLP_CFG.EN = false → gives (.canSleepCmd r c) s (fun t => part t x [0xD8])) ∧
      (s.slp c = 2 → wakes (.canWakeCmd r c) [0xD8, 0xE0]) ∧
      (s.slp c ≠ 2 → gives (.canWakeCmd r c) s (fun t => part t x [0xD8]))) ∧
    (s.slp c = 1 →
      gives (.canGuardEnd c) s (fun t => t.slp c = 2 ∧ t.raised (.can c) 24 = true ∧ part t { x with stby := true, settled := false } [0xE0, 0x18]) ∧
      cancels (.sleepCancel c) ∧ cancels (.canWakeInput c byRxd)) ∧
    (s.slp c = 2 →
      gives (.canStandbySettled c) s (fun t => t = { s with cans := s.cans.set c { x with settled := true } }) ∧
      (byRxd = false ∨ x.settled = false → wakes (.canWakeInput c byRxd) [0xE0]) ∧
      (byRxd = true → x.settled = true → gives (.canWakeInput c byRxd) s (fun t => t = s))) ∧
    (s.slp c = 3 → gives (.canWakeComplete c) s (fun t =>
      t.slp c = 0 ∧ t.raised (.can c) 26 = true ∧ part t { x with onBus := old != 0 && s.canErr c != 2 } [0xE0, 0x18]))

/-- R392-R394, R398: SEND makes a buffer PENDING and cancels or ends sleep, ABORT makes a PENDING one ABORTED; when the bus is free
the buffer whose frame wins arbitration, or the commit frame, becomes ACTIVE; an attempt that ends well makes it SENT with its stamp,
another one, or any in LISTEN, gives a retry or FAILED; an error adds 8 to the transmit counter or nothing (the standard's step,
presumed, log 68); the measured delay is published. R396, R397: a master loads buffer 7 at once and then at each reference instant,
CYCLE ticks apart from its first; a slave without a reference for three cycles is LOST. Completes here (exec answers the next state
described, from every state and with every operand that meet the hypotheses): send, abort, canTxStart, canTxAttemptEnd,
canRefInstant, ttLost. -/
def Obligations.CanTransmission : Prop :=
  ∀ (s : State) (r : Req) (c : Fin 4) (b : Fin 8) (n : Fin 9) (cnt at_ v : Nat) (tdcv : Option Nat) (counts : Bool) (lec first : Nat),
    let x := s.cans[c]
    let st := s.txState c b.val
    let part := fun (t : State) (y : CanPart) (l : List Nat) => changes s t { s with cans := s.cans.set c y } (l.map (fun o => (Pg.can c, o)))
    let others := fun (t : State) (k : Nat) => ∀ j, j < 8 → j ≠ k → t.txState c j = s.txState c j
    let wants := fun (k : Fin 9) => (k.val < 8 ∧ s.txState c k.val = 1) ∨ (k = 8 ∧ x.sleepPend = true)
    let key := fun (k : Fin 9) => arbKey (s.txFrame c k.val)
    let f := s.txFrame c n.val
    let tm := time72 at_
    let again := x.spent[n] < s.get (.can c) CAN.CAN_MODE.TX_RETRY
    let tdc := fun (t : State) =>
      (tdcv = some v → s.flag (.can c) CAN.TDC_CFG.EN = true → f.brs = true → t.get (.can c) CAN.TDC_CFG.TDCV = min v 127) ∧
      (tdcv = none ∨ s.flag (.can c) CAN.TDC_CFG.EN = false ∨ f.brs = false → t.get (.can c) CAN.TDC_CFG.TDCV = s.get (.can c) CAN.TDC_CFG.TDCV)
    let lost := fun (t : State) (l : List Nat) =>
      (n.val < 8 → t.txState c n.val = (if x.abort.toList.getD n.val false then 5 else if again then 1 else 4)) ∧ others t n.val ∧
      (n.val < 8 → x.abort.toList.getD n.val false = false → ¬ again → t.raised (.can c) 17 = true) ∧
      (n = 8 → ¬ again → t.raised (.can c) 17 = true) ∧
      part t { x with active := none, spent := x.spent.set n (x.spent[n] + 1), sleepPend := x.sleepPend && (n != 8 || decide again) } (l ++ [0x90, 0x18])
    (s.opens r (.can c) = true →
      gives (.send r c b) s (fun t =>
        t.slp c = (if s.slp c = 1 then 0 else if s.slp c = 2 then 3 else s.slp c) ∧ (s.slp c = 1 → t.raised (.can c) 25 = true) ∧ others t b.val ∧
        (let y := if s.slp c = 2 then { x with stby := s.canMode c == 0, onBus := false } else x
         let whole := b = 7 ∧ s.get (.can c) CAN.TT_CFG.ROLE = 1
         (st = 1 ∨ st = 2 ∨ whole → t.txState c b.val = st ∧ part t y [0x88, 0xE0, 0x18]) ∧
         (¬ whole → st ≠ 1 → st ≠ 2 → s.flag (.can c) (CAN.TXB_HDR.FDF.nth b.val) = true → s.flag (.can c) CAN.CAN_MODE.FD_EN = false →
           t.txState c b.val = 4 ∧ t.raised (.can c) 17 = true ∧ part t y [0x88, 0x90, 0xE0, 0x18]) ∧
         (¬ whole → st ≠ 1 → st ≠ 2 → s.flag (.can c) (CAN.TXB_HDR.FDF.nth b.val) = false ∨ s.flag (.can c) CAN.CAN_MODE.FD_EN = true →
           t.txState c b.val = 1 ∧ part t { y with spent := y.spent.set b.val 0, abort := y.abort.set b false } [0x88, 0x90, 0xE0, 0x18]))) ∧
      gives (.abort r c b) s (fun t =>
        t.txState c b.val = (if st = 1 then 5 else st) ∧ others t b.val ∧
        part t (if st = 2 then { x with abort := x.abort.set b true } else x) [0x88, 0x90])) ∧
    (s.runs (.can c) = true → s.canMode c = 1 → x.onBus = true → s.canErr c ≠ 2 → s.slp c = 0 → x.active = none →
      (wants n → (∀ k, wants k → key n < key k ∨ (key n = key k ∧ n ≤ k)) → gives (.canTxStart c) s (fun t =>
        (n.val < 8 → t.txState c n.val = 2) ∧ others t n.val ∧
        part t { x with active := some (n.val, s.timeC, s.nowT) } (if n = 8 then [] else [0x90]))) ∧
      ((∀ k, ¬ wants k) → gives (.canTxStart c) s (fun t => t = s))) ∧
    (x.active = some (n.val, cnt, at_) →
      (x.toConfig = false → n ≠ 7 ∨ x.refNext = false →
        gives (.canTxAttemptEnd c .arbLost tdcv) s (fun t => lost t []) ∧
        (1 ≤ lec → lec ≤ 6 → s.canErr c ≠ 2 → gives (.canTxAttemptEnd c (.error lec counts) tdcv) s (fun t =>
          let te := min 256 (s.get (.can c) CAN.ERR_STAT.TX_ERR + (if counts then 8 else 0))
          t.get (.can c) CAN.ERR_STAT.LEC = lec ∧ t.get (.can c) CAN.ERR_STAT.TX_ERR = te ∧
          t.canErr c = (if 128 ≤ s.get (.can c) CAN.ERR_STAT.RX_ERR ∨ 128 ≤ te then 1 else 0) ∧ tdc t ∧ lost t [0x50, 0x68])) ∧
        (s.canMode c = 2 → gives (.canTxAttemptEnd c .sent tdcv) s (fun t => lost t [])) ∧
        (s.canMode c ≠ 2 → s.canErr c ≠ 2 → s.canIsRef c f = false → s.canIsCommit c f = false ∨ s.slp c ≠ 0 → s.flag (.can c) CAN.CAN_MODE.ECHO_OWN = true → x.held.length < 4 →
          gives (.canTxAttemptEnd c .sent tdcv) s (fun t =>
            (n.val < 8 → t.txState c n.val = 3 ∧ t.word (.can c) (0x410 + 0x100 * n.val) = tm.1 ∧ t.word (.can c) (0x418 + 0x100 * n.val) = tm.2 ∧
              t.raised (.can c) 16 = true) ∧ others t n.val ∧
            t.get (.can c) CAN.ERR_STAT.TX_ERR = s.get (.can c) CAN.ERR_STAT.TX_ERR - 1 ∧
            tdc t ∧
            t.cans[c].held = x.held ++ [canRec f true false false cnt at_] ∧
            part t { x with active := none, sleepPend := x.sleepPend && n != 8, held := t.cans[c].held }
              [0x50, 0x68, 0x90, 0x18, 0x410 + 0x100 * n.val, 0x418 + 0x100 * n.val])))) ∧
    (x.active = some (7, cnt, at_) → n = 7 → x.toConfig = false → x.refNext = true → gives (.canTxAttemptEnd c .arbLost tdcv) s (fun t =>
      t.txState c 7 = 1 ∧ others t 7 ∧
      t.word (.can c) 0xB40 = BitVec.ofNat 36 ((x.refJ - 1) % (s.get (.can c) CAN.TT_CYC.CC_MAX + 1) * 2 ^ 24) ∧
      part t { x with active := none, refNext := false, spent := x.spent.set 7 0, abort := x.abort.set 7 false } [0x90, 0x18, 0xB00, 0xB08, 0xB40])) ∧
    (x.active = some (n.val, cnt, at_) → x.toConfig = true → n ≠ 7 ∨ x.refNext = false → gives (.canTxAttemptEnd c .arbLost tdcv) s (fun t =>
      t.canMode c = 0 ∧ t.cans[c].onBus = false ∧ t.cans[c].stby = true ∧ t.cans[c].toConfig = false ∧ t.cans[c].active = none ∧
      part t t.cans[c] [0x58, 0x90, 0x18])) ∧
    (s.runs (.can c) = true → s.get (.can c) CAN.TT_CFG.ROLE = 1 →
      let cyc := s.get (.can c) CAN.TT_CYC.CYCLE
      (x.ref0 = none ∧ s.txState c 7 ≠ 1 ∨ (x.ref0 = some first ∧ first + x.refJ * cyc ≤ s.timeC) → s.txState c 7 ≠ 2 → gives (.canRefInstant c) s (fun t =>
        let j := if x.ref0 = none then 0 else x.refJ
        t.txState c 7 = 1 ∧ others t 7 ∧ t.get (.can c) (CAN.TXB_HDR.ID.nth 7) = s.get (.can c) CAN.TT_CFG.REF_ID ∧
        t.get (.can c) (CAN.TXB_HDR.IDE.nth 7) = s.get (.can c) CAN.TT_CFG.IDE ∧ t.get (.can c) (CAN.TXB_HDR.FDF.nth 7) = 0 ∧
        t.get (.can c) (CAN.TXB_HDR.RTR.nth 7) = 0 ∧ t.get (.can c) (CAN.TXB_CTL.DLC.nth 7) = 1 ∧
        t.word (.can c) 0xB40 = BitVec.ofNat 36 (j % (s.get (.can c) CAN.TT_CYC.CC_MAX + 1) * 2 ^ 24) ∧
        part t { x with refJ := j + 1, refNext := false, spent := x.spent.set 7 0, abort := x.abort.set 7 false } [0x90, 0xB00, 0xB08, 0xB40])) ∧
      (x.ref0 = some first → first + x.refJ * cyc ≤ s.timeC → s.txState c 7 = 2 → gives (.canRefInstant c) s (fun t =>
        t = { s with cans := s.cans.set c { x with abort := x.abort.set 7 true, refJ := x.refJ + 1, refNext := true } }))) ∧
    (s.get (.can c) CAN.TT_CFG.ROLE = 2 → s.get (.can c) CAN.TT_STAT.TSTATE = 2 → x.refMark + 3 * s.get (.can c) CAN.TT_CYC.CYCLE ≤ s.timeC → gives (.ttLost c) s (fun t =>
      t.get (.can c) CAN.TT_STAT.TSTATE = 3 ∧ t.raised (.can c) 28 = true ∧ onlyWords s t [(.can c, 0xA8), (.can c, 0x18)]))

/-! ### The engines' instruction set (R221-R247) -/

/-- R226, R231-R234, R241: each ALU, shift, accumulator, move and special instruction puts its exact result, saturated, into its
destination, sets the flags as R226's table gives, and goes on to the next address; nothing else changes, beside a buffered store
that retires and the repeat cache, which may take the word (R199). Where a shift lets no bit out C is open; SINCOS puts the model's
sine and cosine, and the errors of DIV and SQRT stay within the last place. Completes here (exec answers the next state described,
from every state and with every operand that meet the hypotheses): insAdd, insSub, insAnd, insOr, insXor, insAndn, insMin, insMax,
insAbs, insNeg, insMov, insNot, insCmp, insTst, insAsl, insAsr, insLsr, insRol, insClr, insLda, insLdai, insAdda, insSuba, insNega,
insAbsa, insShla, insShra, insMva, insSincos, insNorm, insDiv, insSqrt. -/
def Obligations.EngineArithmetic : Prop :=
  ∀ (s : State) (e : Fin 13) (d s1 s2 f amt : Nat) (rnd byReg : Bool),
    let x := s.engs[e]
    let u := s.retireFree e false false
    let n := gCount e
    let a := s.gGet e s1
    let b := s.gGet e s2
    let A := a.toInt
    let B := b.toInt
    let beyond := fun (v : Int) => decide (v < -(2 : Int) ^ 35) || decide ((2 : Int) ^ 35 ≤ v)
    let sat := fun (v : Int) => BitVec.ofInt 36 (clamp (-(2 : Int) ^ 35) ((2 : Int) ^ 35 - 1) v)
    let sat88 := fun (v : Int) => BitVec.ofInt 88 (clamp (-(2 : Int) ^ 87) ((2 : Int) ^ 87 - 1) v)
    let after := fun (cw : Word) (y : Engine → Engine) => { u with engs := u.engs.set e { y u.engs[e] with pc := x.pc + 1, cache := (s.cacheFill e x.pc cw).engs[e].cache } }
    let does := fun (c : Instr) (y : Engine → Engine) => gives c s (fun t => ∃ cw, t = after cw y)
    let puts := fun (v : Int) (cf vf : Bool) (y : Engine) => { y with g := y.g.set (gPhys (isPe e) (s.rot e) d) (sat v), flags := { z := v == 0, n := decide (v < 0), c := cf, v := vf, s := x.flags.s || beyond v } }
    let flags := fun (v : Int) (cf vf : Bool) (y : Engine) => { y with flags := { z := v == 0, n := decide (v < 0), c := cf, v := vf, s := x.flags.s } }
    let acc := fun (v : Int) (y : Engine) => { y with acc := y.acc.set (accIx d) (sat88 v) }
    let plain := fun (c : Instr) (v : Int) => does c (puts v false false)
    let k := if byReg then (s.gGet e amt).toNat % 64 else amt
    let shifts := fun (c : Instr) (v : Int) (out : Option Bool) => gives c s (fun t =>
      (∀ o, out = some o → t.engs[e].flags.c = o ∧ t.serial = s.serial) ∧
      ∃ cw, t = { after cw (puts v t.engs[e].flags.c (beyond v)) with serial := t.serial })
    let A1 := (s.aGet e s1).toInt
    let A0 := (s.aGet e d).toInt
    let field := if f = 0 then 35 else if f = 1 then 34 else if f = 2 then 0 else 36
    s.engIdle e = true → s.cachedWord e x.pc = none → progOk e x.pc = true → s.bodyEnd e x.pc = false → s.gateShut e x.pc (x.pc + 1) = false →
    (d < n → s1 < n → s2 < n →
      does (.insAdd e d s1 s2) (puts (A + B) (decide (2 ^ 36 ≤ a.toNat + b.toNat)) (beyond (A + B))) ∧
      does (.insSub e d s1 s2) (puts (A - B) (decide (a.toNat < b.toNat)) (beyond (A - B))) ∧
      plain (.insAnd e d s1 s2) (a &&& b).toInt ∧ plain (.insOr e d s1 s2) (a ||| b).toInt ∧ plain (.insXor e d s1 s2) (a ^^^ b).toInt ∧
      plain (.insAndn e d s1 s2) (a &&& ~~~b).toInt ∧ plain (.insMin e d s1 s2) (if A ≤ B then A else B) ∧ plain (.insMax e d s1 s2) (if A ≤ B then B else A) ∧
      plain (.insAbs e d s1) (if A < 0 then -A else A) ∧ plain (.insNeg e d s1) (-A) ∧ plain (.insMov e d s1) A ∧ plain (.insNot e d s1) (-A - 1) ∧
      does (.insCmp e s1 s2) (flags (A - B) (decide (a.toNat < b.toNat)) (beyond (A - B))) ∧
      does (.insTst e s1 s2) (flags (a &&& b).toInt false false)) ∧
    (d < n → s1 < n → (if byReg then amt < n else amt < 36) →
      shifts (.insAsl e d s1 byReg amt) (A * 2 ^ k) (if k = 0 then none else some (decide (k ≤ 36) && bit a.toNat (36 - k))) ∧
      shifts (.insAsr e d s1 byReg amt) (A / (2 : Int) ^ k) (if k = 0 then none else some (bit a.toNat (min (k - 1) 35))) ∧
      shifts (.insLsr e d s1 byReg amt) (a >>> k).toInt (if k = 0 then none else some (decide (k ≤ 36) && bit a.toNat (k - 1))) ∧
      shifts (.insRol e d s1 byReg amt) (a <<< (k % 36) ||| a >>> (36 - k % 36)).toInt (if k % 36 = 0 then none else some (bit a.toNat (36 - k % 36)))) ∧
    (d < accCount e →
      does (.insClr e d) (acc 0) ∧ does (.insNega e d) (acc (-A0)) ∧ does (.insAbsa e d) (acc (if A0 < 0 then -A0 else A0)) ∧
      (s1 < n → does (.insLda e d s1) (acc (A * 2 ^ 35)) ∧ does (.insLdai e d s1) (acc A)) ∧
      (s1 < accCount e → does (.insAdda e d s1) (acc (A0 + A1)) ∧ does (.insSuba e d s1) (acc (A0 - A1))) ∧
      (amt < 64 → does (.insShla e d amt) (acc (A0 * 2 ^ amt)) ∧ does (.insShra e d amt) (acc (A0 / (2 : Int) ^ amt)))) ∧
    (d < n → s1 < accCount e → f < 4 →
      plain (.insMva e d s1 f rnd) (if rnd then divRound A1 (2 ^ field) else A1 / (2 : Int) ^ field)) ∧
    (d < n → s1 < n →
      (d + 1 < n → does (.insSincos e d s1) (fun y =>
        let y1 := puts (sinRaw false a) false false y
        { y1 with
          g := y1.g.set (gPhys (isPe e) (s.rot e) (d + 1)) (sat (sinRaw true a))
          flags := { y1.flags with s := y1.flags.s || beyond (sinRaw true a) } })) ∧
      gives (.insNorm e d s1) s (fun t =>
        let v := (t.gGet e d).toNat
        v ≤ 35 ∧ (∀ i, i < v → bit a.toNat (34 - i) = a.msb) ∧ (v < 35 → bit a.toNat (34 - v) ≠ a.msb) ∧ ∃ cw, t = after cw (puts v false false)) ∧
      (s2 < n → gives (.insDiv e d s1 s2) s (fun t =>
        let v := (t.gGet e d).toInt
        let big := decide (B.natAbs ≤ A.natAbs) || b == 0
        (big = false → ((v * B - A * 2 ^ 35).natAbs < B.natAbs)) ∧
        (b = 0 → v = (if A < 0 then -(2 : Int) ^ 35 else 2 ^ 35 - 1)) ∧
        (b ≠ 0 → big = true → v = (if (A < 0) ↔ (B < 0) then (2 : Int) ^ 35 - 1 else -2 ^ 35)) ∧
        ∃ cw, t = after cw (fun y => let z := puts v false false y; { z with flags := { z.flags with s := x.flags.s || big } }))) ∧
      gives (.insSqrt e d s1) s (fun t =>
        let v := (t.gGet e d).toInt
        (A < 0 → v = 0) ∧ (0 ≤ A → 0 ≤ v ∧ (v * v = A * 2 ^ 35 ∨ ((v - 1) * (v - 1) < A * 2 ^ 35 ∧ A * 2 ^ 35 < (v + 1) * (v + 1)))) ∧
        ∃ cw, t = after cw (fun y => let z := puts v false false y; { z with flags := { z.flags with s := x.flags.s || decide (A < 0) } })))

/-- R198, R202, R225, R227-R230, R236-R239: each multiply-accumulate combines the exact product with its accumulator, or with four of
them, stores what stood before it, loads at the end, and advances the pointers that it uses; LD and ST reach the RAMs and what lies
beyond, MOVS the special registers, PSET and PMODE a pointer, PRD and PWR the program memory. Completes here (exec answers the next
state described, from every state and with every operand that meet the hypotheses): insMove, insMpy, insMac, insMsu, insMacsu,
insMacuu, insMaca, insLmove, insLmpy, insLmac, insLmsu, insMovs, insLd, insSt, insPset, insPmode, insPrd, insPwr. -/
def Obligations.EngineMemory : Prop :=
  ∀ (s : State) (e : Fin 13) (d acc s1 s2 co xm ym c ptr am mode first last left : Nat) (off : BitVec 18) (addr : BitVec 24) (inc : BitVec 11) (len : BitVec 12)
    (ybus k1 rotf : Bool) (p : Ptr) (j : Fin 13) (rest : List LoopEnt),
    let x := s.engs[e]
    let pc := x.pc
    let n := gCount e
    let pe := isPe e
    let ph := gPhys pe (s.rot e)
    let G := s.gGet e
    let cache := fun (cw : Word) => (s.cacheFill e pc cw).engs[e].cache
    let goes := fun (cw : Word) (u : State) (y : Engine) => { u with engs := u.engs.set e { y with pc := pc + 1, cache := cache cw } }
    let beyond := fun (v : Int) => decide (v < -(2 : Int) ^ 35) || decide ((2 : Int) ^ 35 ≤ v)
    let sat := fun (v : Int) => BitVec.ofInt 36 (clamp (-(2 : Int) ^ 35) ((2 : Int) ^ 35 - 1) v)
    let over88 := fun (v : Int) => decide (v < -(2 : Int) ^ 87) || decide ((2 : Int) ^ 87 ≤ v)
    let sat88 := fun (v : Int) => BitVec.ofInt 88 (clamp (-(2 : Int) ^ 87) ((2 : Int) ^ 87 - 1) v)
    let inRam := fun (yb : Bool) (a w : Nat) => ∀ i, i < w → a + i < (if pe then 0x8000 else 0x2000) ∧ s.dataTrap e yb (a + i) = none
    let steps := fun (q : Nat) (v : Vector Ptr 18) => v.set (ptrIx q) v[ptrIx q].step
    let u := s.retireFree e false false
    let ue := u.engs[e]
    let macs := fun (lane : Bool) (cmd : Instr) (comb : Option (Int → Word → Word → Int)) =>
      let w := if lane then 4 else 1
      let moves := fun (m : Nat) => m = 0 ∨ (64 ≤ m ∧ m < 256 ∧ (lane = true → 192 ≤ m → bit m 1 = false))
      let xo := xm / 64
      let yo := ym / 64
      let xp := xm / 8 % 8
      let yp := 8 + ym / 8 % 8
      let kp := 15 + co
      let xa := s.pAddr e xp
      let ya := s.pAddr e yp
      let xg := if lane then 32 + 4 * (xm % 8) else 16 + xm % 8
      let yg := if lane then 32 + 4 * (ym % 8) else 24 + ym % 8
      let both := lane = true ∧ xo = 1 ∧ yo = 1 ∧ xg = yg
      let coef := s.progWord e (s.pAddr e kp)
      let lanes := if lane then (List.range 4).map (fun l => (4 * acc + l, 32 + (s1 + l) % 32, 32 + (s2 + l) % 32)) else [(acc, s1, s2)]
      let value := fun (h : Int → Word → Word → Int) (l : Nat × Nat × Nat) => h (s.aGet e l.1).toInt (G l.2.1) (if co = 0 then G l.2.2 else coef)
      let field := fun (i : Nat) (low : Bool) => if low then (s.aGet e i).toInt else divRound (s.aGet e i).toInt (2 ^ 35)
      let vals := fun (o r gr : Nat) => if o = 2 then (List.range w).map (fun l => (G (gr + l)).toInt)
        else if lane then (List.range 4).map (fun l => field (4 * (r / 4) + l) (bit r 0)) else [field (r / 2) (bit r 0)]
      let stores := fun (yb : Bool) (o r gr a : Nat) => if 2 ≤ o then [({ ybus := yb, addr := a, words := (vals o r gr).map sat } : StoreEnt)] else []
      let overs := (decide (2 ≤ xo) && (vals xo (xm % 8) xg).any beyond) || (decide (2 ≤ yo) && (vals yo (ym % 8) yg).any beyond)
      (lane = true → pe = true) → moves xm → moves ym → x.sbuf = [] → (xo ≠ 0 → inRam false xa w) → (yo ≠ 0 → inRam true ya w) → (co ≠ 0 → progOk e (s.pAddr e kp) = true) →
      gives cmd s (fun t =>
        (¬ both → t.serial = s.serial ∧ (∀ l, l < w →
          (xo = 1 → t.engs[e].g[ph (xg + l)] = s.ramGet e 1 (xa + l)) ∧ (yo = 1 → t.engs[e].g[ph (yg + l)] = s.ramGet e 2 (ya + l)))) ∧
        (∀ j : Fin 64, (∀ l, l < w → (xo = 1 → ph (xg + l) ≠ j) ∧ (yo = 1 → ph (yg + l) ≠ j)) → t.engs[e].g[j] = x.g[j]) ∧
        (let ptrs := (if xo = 0 then x.ptr else steps xp x.ptr)
         let ptrs := (if yo = 0 then ptrs else steps yp ptrs)
         let ptrs := (if co = 0 then ptrs else steps kp ptrs)
         let accs := match comb with
           | some h => lanes.foldl (fun v l => v.set (accIx l.1) (sat88 (value h l))) x.acc
           | none => x.acc
         let first := fun (h : Int → Word → Word → Int) => value h (lanes.headD (0, 0, 0))
         let flags := match comb with
           | some h => { x.flags with z := first h == 0, n := decide (first h < 0), v := over88 (first h), s := x.flags.s || overs }
           | none => { x.flags with s := x.flags.s || overs }
         ∃ cw, t = goes cw { s with serial := t.serial } { x with g := t.engs[e].g, ptr := ptrs, acc := accs, flags := flags, sbuf := stores false xo (xm % 8) xg xa ++ stores true yo (ym % 8) yg ya }))
    let a := if am ≤ 1 then s.pAddr e (ptr + 8 * b2n ybus) else if am = 2 then (((s.pAddr e (ptr + 8 * b2n ybus) : Nat) + off.toInt) % 2 ^ 24).toNat else off.toNat
    let ptrs := if am = 0 then steps (ptr + 8 * b2n ybus) x.ptr else x.ptr
    let v := s.retireFree e (!ybus) ybus
    let px := x.ptr[ptrIx ptr]
    let guard := fun (w : BitVec 88) => w.toNat / 2 ^ 72
    let part := fun (w : BitVec 88) => if c % 4 = 0 then BitVec.ofNat 36 w.toNat else if c % 4 = 1 then BitVec.ofNat 36 (w.toNat / 2 ^ 36) else BitVec.ofInt 36 (w.toInt / (2 : Int) ^ 72)
    let stands := s.engIdle e = true ∧ s.cachedWord e pc = none ∧ progOk e pc = true ∧ s.bodyEnd e pc = false ∧ s.gateShut e pc (pc + 1) = false
    (stands → acc < 4 → s1 < 32 → s2 < 32 → co < 3 → co = 0 ∨ s2 = 0 →
      macs false (.insMpy e acc s1 s2 co xm ym) (some (fun _ a b => a.toInt * b.toInt)) ∧
      macs false (.insMac e acc s1 s2 co xm ym) (some (fun q a b => q + a.toInt * b.toInt)) ∧
      macs false (.insMsu e acc s1 s2 co xm ym) (some (fun q a b => q - a.toInt * b.toInt)) ∧
      macs false (.insMacsu e acc s1 s2 co xm ym) (some (fun q a b => q + a.toNat * b.toInt)) ∧
      macs false (.insMacuu e acc s1 s2 co xm ym) (some (fun q a b => q + a.toNat * b.toNat)) ∧
      macs false (.insMaca e acc s1 s2 co xm ym) (some (fun q a b => q / (2 : Int) ^ 36 + a.toInt * b.toInt)) ∧
      (acc < 2 →
        macs true (.insLmpy e acc s1 s2 co xm ym) (some (fun _ a b => a.toInt * b.toInt)) ∧
        macs true (.insLmac e acc s1 s2 co xm ym) (some (fun q a b => q + a.toInt * b.toInt)) ∧
        macs true (.insLmsu e acc s1 s2 co xm ym) (some (fun q a b => q - a.toInt * b.toInt)))) ∧
    (stands → co = 0 → macs false (.insMove e xm ym) none ∧ macs true (.insLmove e xm ym) none) ∧
    (stands → d < n → ptr < 8 → am < 4 → (am < 2 → off = 0) → (am = 3 → ptr = 0) →
      (inRam ybus a 1 →
        gives (.insLd e d ybus ptr am off) s (fun t =>
          ∃ cw, t = goes cw v { v.engs[e] with g := x.g.set (ph d) (s.ramSee e ybus a), ptr := ptrs }) ∧
        gives (.insSt e d ybus ptr am off) s (fun t => x.sbuf.length ≤ 4 →
          ∃ cw, t = goes cw u { ue with ptr := ptrs, sbuf := x.sbuf.tail ++ [{ ybus := ybus, addr := a, words := [G d] }] })) ∧
      (ybus = false → 0x40000 ≤ a → a < 0x80000 →
        (worldAllows (s.storeWorld (a - 0x40000)) (s.secure (engReq e)) false = true → gives (.insLd e d ybus ptr am off) s (fun t =>
          ∃ cw, t = goes cw v { v.engs[e] with g := x.g.set (ph d) (s.storeGet (a - 0x40000)), ptr := ptrs })) ∧
        (worldAllows (s.storeWorld (a - 0x40000)) (s.secure (engReq e)) true = true → x.sbuf.length ≤ 1 → gives (.insSt e d ybus ptr am off) s (fun t =>
          ∃ cw, t = goes cw (u.storePut (a - 0x40000) (G d)) { ue with ptr := ptrs }))) ∧
      (ybus = true → 0x400000 ≤ a → engReach e (8 * (a - 0x400000)) = true → am ≠ 0 → x.sbuf.length ≤ 1 →
        gives (.insLd e d ybus ptr am off) s (fun t =>
          ∃ cw, let q := ((s.cacheFill e pc cw).retireFree e false true).slotRead (engReq e) (8 * (a - 0x400000))
          t = (q.2.gSet e d q.1).flow e pc .next) ∧
        gives (.insSt e d ybus ptr am off) s (fun t => ∃ cw, t = (((s.cacheFill e pc cw).retireFree e false false).slotWrite (engReq e) (8 * (a - 0x400000)) (G d)).flow e pc .next))) ∧
    (stands → d < n →
      (c < 18 → gives (.insMovs e d c false) s (fun t => ∃ cw, t = goes cw u { ue with g := x.g.set (ph d) (BitVec.ofNat 36 (s.pAddr e c)) }) ∧
        gives (.insMovs e d c true) s (fun t => ∃ cw, t = goes cw u { ue with ptr := x.ptr.set (ptrIx c) { x.ptr[ptrIx c] with addr := (G d).setWidth 24 } })) ∧
      (pe = false → gives (.insMovs e d 18 false) s (fun t => ∃ cw, t = goes cw u { ue with g := x.g.set (ph d) (BitVec.ofNat 36 (s.rot e)) }) ∧
        gives (.insMovs e d 18 true) s (fun t => t.rot e = (G d).toNat % 16 ∧ (∃ cw, changes s t (goes cw u ue) [(engPg e, 0x58)]))) ∧
      gives (.insMovs e d 19 false) s (fun t =>
        ∃ cw, t = goes cw u { ue with g := x.g.set (ph d) (BitVec.ofNat 36 (b2n x.flags.s * 16 + b2n x.flags.v * 8 + b2n x.flags.c * 4 + b2n x.flags.n * 2 + b2n x.flags.z)) }) ∧
      gives (.insMovs e d 19 true) s (fun t =>
        let b := fun (i : Nat) => (G d).getLsbD i
        ∃ cw, t = goes cw u { ue with flags := { z := b 0, n := b 1, c := b 2, v := b 3, s := b 4 } }) ∧
      (x.stack = .loop first last left rotf :: rest → gives (.insMovs e d 20 false) s (fun t =>
        ∃ cw, t = goes cw u { ue with g := x.g.set (ph d) (BitVec.ofNat 36 left) })) ∧
      (x.stack = [] → gives (.insMovs e d 20 false) s (fun t =>
        ∃ cw, t = goes cw { u with serial := t.serial } { ue with g := x.g.set (ph d) (t.gGet e d) })) ∧
      gives (.insMovs e d 21 false) s (fun t => ∃ cw, t = goes cw u { ue with g := x.g.set (ph d) (BitVec.ofNat 36 x.stack.length) }) ∧
      (24 ≤ c → c < 24 + 4 * accCount e → c % 4 ≠ 3 →
        let q := s.aGet e ((c - 24) / 4)
        gives (.insMovs e d c false) s (fun t => ∃ cw, t = goes cw u { ue with g := x.g.set (ph d) (part q) }) ∧
        gives (.insMovs e d c true) s (fun t =>
          let q' := t.aGet e ((c - 24) / 4)
          (c % 4 = 0 → q'.toNat % 2 ^ 36 = (G d).toNat ∧ q'.toNat / 2 ^ 36 = q.toNat / 2 ^ 36) ∧
          (c % 4 = 1 → q'.toNat / 2 ^ 36 % 2 ^ 36 = (G d).toNat ∧ q'.toNat % 2 ^ 36 = q.toNat % 2 ^ 36 ∧ guard q' = guard q) ∧
          (c % 4 = 2 → guard q' = (G d).toNat % 2 ^ 16 ∧ q'.toNat % 2 ^ 72 = q.toNat % 2 ^ 72) ∧
          ∃ cw, t = goes cw u { ue with acc := x.acc.set (accIx ((c - 24) / 4)) q' }))) ∧
    (stands → ptr < 18 →
      gives (.insPset e ptr addr) s (fun t => ∃ cw, t = goes cw u { ue with ptr := x.ptr.set (ptrIx ptr) { px with addr := addr } }) ∧
      ((mode = 0 ∧ len = 0) ∨ mode = 1 ∨ (mode = 2 ∧ 1 ≤ len.toNat ∧ len.toNat ≤ 12) → gives (.insPmode e ptr mode inc len) s (fun t =>
        ∃ cw, t = goes cw u { ue with ptr := x.ptr.set (ptrIx ptr) { px with mode := (if mode = 0 then .linear else if mode = 1 then .modulo else .bitrev), inc := inc, len := len } }))) ∧
    (stands → d < n →
      let kp := if k1 then 17 else 16
      let at_ := s.pAddr e kp
      (progOk e at_ = true → gives (.insPrd e d k1) s (fun t =>
        ∃ cw, t = goes cw u { ue with g := x.g.set (ph d) (s.progWord e at_), ptr := steps kp x.ptr })) ∧
      (progRam e at_ = true → gives (.insPwr e d k1) s (fun t =>
        (∀ j, t.ramGet e 0 j = (if j = at_ then G d else s.ramGet e 0 j)) ∧
        t = { u with engs := u.engs.set e { ue with pmem := t.engs[e].pmem, ptr := steps kp x.ptr, pc := pc + 1, cache := t.engs[e].cache } }))) ∧
    (let m := p.len.toNat + 1
     let blk := 2 ^ j.val
     let q := p.addr.toNat
     (p.mode = .linear → p.step = { p with addr := BitVec.ofInt 24 (q + p.inc.toInt) }) ∧
     (p.mode = .modulo → m ≤ blk → blk < 2 * m →
       p.step = { p with addr := BitVec.ofNat 24 (q / blk * blk + (((q % blk : Nat) + p.inc.toInt) % (m : Int)).toNat) }) ∧
     (p.mode = .bitrev → 1 ≤ p.len.toNat → p.len.toNat ≤ 12 →
       p.step.addr.toNat / 2 ^ p.len.toNat = q / 2 ^ p.len.toNat ∧
       revBits p.len.toNat p.step.addr.toNat = (revBits p.len.toNat q + revBits p.len.toNat (p.inc.toInt % (2 : Int) ^ p.len.toNat).toNat) % 2 ^ p.len.toNat ∧
       p.step = { p with addr := p.step.addr }))

/-- R81, R223, R224, R239, R240, R242-R246: POP, PUSH, OCC and CRED reach the queues that R240's table names, a refused one with C 0;
a wait ends at once where its condition holds or its limit is zero or below, else it waits for its end. Branches, calls and returns
move control, a call to the ROM entry table runs its kernel for the running task's slot (the model's choice, log 65) and returns; a
loop runs its body COUNT times, BREAK leaves it, REPEAT executes the next instruction n times (stated of ADD) and TEND ends the task;
each fault of these rules traps with its cause before any effect. Completes here (exec answers the next state described, from every
state and with every operand that meet the hypotheses): undefinedOpcode, reservedEncodingTrap, insPop, insPush, insWaitp, insWaitc,
insQueueWaitEnd, insOcc, insCred, insBr, insCall, insRet, insJr, insCallr, insLoop, insBreak, insRepeat, insTend, insNop. -/
def Obligations.EngineFlow : Prop :=
  ∀ (s : State) (e : Fin 13) (g qc cond s1 s2 d cnt len : Nat) (target : BitVec 20) (rotf csrc : Bool) (w : Word) (q : QId) (first last left back : Nat)
    (rest : List LoopEnt) (h : List Word) (more : List (List Word)) (v : Saved) (k : Fin 12) (i : Fin 4) (n : Fin 48),
    let x := s.engs[e]
    let pc := x.pc
    let u := s.retireFree e false false
    let pe := isPe e
    let size := if pe then 16 else 8
    let ph := gPhys pe (s.rot e)
    let G := s.gGet e
    let f := x.flags
    let cache := fun (cw : Word) => (s.cacheFill e pc cw).engs[e].cache
    let goes := fun (cw : Word) (y : Engine) => { u with engs := u.engs.set e { y with pc := pc + 1, cache := cache cw } }
    let jumps := fun (t : State) (dest : Nat) (st : List LoopEnt) (left : Bool) => ∃ cw, t = { u with engs := u.engs.set e { u.engs[e] with pc := dest, stack := st, cache := if left then [] else cache cw } }
    let holds := [true, f.z, !f.z, f.n, !f.n, !f.n && !f.z, f.n || f.z, f.c, !f.c, f.v, !f.v, f.s].getD cond false
    let open_ := fun (dest : Nat) => progOk e dest = true ∧ s.gateShut e pc dest = false ∧ (pe = true ∨ x.running = none ∨ dest < 0x8010 ∨ 0x8015 < dest)
    let entry := fun (c : Instr) (kernel : Fin 48 → Instr) =>
      gives c s (fun t => ∃ cw, exec (kernel (axOf k (s.taskSlot e))) (goes cw u.engs[e]) = .next t)
    let kept := fun (dest : Nat) => x.stack.dropWhile (fun l => match l with
      | .loop a b _ _ => !(decide (a ≤ dest) && decide (dest ≤ b))
      | .ret _ => false)
    let traps := fun (c : Instr) (cause : Nat) => gives c s (fun t => t = s.trap e cause pc)
    let regs := fun (l : List Word) => (l.zipIdx).foldl (fun v y => v.set (ph (g + y.2)) y.1) x.g
    let words := (List.range (qWords q)).map (fun j => G (g + j))
    let room := g + qWords q ≤ gCount e
    let queued := fun (t : State) (l : List (List Word)) (y : Engine) (c : Bool) =>
      t.qGet q = l ∧ keepsQueues s t [q] ∧ t.get (qStatReg q).1 (qOcc q) = l.length ∧
      ∃ cw, changes s t { goes cw { y with flags := { f with c := c } } with queues := t.queues } [qStatReg q]
    let refused := fun (t : State) (cnt : Fld) =>
      t.get (qStatReg q).1 cnt = min 1023 (s.get (qStatReg q).1 cnt + 1) ∧ (∀ q', t.qGet q' = s.qGet q') ∧
      ∃ cw, changes s t { goes cw { u.engs[e] with flags := { f with c := false } } with queues := t.queues } [qStatReg q]
    let sets := fun (c : Instr) (v : Bool) => gives c s (fun t => ∃ cw, t = goes cw { u.engs[e] with flags := { f with c := v } })
    let ready := fun (credit : Bool) => if credit then (s.qGet q).length < qDepth q else s.qGet q ≠ []
    let waits := fun (c : Instr) (credit : Bool) =>
      (ready credit → sets c true) ∧ (¬ ready credit → (G g).toInt ≤ 0 → sets c false) ∧
      (¬ ready credit → 0 < (G g).toInt → gives c s (fun t => ∃ cw, t = { u with engs := u.engs.set e { u.engs[e] with waiting := some (credit, qc), cache := cache cw } }))
    let ends := fun (l : List LoopEnt) (a : Nat) => match l with
      | .loop _ b _ _ :: _ => b == a
      | _ => false
    let returns := match x.stack with
      | .ret _ :: _ => true
      | _ => false
    let count : Int := if csrc then (G cnt).toInt else cnt
    let idle := s.engIdle e = true ∧ s.cachedWord e pc = none ∧ progOk e pc = true
    let stands := idle ∧ s.bodyEnd e pc = false
    let on := s.gateShut e pc (pc + 1) = false
    ((engQueue (engOf k) false i.val = some (.pq (axOf k i))) ∧ engQueue (engOf k) false (4 + i.val) = some (.fq (axOf k i)) ∧
      engQueue (engOf k) false 8 = some (.cq k) ∧ engQueue (engOf k) true i.val = some (.dq (axOf k i)) ∧
      engQueue (engOf k) true (4 + i.val) = some (.oq (axOf k i)) ∧ engQueue peIx false n.val = some (.oq n) ∧ engQueue peIx true n.val = some (.mq n)) ∧
    (stands → on → s.queuesFresh → engQueue e false qc = some q →
      (room → s.qGet q = h :: more → h.length = qWords q → gives (.insPop e g qc) s (fun t => queued t more { u.engs[e] with g := regs h } true)) ∧
      (room → s.qGet q = [] → gives (.insPop e g qc) s (fun t => refused t (qEmptyPop q))) ∧
      (g < gCount e → waits (.insWaitp e g qc) false ∧ gives (.insOcc e g qc) s (fun t =>
        ∃ cw, t = goes cw { u.engs[e] with g := x.g.set (ph g) (BitVec.ofNat 36 (s.qGet q).length), flags := { f with c := true } }))) ∧
    (stands → on → s.queuesFresh → engQueue e true qc = some q →
      (room → (s.qGet q).length < qDepth q → gives (.insPush e g qc) s (fun t => queued t (s.qGet q ++ [words]) u.engs[e] true)) ∧
      (room → qDepth q ≤ (s.qGet q).length → (∀ a, q = .dq a → s.axKernel a = false ∧ s.dpLive a = false) → gives (.insPush e g qc) s (fun t => refused t (qFullPush q))) ∧
      (g < gCount e → waits (.insWaitc e g qc) true ∧ gives (.insCred e g qc) s (fun t =>
        ∃ cw, t = goes cw { u.engs[e] with g := x.g.set (ph g) (BitVec.ofNat 36 (qDepth q - (s.qGet q).length)), flags := { f with c := true } }))) ∧
    (s.engRuns e = true → s.queuesFresh → x.waiting = some (csrc, qc) → engQueue e csrc qc = some q → s.bodyEnd e pc = false → on → gives (.insQueueWaitEnd e) s (fun t =>
      t = { s with engs := s.engs.set e { x with waiting := none, flags := { f with c := decide (ready csrc) }, pc := pc + 1 } })) ∧
    (stands → cond < 12 →
      (holds = false → on →
        gives (.insBr e cond target) s (fun t => ∃ cw, t = goes cw u.engs[e]) ∧ gives (.insCall e cond target) s (fun t => ∃ cw, t = goes cw u.engs[e]) ∧
        gives (.insBreak e cond) s (fun t => ∃ cw, t = goes cw u.engs[e])) ∧
      (holds = true →
        (open_ target.toNat → gives (.insBr e cond target) s (fun t => jumps t target.toNat (kept target.toNat) (decide ((kept target.toNat).length < x.stack.length))) ∧
          (x.stack.length < size → gives (.insCall e cond target) s (fun t => jumps t target.toNat (.ret (pc + 1) :: x.stack) false)) ∧
          (size ≤ x.stack.length → traps (.insCall e cond target) 6)) ∧
        (e = engOf k → x.running.isSome = true → x.stack.length < size → s.gateShut e pc target.toNat = false →
          (target.toNat = 0x8012 → entry (.insCall e cond target) .servoTask) ∧
          (target.toNat = 0x8013 → entry (.insCall e cond target) .stepperLoopTask)) ∧
        (progOk e target.toNat = false → traps (.insBr e cond target) 4 ∧ traps (.insCall e cond target) 4) ∧
        (x.stack = .loop first last left rotf :: rest → s.gateShut e pc (last + 1) = false → ends rest last = false →
          gives (.insBreak e cond) s (fun t =>
            t = { u with engs := u.engs.set e { u.engs[e] with pc := last + 1, stack := rest, cache := [] } })) ∧
        (x.stack = [] → traps (.insBreak e cond) 6))) ∧
    (stands →
      (x.stack = .ret back :: rest → open_ back → gives (.insRet e) s (fun t => jumps t back rest false)) ∧
      (returns = false → traps (.insRet e) 6) ∧
      (s1 < gCount e →
        let dest := (G s1).toNat % 2 ^ 20
        open_ dest → gives (.insJr e s1) s (fun t => jumps t dest (kept dest) (decide ((kept dest).length < x.stack.length))) ∧
          (x.stack.length < size → gives (.insCallr e s1) s (fun t => jumps t dest (.ret (pc + 1) :: x.stack) false))) ∧
      (on → 1 ≤ len → len < 65536 → (rotf = true → pe = false) → (if csrc then cnt < gCount e else 1 ≤ cnt ∧ cnt < 4096) →
        (0 < count → x.stack.length < size → gives (.insLoop e rotf csrc cnt len) s (fun t =>
          t = { u with engs := u.engs.set e { u.engs[e] with pc := pc + 1, cache := [], stack := .loop (pc + 1) (pc + len) count.toNat rotf :: x.stack } })) ∧
        (0 < count → size ≤ x.stack.length → traps (.insLoop e rotf csrc cnt len) 6) ∧
        (count ≤ 0 → s.bodyEnd e (pc + len) = false → s.gateShut e pc (pc + len + 1) = false → gives (.insLoop e rotf csrc cnt len) s (fun t =>
          ∃ cw, t = { u with engs := u.engs.set e { u.engs[e] with pc := pc + len + 1, cache := cache cw } })))) ∧
    (idle → x.stack = .loop first pc left rotf :: rest →
      ((1 < left → s.gateShut e pc first = false → gives (.insNop e) s (fun t =>
        (rotf = true → pe = false → t.rot e = (s.rot e + 1) % 16) ∧ (rotf = false → t.rot e = s.rot e) ∧
        ∃ cw, changes s t { u with engs := u.engs.set e { u.engs[e] with pc := first, cache := cache cw, stack := .loop first pc (left - 1) rotf :: rest } } [(engPg e, 0x58)])) ∧
       (left ≤ 1 → on → ends rest pc = false → gives (.insNop e) s (fun t =>
        (rotf = true → pe = false → t.rot e = (s.rot e + 1) % 16) ∧ (rotf = false → t.rot e = s.rot e) ∧
        changes s t { u with engs := u.engs.set e { u.engs[e] with pc := pc + 1, cache := [], stack := rest } } [(engPg e, 0x58)])) ∧
       traps (.insTend e) 2)) ∧
    (stands → pe = true → x.sbuf = [] → d < 64 → s1 < 64 → s2 < 64 → 1 ≤ cnt → cnt < 4096 → open_ (pc + 1) → s.gateShut e (pc + 1) (pc + 2) = false → s.bodyEnd e (pc + 1) = false →
      (decodeW e (s.fetch e (pc + 1)) = .ins (.alu .add d d s2) → d ≠ s2 → (G d).toInt.natAbs + cnt * (G s2).toInt.natAbs < 2 ^ 35 →
        gives (.insRepeat e false cnt) s (fun t =>
          let v := (G d).toInt + cnt * (G s2).toInt
          t = { s with engs := s.engs.set e { x with g := x.g.set (ph d) (BitVec.ofInt 36 v), flags := { z := v == 0, n := decide (v < 0), c := t.engs[e].flags.c, v := false, s := f.s }, pc := pc + 2, cache := t.engs[e].cache } })) ∧
      (decodeW e (s.fetch e (pc + 1)) = .ins .nop → traps (.insRepeat e false cnt) 2)) ∧
    (stands → pe = true → cnt < 64 → (G cnt).toInt ≤ 0 → s.bodyEnd e (pc + 1) = false → s.gateShut e pc (pc + 2) = false → gives (.insRepeat e true cnt) s (fun t =>
      ∃ cw, t = { u with engs := u.engs.set e { u.engs[e] with pc := pc + 2, cache := cache cw } })) ∧
    (stands → x.running.any (fun r => decide (r.deadline < 2 * s.now)) = false →
      (x.saved = none → gives (.insTend e) s (fun t => ∃ cw, t = { u with engs := u.engs.set e { u.engs[e] with running := none, stack := [], cache := cache cw } })) ∧
      (x.saved = some v → gives (.insTend e) s (fun t =>
        ∃ cw, t = { u with engs := u.engs.set e { u.engs[e] with running := v.task, pc := v.pc, flags := v.flags, stack := v.stack, saved := none, cache := cache cw } }))) ∧
    (s.engIdle e = true →
      (let op := fld w 35 30
       op = 0 ∨ (0xC ≤ op ∧ op ≤ 0xF) ∨ 0x2A ≤ op ∨ (pe = false ∧ ((8 ≤ op ∧ op ≤ 0xB) ∨ op = 0x26)) → traps (.undefinedOpcode e w) 1) ∧
      (decodeW e w = .reserved → traps (.reservedEncodingTrap e w) 2) ∧
      (progOk e pc = false → s.cachedWord e pc = none → traps (.insNop e) 4) ∧
      (idle → pe = false → traps (.insRepeat e csrc cnt) 1) ∧
      (idle → gCount e ≤ d → traps (.insAdd e d s1 s2) 2))

/-- R235: LDI writes the sign-extended IMM to G(D); LDIH replaces its bits 35:24, and an IMM with a bit above 11 is a reserved
encoding; ADDI adds the sign-extended IMM, saturating; CMPI sets the flags of the difference; LDI and then LDIH build any 36-bit
constant. R247, R199: HBEAT adds one to an axis engine's heartbeat count, or beats PE's line to the island; NOP does nothing. Both go
on to the next address, and nothing else changes beside a buffered store that retires and the repeat cache, which takes the word
where the innermost loop holds its address; from then on the word that the cache holds is the one that runs. Completes here (exec
answers the next state described, from every state and with every operand that meet the hypotheses): insLdi, insLdih, insAddi,
insCmpi, insHbeat, insNop. -/
def Obligations.EngineConstants : Prop :=
  (∀ (s : State) (e : Fin 13) (d : Nat) (imm : BitVec 24) (w : Word),
     let x := s.engs[e]
     let u := s.retireFree e false false
     let g := s.gGet e d
     let beyond := fun (v : Int) => decide (v < -(2 : Int) ^ 35) || decide ((2 : Int) ^ 35 ≤ v)
     let after := fun (cw : Word) (y : Engine → Engine) => { u with engs := u.engs.set e { y u.engs[e] with pc := x.pc + 1, cache := (s.cacheFill e x.pc cw).engs[e].cache } }
     let does := fun (c : Instr) (y : Engine → Engine) => gives c s (fun t => ∃ cw, t = after cw y)
     let puts := fun (v : Int) (cf vf : Bool) (y : Engine) => { y with g := y.g.set (gPhys (isPe e) (s.rot e) d) (BitVec.ofInt 36 (clamp (-(2 : Int) ^ 35) ((2 : Int) ^ 35 - 1) v)), flags := { z := v == 0, n := decide (v < 0), c := cf, v := vf, s := x.flags.s || beyond v } }
     s.engIdle e = true → s.cachedWord e x.pc = none → progOk e x.pc = true → s.bodyEnd e x.pc = false → s.gateShut e x.pc (x.pc + 1) = false → d < gCount e →
     does (.insLdi e d imm) (puts imm.toInt false false) ∧
     (imm.toNat < 4096 → does (.insLdih e d imm) (puts (BitVec.ofNat 36 (imm.toNat * 2 ^ 24 + g.toNat % 2 ^ 24)).toInt false false)) ∧
     (4096 ≤ imm.toNat → gives (.insLdih e d imm) s (fun t => t = s.trap e 2 x.pc)) ∧
     does (.insAddi e d imm) (puts (g.toInt + imm.toInt) (decide (2 ^ 36 ≤ g.toNat + (imm.signExtend 36).toNat)) (beyond (g.toInt + imm.toInt))) ∧
     does (.insCmpi e d imm) (fun y => { y with flags := { z := g.toInt == imm.toInt, n := decide (g.toInt < imm.toInt), c := decide (g.toNat < (imm.signExtend 36).toNat), v := beyond (g.toInt - imm.toInt), s := x.flags.s } }) ∧
     (progOk e (x.pc + 1) = true → s.bodyEnd e (x.pc + 1) = false → s.gateShut e (x.pc + 1) (x.pc + 2) = false →
       s.cachedWord e (x.pc + 1) = none → gives (.insLdi e d (w.setWidth 24)) s (fun t => gives (.insLdih e d (BitVec.ofNat 24 (w.toNat / 2 ^ 24))) t (fun v => v.gGet e d = w)))) ∧
  (∀ (s : State) (e : Fin 13) (k : Fin 12) (w : Word),
     let x := s.engs[e]
     let u := s.retireFree e false false
     let after := fun (c : Cells) => { u with engs := u.engs.set e { u.engs[e] with pc := x.pc + 1, cache := c } }
     let fills := fun (t : State) (i : EIns) => ∃ cw, decodeW e cw = .ins i ∧ t.engs[e].cache = (s.cacheFill e x.pc cw).engs[e].cache
     let count := AE.ENG_STAT.HB_CNT
     s.engIdle e = true → progOk e x.pc = true → s.bodyEnd e x.pc = false → s.gateShut e x.pc (x.pc + 1) = false →
     (s.cachedWord e x.pc = none →
       gives (.insNop e) s (fun t => fills t .nop ∧ t = after t.engs[e].cache) ∧
       (e = peIx → gives (.insHbeat e) s (fun t => fills t .hbeat ∧ t = { after t.engs[e].cache with si := { s.si with beat := true } })) ∧
       (e = engOf k → gives (.insHbeat e) s (fun t => fills t .hbeat ∧
         t.get (.ae k) count = (s.get (.ae k) count + 1) % 2 ^ (count.hi + 1 - count.lo) ∧ changes s t (after t.engs[e].cache) [(.ae k, count.off)]))) ∧
     (s.cachedWord e x.pc = some w → decodeW e w = .ins .nop → gives (.insHbeat e) s (fun t => t = after x.cache)))

/-- R80, R81, R85: a push with no credit is refused and counted as a full push, and the queue is unchanged, but where the same cycle
pops, the entry lands in the slot that frees, and nothing is counted; a pop from a queue that began its cycle empty is refused and
counted as an empty pop, whatever the cycle has pushed. -/
def Obligations.QueueRefusals : Prop :=
  ∀ (s : State) (q : QId) (entry h : List Word) (more : List (List Word)), s.queuesFresh →
    let full := fun (t : State) => t.get (qStatReg q).1 (qFullPush q)
    let empty := fun (t : State) => t.get (qStatReg q).1 (qEmptyPop q)
    let r := s.qPush q entry
    let p := s.qPop q
    (qDepth q ≤ (s.qGet q).length →
      r.1 = false ∧ full r.2 = min 1023 (full s + 1) ∧ (∀ q', r.2.qGet q' = s.qGet q') ∧
      changes s r.2 { s with queues := r.2.queues } [qStatReg q]) ∧
    (s.qGet q = [] → p.1 = none ∧ empty p.2 = min 1023 (empty s + 1) ∧ onlyWords s p.2 [qStatReg q] ∧
      (r.2.qPop q).1 = none ∧ empty (r.2.qPop q).2 = min 1023 (empty s + 1) ∧ (r.2.qPop q).2.qGet q = [entry]) ∧
    (s.qGet q = h :: more → more.length + 1 = qDepth q →
      (r.2.qPop q).1 = some h ∧ (r.2.qPop q).2.qGet q = more ++ [entry] ∧ full (r.2.qPop q).2 = full s)

/-! ### The words of the engines (R221-R223) -/

/-- R221, R222: every instruction that an engine has and that carries no reserved encoding is decoded from its word, with every field
as it was. -/
def Obligations.EngineWords : Prop :=
  ∀ (e : Fin 13) (i : EIns), i.valid e = true → (i.peOnly = true → isPe e = true) → decodeW e i.word = .ins i

/-! ### The machine -/

/-- A step with a command at the front of the queue is that command's effect with the queue's rest; on an empty queue one tick passes
(the model's choice, log entry 2): TIME's count C, once released, advances by one and, while the derived clocks run, a correction
that waited comes into force and each engine's store buffer retires its two oldest stores. -/
def Obligations.StepTakesFront : Prop :=
  ∀ (s : State) (c : Instr) (rest : List Instr),
    (s.pending = c :: rest → step s = exec c { s with pending := rest }) ∧
    (s.pending = [] → ∃ t, step s = .next t ∧ t.now = s.now + 1 ∧
      t.timeC = (if s.rst.mgmtRel then (s.timeC + 1) % 2 ^ 64 else s.timeC) ∧
      (s.rst.clkOn = true → t.cor = none ∧ ∀ e : Fin 13, t.engs[e].sbuf = s.engs[e].sbuf.drop 2) ∧
      (s.rst.clkOn = false → t.cor = s.cor ∧ t.engs = s.engs) ∧
      (s.cor = none → (∀ e : Fin 13, s.engs[e].sbuf = []) → (∀ p : Fin 2, s.eths[p].held = []) → s.evt.prior = [] →
        t = { s with now := t.now, timeC := t.timeC }))

/-- Every command of the block completes in every state: it answers a next state, and never faults nor is refused, since no rule
gives a command no effect at all. Completes here: each of the 380 constructors of Instr, by name: registerWrite, pcieMemoryRequest,
write32Low, write32High, read32Low, read32High, softReset, softResetDone, pageEnWrite, eventAck, unlockKey1, unlockKey2,
unlockOtherValue, unlockWindowExpiry, pllLock, clockUngate, pllLockLoss, rootWatchWindow, siWatchWindow, sclkSiStop, powerOnAssert,
powerOnRelease, brownOutAssert, brownOutRelease, resetInPulse, watchdogWarning, watchdogExpiry, wdtKickMgmt, wdtKickData,
wdtKickCtrl, softwareWarmReset, softwareColdReset, warmResetAssert, resetStretchEnd, managementRelease, storeReady,
peripheralRelease, drivePortRelease, servoBoundary, profileCutoff, axCfgWrite, axisAck, queueStatClr, starve, curMiss, fbLoss,
currentPass, curWaitExpiry, servoTask, stepperLoopTask, moveStart, moveAppend, moveReplace, rampStop, hardStop, moveClear,
directoryEntryArrival, refillTablet, segmentPush, profCfgWrite, limitDebounceAccept, gearEngage, gearDisengage, gearConfigWrite,
masterLost, vmEnable, vmFrameReceived, vmOutlierLoss, vmMasterPush, govConfigWrite, modelPublish, modelRecordTakeup, govOverspeed,
oqEntryProcess, obstacle, govForce, loopRateWrite, loopParamWrite, vsat, solenoidOn, solenoidOff, solenoidPullEnd, feFault,
diceStart, diceCapture, diceStop, diceEnd, captureComplete, captureWriterTablet, doorOpen, doorClose, doorStop, doorInService,
doorOutOfService, doorAckAlarm, doorReload, doorResetBase, platformCommand, sequencerTakeup, lockConfirmTimeout, obstacleReversal,
reopenDwellEnd, doorwayAxisFault, doorwayStateChange, overlayLoad, overlayErase, baseLoad, baseLoadComplete, overlaySwitchRequest,
overlayCommit, taskTrigger, taskDispatch, urgentTaskPreempt, taskLimitExceeded, engineTrap, engineFailureHandling, trapAxisTimeout,
engineReload, engineReadmit, peTrap, heartbeatCheck, hbFail, engineStart, engineHalt, engineHaltComplete, engineReset,
engineWindowAccess, taskTableWrite, undefinedOpcode, reservedEncodingTrap, insMove, insMpy, insMac, insMsu, insMacsu, insMacuu,
insMaca, insLmove, insLmpy, insLmac, insLmsu, insAdd, insSub, insAnd, insOr, insXor, insAndn, insMin, insMax, insAbs, insNeg, insMov,
insNot, insCmp, insTst, insAsl, insAsr, insLsr, insRol, insClr, insLda, insLdai, insAdda, insSuba, insNega, insAbsa, insShla,
insShra, insMva, insLdi, insLdih, insAddi, insCmpi, insMovs, insLd, insSt, insPset, insPmode, insPrd, insPwr, insPop, insPush,
insWaitp, insWaitc, insQueueWaitEnd, insOcc, insCred, insSincos, insNorm, insDiv, insSqrt, insBr, insCall, insRet, insJr, insCallr,
insLoop, insBreak, insRepeat, insHbeat, insTend, insNop, carrierStart, drivePortDqPop, penLow, delayLineCalibration,
calibrationMapTakeup, trip, cbcLimitLatch, rearm, chopperComparatorTrip, chopperTonMaxExpiry, chopperOffTimeEnd, openLoad,
fbLineEdge, minEdgeAccept, fbSample, fbStandstillTimeout, setpos, latch, seqRun, seqHalt, seqAbort, fbCounterClr, serialFrameTrigger,
serialFrameEnd, serialFrameTimeout, seqEnd, seqSet, seqShift, seqWaitb, seqWaitbTimeout, seqExpect, seqCrci, seqCrcchk, seqPar,
seqLoadp, seqTxld, seqBr, seqMark, seqProgramWrite, fbCfgWrite, echoCfgWrite, adcConversion, sequenceRestart, adcZero, adcZeroDone,
vsafeFault, vsafeRecovery, safetyInputAccept, safetyInputMismatch, switchCheck, safetyArm, safetyClrOut, sfbDemandExpiry,
sfbDiscrepancy, twoHandWindowExpiry, spPermissionUpdate, peWatchWindowExpiry, peHealthy, ladderHealthTimeout, ladderClear,
penReadbackFault, soutOffPulse, soutOffPulseEnd, soutStuck, soutOpen, spDiag, takeover, lockout, fieldScan, fieldInputAccept,
wireBreak, wireBreakClear, overload, overloadAutoRestart, bankOver, vfLow, vfLowClear, wdExp, kick, resume, bankClr, outSet, outClr,
channelDirectionChange, storeRequest, arbCycle, dwellPromotion, storeReadReturn, storeRefresh, storeRefreshEnd, timetableCommit,
timetableTakeup, arbCounterClr, probeChange, recWindowEnd, recTimeMark, recDrain, triggerFire, arm, force, stop, capturePostExpiry,
recReadData, recConfigWrite, baonEmit, baonTriggerReceived, baonMeasure, baonEchoReceived, baonEchoTimeout, baonLost,
canFrameReceived, canRingWrite, canReadData, canModeWrite, canBusJoin, busOff, recover, canRecoveryComplete, send, abort, canTxStart,
canTxAttemptEnd, canRefInstant, ttLost, canSleepCmd, canWakeCmd, canGuardEnd, sleepCancel, canStandbySettled, canWakeInput,
canWakeComplete, timeSet, timeStep, timeRate, timeStepRate, holdover, timeSnapshotRead, ethFrameReceived, ethTxProduce,
ethTxSlotDone, linkUp, linkDown, eventFire, eventDelivery, msiCoalesceTimeout, msiUnmask, eventLogWrite, eventLogRead, perstAssert,
dmaChannelEnable, dmaRxSlotCopy, dmaTxSlot, go, dmaCopyDone, dmaErr, spiWrite, spiRead, spiStatus, heldAccessComplete, peBootStart,
bypass, idcode, samplePreload, extest, dbgacc, haltAll, haltAllClear, haltEng, haltEngClear, debugWarmReset, debugColdReset,
vio33Overload, safetyInputIndeterminate, canRxError, baonClkReturn, pcieLinkDown, pcieLinkUp, pcieConfigWrite. -/
def Obligations.EveryCommandCompletes : Prop := ∀ (i : Instr) (s : State), ∃ t, exec i s = .next t

/-- R57, R69, R86, R150, R207, R364, R383, R386, and the register tables: right after the power-on source asserts, nothing is
released, RESET_OUT_N is driven, every register holds the reset value of its table, queues and buffers are empty, axes are in state 0
without hold, half-bridges off, every ball in its group's fuse-map state, engines halted and pointers linear with INC 1. Registers
without a reset value hold 0 (log entry 1). -/
def Obligations.ResetValues : Prop :=
  let s := State.reset
  (∀ (p : Pg) (off : Nat), s.word p off = resetWord p off) ∧
  s.word (.can 2) 0x40 = 0x0840407E0 ∧ s.word (.can 2) 0x48 = 0x08843C000 ∧ s.word (.can 1) 0x58 = 0x000000F1C ∧
  s.get (.can 1) CAN.SLP_TIME.STBY_US = 50 ∧
  s.word (.recorder 0) 0x40 = 0x0000F0000 ∧ s.word (.recorder 0) 0x48 = 0x0000493E0 ∧
  (∀ n : Fin 48, s.axState n = 0 ∧ s.axHold n = false ∧ s.ostate n = 0) ∧ (∀ q, s.qGet q = []) ∧
  (∀ p, s.runs p = false) ∧ s.word .rst 0x40 = 0xC01 ∧
  s.rst.resetOut = true ∧ s.rst.mgmtRel = false ∧ s.rst.engRel = false ∧ s.rst.periRel = false ∧ s.rst.dpRel = false ∧ s.rst.siRel = false ∧
  (∀ (k : Fin 12) (p : Fin 18), s.engState k = 0 ∧ s.engs[engOf k].ptr[p] = { addr := 0, mode := .linear, inc := 1, len := 0 }) ∧
  (∀ b : Ball, s.ball b = fuseState b.group) ∧ (∀ g, g < 15 → s.get .rst ⟨0x78, 2 * g + 1, 2 * g, 0, 0⟩ = fuseCode g) ∧
  s.pending = [] ∧ s.held = []

/-- The state right after reset is in canonical form. -/
def Obligations.ResetInvariant : Prop := State.reset.wf = true

/-- Every step keeps the canonical form of the register map, of the words frozen registers hold, of the shared store and of the
engines' RAMs: their keys rise strictly, so that equal memories are equal data. -/
def Obligations.StepKeepsInvariant : Prop := ∀ s t : State, s.wf = true → step s = .next t → t.wf = true
end

