-- ==== Sys2Proof/Laws/Bits.lean ====
section
/-! SUPPORT. Fields of words: what a field reads after a field is written, and bits of numbers. -/

namespace Sys2Proof.Machine

theorem fld_lt (w : Word) (hi lo : Nat) : fld w hi lo < 2 ^ (hi + 1 - lo) := Nat.mod_lt _ (by positivity)

theorem fld_testBit (w : Word) (hi lo i : Nat) : (fld w hi lo).testBit i = (decide (i < hi + 1 - lo) && w.toNat.testBit (lo + i)) := by
  rw [fld, Nat.testBit_mod_two_pow, Nat.testBit_shiftRight]

theorem setFld_testBit (w : Word) (hi lo v i : Nat) :
    (setFld w hi lo v).toNat.testBit i =
      (decide (i < 36) && (if lo ≤ i ∧ i < hi + 1 then v.testBit (i - lo) else w.toNat.testBit i)) := by
  unfold setFld
  rw [← BitVec.getLsbD, ]
  simp only [BitVec.getLsbD_or, BitVec.getLsbD_and, BitVec.getLsbD_not, BitVec.getLsbD_ofNat, Nat.testBit_shiftLeft,
    Nat.testBit_two_pow_sub_one]
  by_cases h36 : i < 36 <;> by_cases hlo : lo ≤ i <;> by_cases hhi : i < hi + 1
  all_goals simp [h36, hlo, hhi, BitVec.getLsbD]
  all_goals first
    | (have : i - lo < hi + 1 - lo := by omega); simp [this]
    | (have : ¬ i - lo < hi + 1 - lo := by omega); simp [this]

/-- A field reads what was written to it. -/
theorem fld_setFld_same (w : Word) (hi lo v : Nat) (h : hi < 36) : fld (setFld w hi lo v) hi lo = v % 2 ^ (hi + 1 - lo) := by
  apply Nat.eq_of_testBit_eq
  intro i
  rw [fld_testBit, setFld_testBit, Nat.testBit_mod_two_pow]
  by_cases hi' : i < hi + 1 - lo
  · have h1 : lo + i < 36 := by omega
    have h2 : lo ≤ lo + i ∧ lo + i < hi + 1 := by omega
    simp [hi', h1, h2]
  · simp [hi']

/-- A field reads as before where another field was written. -/
theorem fld_setFld_other (w : Word) (hi lo v hi' lo' : Nat) (hd : hi < lo' ∨ hi' < lo) :
    fld (setFld w hi lo v) hi' lo' = fld w hi' lo' := by
  apply Nat.eq_of_testBit_eq
  intro i
  rw [fld_testBit, fld_testBit, setFld_testBit]
  by_cases hi1 : i < hi' + 1 - lo'
  · have h2 : ¬ (lo ≤ lo' + i ∧ lo' + i < hi + 1) := by omega
    rw [if_neg h2]
    by_cases h3 : lo' + i < 36
    · simp [h3]
    · have : w.toNat.testBit (lo' + i) = false := by
        apply Nat.testBit_lt_two_pow
        exact Nat.lt_of_lt_of_le w.isLt (Nat.pow_le_pow_right (by decide) (by omega))
      simp [this]
  · simp [hi1]

theorem bit_eq_testBit (v i : Nat) : bit v i = v.testBit i := by
  rw [Nat.testBit_eq_decide_div_mod_eq, bit, Nat.shiftRight_eq_div_pow]

theorem setBit_testBit (v i j : Nat) : (setBit v i).testBit j = (v.testBit j || decide (j = i)) := by
  simp only [setBit, Nat.testBit_or, Nat.one_shiftLeft, Nat.testBit_two_pow]
  by_cases h : i = j
  · simp [h]
  · have h' : ¬ j = i := fun e => h e.symm
    simp [h, h']

@[simp] theorem bit_setBit (v i j : Nat) : bit (setBit v i) j = (bit v j || decide (j = i)) := by
  simp [bit_eq_testBit, setBit_testBit]

theorem setBit_lt (v i n : Nat) (hv : v < 2 ^ n) (hi : i < n) : setBit v i < 2 ^ n := by
  apply Nat.or_lt_two_pow hv
  rw [Nat.one_shiftLeft]
  exact Nat.pow_lt_pow_right (by decide) hi

end Sys2Proof.Machine
end

