-- ==== Sys2Proof/Laws/Cells.lean ====
section
/-! SUPPORT. Words by key: reading after writing, and that every operation keeps the keys strictly rising. -/

namespace Sys2Proof.Machine

theorem Cells.find_ins_self (m : Cells) (k : Nat) (w : Word) (h : m.find k = none) : (m.ins k w).find k = some w := by
  induction m with
  | nil => simp [Cells.ins, Cells.find]
  | cons c r ih =>
    obtain ⟨j, v⟩ := c
    simp only [Cells.find] at h
    split at h
    · cases h
    · simp only [Cells.ins]
      split
      · simp [Cells.find]
      · simp [Cells.find, *]

theorem Cells.find_ins_ne (m : Cells) (k j : Nat) (w : Word) (h : k ≠ j) : (m.ins k w).find j = m.find j := by
  induction m with
  | nil => simp [Cells.ins, Cells.find, h]
  | cons c r ih =>
    obtain ⟨i, v⟩ := c
    simp only [Cells.ins]
    split
    · rw [Cells.find, if_neg h]
    · simp [Cells.find, ih]

theorem Cells.find_drop_self (m : Cells) (k : Nat) : (m.drop k).find k = none := by
  induction m with
  | nil => rfl
  | cons c r ih =>
    obtain ⟨i, v⟩ := c
    by_cases e : i = k
    · subst e
      simpa [Cells.drop] using ih
    · have : (Cells.drop ((i, v) :: r) k) = (i, v) :: Cells.drop r k := by simp [Cells.drop, e]
      rw [this, Cells.find, if_neg e, ih]

theorem Cells.find_drop_ne (m : Cells) (k j : Nat) (h : k ≠ j) : (m.drop k).find j = m.find j := by
  induction m with
  | nil => rfl
  | cons c r ih =>
    obtain ⟨i, v⟩ := c
    by_cases e : i = k
    · subst e
      have : (Cells.drop ((i, v) :: r) i) = Cells.drop r i := by simp [Cells.drop]
      rw [this, Cells.find, if_neg h, ih]
    · have : (Cells.drop ((i, v) :: r) k) = (i, v) :: Cells.drop r k := by simp [Cells.drop, e]
      rw [this]; simp [Cells.find, ih]

/-- A word put under a key is found there. -/
@[simp] theorem Cells.find_put_self (m : Cells) (k : Nat) (w : Word) : (m.put k w).find k = some w :=
  Cells.find_ins_self _ _ _ (Cells.find_drop_self m k)

/-- A word put under a key leaves the other keys alone. -/
theorem Cells.find_put_ne (m : Cells) (k j : Nat) (w : Word) (h : k ≠ j) : (m.put k w).find j = m.find j := by
  rw [Cells.put, Cells.find_ins_ne _ _ _ _ h, Cells.find_drop_ne _ _ _ h]

/-- A word set under a key is what the key reads as. -/
theorem Cells.find_set_self (m : Cells) (k : Nat) (w d : Word) : ((m.set k w d).find k).getD d = w := by
  unfold Cells.set
  split
  · simp [Cells.find_drop_self, *]
  · simp

theorem Cells.find_set_ne (m : Cells) (k j : Nat) (w d : Word) (h : k ≠ j) : (m.set k w d).find j = m.find j := by
  unfold Cells.set
  split
  · exact Cells.find_drop_ne _ _ _ h
  · exact Cells.find_put_ne _ _ _ _ h

/-! ### Rising keys -/

/-- Rising keys, said of the tail and the first key. -/
theorem Cells.rising_cons (k : Nat) (w : Word) (m : Cells) :
    Cells.rising ((k, w) :: m) = true ↔ (∀ c ∈ m, k < c.1) ∧ Cells.rising m = true := by
  induction m generalizing k w with
  | nil => simp [Cells.rising]
  | cons c r ih =>
    obtain ⟨j, v⟩ := c
    simp only [Cells.rising, Bool.and_eq_true, decide_eq_true_eq, List.mem_cons, forall_eq_or_imp]
    constructor
    · intro ⟨h1, h2⟩
      exact ⟨⟨h1, fun c hc => Nat.lt_trans h1 (((ih j v).1 h2).1 c hc)⟩, h2⟩
    · intro ⟨h1, h2⟩
      exact ⟨h1.1, h2⟩

theorem Cells.mem_ins (m : Cells) (k : Nat) (w : Word) (c : Nat × Word) (h : c ∈ m.ins k w) : c = (k, w) ∨ c ∈ m := by
  induction m with
  | nil => simpa [Cells.ins] using h
  | cons d r ih =>
    obtain ⟨i, v⟩ := d
    simp only [Cells.ins] at h
    split at h
    · simpa using h
    · rcases List.mem_cons.1 h with h | h
      · exact .inr (by simp [h])
      · rcases ih h with h | h
        · exact .inl h
        · exact .inr (List.mem_cons_of_mem _ h)

/-- Filtering keeps the keys rising. -/
theorem Cells.rising_filter (m : Cells) (p : Nat × Word → Bool) (h : m.rising = true) :
    Cells.rising (m.filter p) = true := by
  induction m with
  | nil => rfl
  | cons c r ih =>
    obtain ⟨i, v⟩ := c
    have ⟨h1, h2⟩ := (Cells.rising_cons i v r).1 h
    rw [List.filter_cons]
    split
    · exact (Cells.rising_cons _ _ _).2 ⟨fun c hc => h1 c (List.mem_filter.1 hc).1, ih h2⟩
    · exact ih h2

theorem Cells.rising_ins (m : Cells) (k : Nat) (w : Word) (h : m.rising = true) (hk : ∀ c ∈ m, c.1 ≠ k) :
    (m.ins k w).rising = true := by
  induction m with
  | nil => rfl
  | cons c r ih =>
    obtain ⟨i, v⟩ := c
    have ⟨h1, h2⟩ := (Cells.rising_cons i v r).1 h
    have hi : i ≠ k := hk (i, v) (by simp)
    simp only [Cells.ins]
    split
    · rename_i hlt
      exact (Cells.rising_cons _ _ _).2 ⟨fun c hc => by
        rcases List.mem_cons.1 hc with hc | hc
        · simp [hc, hlt]
        · exact Nat.lt_trans hlt (h1 c hc), h⟩
    · rename_i hlt
      refine (Cells.rising_cons _ _ _).2 ⟨fun c hc => ?_, ih h2 (fun c hc => hk c (by simp [hc]))⟩
      rcases Cells.mem_ins _ _ _ _ hc with hc | hc
      · simp only [hc]; omega
      · exact h1 c hc

/-- Putting a word keeps the keys rising. -/
@[simp] theorem Cells.rising_put (m : Cells) (k : Nat) (w : Word) (h : m.rising = true) : (m.put k w).rising = true := by
  refine Cells.rising_ins _ _ _ (Cells.rising_filter _ _ h) (fun c hc => ?_)
  have := (List.mem_filter.1 hc).2
  simpa using this

@[simp] theorem Cells.rising_set (m : Cells) (k : Nat) (w d : Word) (h : m.rising = true) : (m.set k w d).rising = true := by
  unfold Cells.set
  split
  · exact Cells.rising_filter _ _ h
  · exact Cells.rising_put _ _ _ h

end Sys2Proof.Machine
end

