-- ==== Sys2Proof/Laws/State.lean ====
section
/-! SUPPORT. What each update of the state leaves as it was, field by field, and what it makes of the field it changes. -/

namespace Sys2Proof.Machine

variable (s : State)

/-! ### setWord -/

@[simp] theorem State.setWord_pending (p : Pg) (off : Nat) (w : Word) : (s.setWord p off w).pending = s.pending := rfl
@[simp] theorem State.setWord_now (p : Pg) (off : Nat) (w : Word) : (s.setWord p off w).now = s.now := rfl
@[simp] theorem State.setWord_timeC (p : Pg) (off : Nat) (w : Word) : (s.setWord p off w).timeC = s.timeC := rfl
@[simp] theorem State.setWord_serial (p : Pg) (off : Nat) (w : Word) : (s.setWord p off w).serial = s.serial := rfl
@[simp] theorem State.setWord_frozen (p : Pg) (off : Nat) (w : Word) : (s.setWord p off w).frozen = s.frozen := rfl
@[simp] theorem State.setWord_softRst (p : Pg) (off : Nat) (w : Word) : (s.setWord p off w).softRst = s.softRst := rfl
@[simp] theorem State.setWord_rst (p : Pg) (off : Nat) (w : Word) : (s.setWord p off w).rst = s.rst := rfl
@[simp] theorem State.setWord_recent (p : Pg) (off : Nat) (w : Word) : (s.setWord p off w).recent = s.recent := rfl
@[simp] theorem State.setWord_unlockWin (p : Pg) (off : Nat) (w : Word) : (s.setWord p off w).unlockWin = s.unlockWin := rfl
@[simp] theorem State.setWord_bar0 (p : Pg) (off : Nat) (w : Word) : (s.setWord p off w).bar0 = s.bar0 := rfl
@[simp] theorem State.setWord_bar2 (p : Pg) (off : Nat) (w : Word) : (s.setWord p off w).bar2 = s.bar2 := rfl
@[simp] theorem State.setWord_spi (p : Pg) (off : Nat) (w : Word) : (s.setWord p off w).spi = s.spi := rfl
@[simp] theorem State.setWord_held (p : Pg) (off : Nat) (w : Word) : (s.setWord p off w).held = s.held := rfl
@[simp] theorem State.setWord_evt (p : Pg) (off : Nat) (w : Word) : (s.setWord p off w).evt = s.evt := rfl
@[simp] theorem State.setWord_host (p : Pg) (off : Nat) (w : Word) : (s.setWord p off w).host = s.host := rfl
@[simp] theorem State.setWord_store (p : Pg) (off : Nat) (w : Word) : (s.setWord p off w).store = s.store := rfl
@[simp] theorem State.setWord_epoch (p : Pg) (off : Nat) (w : Word) : (s.setWord p off w).epoch = s.epoch := rfl
@[simp] theorem State.setWord_snaps (p : Pg) (off : Nat) (w : Word) : (s.setWord p off w).snaps = s.snaps := rfl
@[simp] theorem State.setWord_lastCor (p : Pg) (off : Nat) (w : Word) : (s.setWord p off w).lastCor = s.lastCor := rfl
@[simp] theorem State.setWord_cor (p : Pg) (off : Nat) (w : Word) : (s.setWord p off w).cor = s.cor := rfl
@[simp] theorem State.setWord_cors (p : Pg) (off : Nat) (w : Word) : (s.setWord p off w).cors = s.cors := rfl
@[simp] theorem State.setWord_refillQ (p : Pg) (off : Nat) (w : Word) : (s.setWord p off w).refillQ = s.refillQ := rfl
@[simp] theorem State.setWord_queues (p : Pg) (off : Nat) (w : Word) : (s.setWord p off w).queues = s.queues := rfl
@[simp] theorem State.setWord_axes (p : Pg) (off : Nat) (w : Word) : (s.setWord p off w).axes = s.axes := rfl
@[simp] theorem State.setWord_ports (p : Pg) (off : Nat) (w : Word) : (s.setWord p off w).ports = s.ports := rfl
@[simp] theorem State.setWord_cars (p : Pg) (off : Nat) (w : Word) : (s.setWord p off w).cars = s.cars := rfl
@[simp] theorem State.setWord_fbs (p : Pg) (off : Nat) (w : Word) : (s.setWord p off w).fbs = s.fbs := rfl
@[simp] theorem State.setWord_adcs (p : Pg) (off : Nat) (w : Word) : (s.setWord p off w).adcs = s.adcs := rfl
@[simp] theorem State.setWord_si (p : Pg) (off : Nat) (w : Word) : (s.setWord p off w).si = s.si := rfl
@[simp] theorem State.setWord_arb (p : Pg) (off : Nat) (w : Word) : (s.setWord p off w).arb = s.arb := rfl
@[simp] theorem State.setWord_fiobs (p : Pg) (off : Nat) (w : Word) : (s.setWord p off w).fiobs = s.fiobs := rfl
@[simp] theorem State.setWord_recd (p : Pg) (off : Nat) (w : Word) : (s.setWord p off w).recd = s.recd := rfl
@[simp] theorem State.setWord_cans (p : Pg) (off : Nat) (w : Word) : (s.setWord p off w).cans = s.cans := rfl
@[simp] theorem State.setWord_eths (p : Pg) (off : Nat) (w : Word) : (s.setWord p off w).eths = s.eths := rfl
@[simp] theorem State.setWord_vms (p : Pg) (off : Nat) (w : Word) : (s.setWord p off w).vms = s.vms := rfl
@[simp] theorem State.setWord_doors (p : Pg) (off : Nat) (w : Word) : (s.setWord p off w).doors = s.doors := rfl
@[simp] theorem State.setWord_ovl (p : Pg) (off : Nat) (w : Word) : (s.setWord p off w).ovl = s.ovl := rfl
@[simp] theorem State.setWord_engs (p : Pg) (off : Nat) (w : Word) : (s.setWord p off w).engs = s.engs := rfl

/-! ### put -/

@[simp] theorem State.put_pending (p : Pg) (f : Fld) (v : Nat) : (s.put p f v).pending = s.pending := rfl
@[simp] theorem State.put_now (p : Pg) (f : Fld) (v : Nat) : (s.put p f v).now = s.now := rfl
@[simp] theorem State.put_timeC (p : Pg) (f : Fld) (v : Nat) : (s.put p f v).timeC = s.timeC := rfl
@[simp] theorem State.put_serial (p : Pg) (f : Fld) (v : Nat) : (s.put p f v).serial = s.serial := rfl
@[simp] theorem State.put_frozen (p : Pg) (f : Fld) (v : Nat) : (s.put p f v).frozen = s.frozen := rfl
@[simp] theorem State.put_softRst (p : Pg) (f : Fld) (v : Nat) : (s.put p f v).softRst = s.softRst := rfl
@[simp] theorem State.put_rst (p : Pg) (f : Fld) (v : Nat) : (s.put p f v).rst = s.rst := rfl
@[simp] theorem State.put_recent (p : Pg) (f : Fld) (v : Nat) : (s.put p f v).recent = s.recent := rfl
@[simp] theorem State.put_unlockWin (p : Pg) (f : Fld) (v : Nat) : (s.put p f v).unlockWin = s.unlockWin := rfl
@[simp] theorem State.put_bar0 (p : Pg) (f : Fld) (v : Nat) : (s.put p f v).bar0 = s.bar0 := rfl
@[simp] theorem State.put_bar2 (p : Pg) (f : Fld) (v : Nat) : (s.put p f v).bar2 = s.bar2 := rfl
@[simp] theorem State.put_spi (p : Pg) (f : Fld) (v : Nat) : (s.put p f v).spi = s.spi := rfl
@[simp] theorem State.put_held (p : Pg) (f : Fld) (v : Nat) : (s.put p f v).held = s.held := rfl
@[simp] theorem State.put_evt (p : Pg) (f : Fld) (v : Nat) : (s.put p f v).evt = s.evt := rfl
@[simp] theorem State.put_host (p : Pg) (f : Fld) (v : Nat) : (s.put p f v).host = s.host := rfl
@[simp] theorem State.put_store (p : Pg) (f : Fld) (v : Nat) : (s.put p f v).store = s.store := rfl
@[simp] theorem State.put_epoch (p : Pg) (f : Fld) (v : Nat) : (s.put p f v).epoch = s.epoch := rfl
@[simp] theorem State.put_snaps (p : Pg) (f : Fld) (v : Nat) : (s.put p f v).snaps = s.snaps := rfl
@[simp] theorem State.put_lastCor (p : Pg) (f : Fld) (v : Nat) : (s.put p f v).lastCor = s.lastCor := rfl
@[simp] theorem State.put_cor (p : Pg) (f : Fld) (v : Nat) : (s.put p f v).cor = s.cor := rfl
@[simp] theorem State.put_cors (p : Pg) (f : Fld) (v : Nat) : (s.put p f v).cors = s.cors := rfl
@[simp] theorem State.put_refillQ (p : Pg) (f : Fld) (v : Nat) : (s.put p f v).refillQ = s.refillQ := rfl
@[simp] theorem State.put_queues (p : Pg) (f : Fld) (v : Nat) : (s.put p f v).queues = s.queues := rfl
@[simp] theorem State.put_axes (p : Pg) (f : Fld) (v : Nat) : (s.put p f v).axes = s.axes := rfl
@[simp] theorem State.put_ports (p : Pg) (f : Fld) (v : Nat) : (s.put p f v).ports = s.ports := rfl
@[simp] theorem State.put_cars (p : Pg) (f : Fld) (v : Nat) : (s.put p f v).cars = s.cars := rfl
@[simp] theorem State.put_fbs (p : Pg) (f : Fld) (v : Nat) : (s.put p f v).fbs = s.fbs := rfl
@[simp] theorem State.put_adcs (p : Pg) (f : Fld) (v : Nat) : (s.put p f v).adcs = s.adcs := rfl
@[simp] theorem State.put_si (p : Pg) (f : Fld) (v : Nat) : (s.put p f v).si = s.si := rfl
@[simp] theorem State.put_arb (p : Pg) (f : Fld) (v : Nat) : (s.put p f v).arb = s.arb := rfl
@[simp] theorem State.put_fiobs (p : Pg) (f : Fld) (v : Nat) : (s.put p f v).fiobs = s.fiobs := rfl
@[simp] theorem State.put_recd (p : Pg) (f : Fld) (v : Nat) : (s.put p f v).recd = s.recd := rfl
@[simp] theorem State.put_cans (p : Pg) (f : Fld) (v : Nat) : (s.put p f v).cans = s.cans := rfl
@[simp] theorem State.put_eths (p : Pg) (f : Fld) (v : Nat) : (s.put p f v).eths = s.eths := rfl
@[simp] theorem State.put_vms (p : Pg) (f : Fld) (v : Nat) : (s.put p f v).vms = s.vms := rfl
@[simp] theorem State.put_doors (p : Pg) (f : Fld) (v : Nat) : (s.put p f v).doors = s.doors := rfl
@[simp] theorem State.put_ovl (p : Pg) (f : Fld) (v : Nat) : (s.put p f v).ovl = s.ovl := rfl
@[simp] theorem State.put_engs (p : Pg) (f : Fld) (v : Nat) : (s.put p f v).engs = s.engs := rfl

/-! ### putI -/

@[simp] theorem State.putI_pending (p : Pg) (f : Fld) (v : Int) : (s.putI p f v).pending = s.pending := rfl
@[simp] theorem State.putI_now (p : Pg) (f : Fld) (v : Int) : (s.putI p f v).now = s.now := rfl
@[simp] theorem State.putI_timeC (p : Pg) (f : Fld) (v : Int) : (s.putI p f v).timeC = s.timeC := rfl
@[simp] theorem State.putI_serial (p : Pg) (f : Fld) (v : Int) : (s.putI p f v).serial = s.serial := rfl
@[simp] theorem State.putI_frozen (p : Pg) (f : Fld) (v : Int) : (s.putI p f v).frozen = s.frozen := rfl
@[simp] theorem State.putI_softRst (p : Pg) (f : Fld) (v : Int) : (s.putI p f v).softRst = s.softRst := rfl
@[simp] theorem State.putI_rst (p : Pg) (f : Fld) (v : Int) : (s.putI p f v).rst = s.rst := rfl
@[simp] theorem State.putI_recent (p : Pg) (f : Fld) (v : Int) : (s.putI p f v).recent = s.recent := rfl
@[simp] theorem State.putI_unlockWin (p : Pg) (f : Fld) (v : Int) : (s.putI p f v).unlockWin = s.unlockWin := rfl
@[simp] theorem State.putI_bar0 (p : Pg) (f : Fld) (v : Int) : (s.putI p f v).bar0 = s.bar0 := rfl
@[simp] theorem State.putI_bar2 (p : Pg) (f : Fld) (v : Int) : (s.putI p f v).bar2 = s.bar2 := rfl
@[simp] theorem State.putI_spi (p : Pg) (f : Fld) (v : Int) : (s.putI p f v).spi = s.spi := rfl
@[simp] theorem State.putI_held (p : Pg) (f : Fld) (v : Int) : (s.putI p f v).held = s.held := rfl
@[simp] theorem State.putI_evt (p : Pg) (f : Fld) (v : Int) : (s.putI p f v).evt = s.evt := rfl
@[simp] theorem State.putI_host (p : Pg) (f : Fld) (v : Int) : (s.putI p f v).host = s.host := rfl
@[simp] theorem State.putI_store (p : Pg) (f : Fld) (v : Int) : (s.putI p f v).store = s.store := rfl
@[simp] theorem State.putI_epoch (p : Pg) (f : Fld) (v : Int) : (s.putI p f v).epoch = s.epoch := rfl
@[simp] theorem State.putI_snaps (p : Pg) (f : Fld) (v : Int) : (s.putI p f v).snaps = s.snaps := rfl
@[simp] theorem State.putI_lastCor (p : Pg) (f : Fld) (v : Int) : (s.putI p f v).lastCor = s.lastCor := rfl
@[simp] theorem State.putI_cor (p : Pg) (f : Fld) (v : Int) : (s.putI p f v).cor = s.cor := rfl
@[simp] theorem State.putI_cors (p : Pg) (f : Fld) (v : Int) : (s.putI p f v).cors = s.cors := rfl
@[simp] theorem State.putI_refillQ (p : Pg) (f : Fld) (v : Int) : (s.putI p f v).refillQ = s.refillQ := rfl
@[simp] theorem State.putI_queues (p : Pg) (f : Fld) (v : Int) : (s.putI p f v).queues = s.queues := rfl
@[simp] theorem State.putI_axes (p : Pg) (f : Fld) (v : Int) : (s.putI p f v).axes = s.axes := rfl
@[simp] theorem State.putI_ports (p : Pg) (f : Fld) (v : Int) : (s.putI p f v).ports = s.ports := rfl
@[simp] theorem State.putI_cars (p : Pg) (f : Fld) (v : Int) : (s.putI p f v).cars = s.cars := rfl
@[simp] theorem State.putI_fbs (p : Pg) (f : Fld) (v : Int) : (s.putI p f v).fbs = s.fbs := rfl
@[simp] theorem State.putI_adcs (p : Pg) (f : Fld) (v : Int) : (s.putI p f v).adcs = s.adcs := rfl
@[simp] theorem State.putI_si (p : Pg) (f : Fld) (v : Int) : (s.putI p f v).si = s.si := rfl
@[simp] theorem State.putI_arb (p : Pg) (f : Fld) (v : Int) : (s.putI p f v).arb = s.arb := rfl
@[simp] theorem State.putI_fiobs (p : Pg) (f : Fld) (v : Int) : (s.putI p f v).fiobs = s.fiobs := rfl
@[simp] theorem State.putI_recd (p : Pg) (f : Fld) (v : Int) : (s.putI p f v).recd = s.recd := rfl
@[simp] theorem State.putI_cans (p : Pg) (f : Fld) (v : Int) : (s.putI p f v).cans = s.cans := rfl
@[simp] theorem State.putI_eths (p : Pg) (f : Fld) (v : Int) : (s.putI p f v).eths = s.eths := rfl
@[simp] theorem State.putI_vms (p : Pg) (f : Fld) (v : Int) : (s.putI p f v).vms = s.vms := rfl
@[simp] theorem State.putI_doors (p : Pg) (f : Fld) (v : Int) : (s.putI p f v).doors = s.doors := rfl
@[simp] theorem State.putI_ovl (p : Pg) (f : Fld) (v : Int) : (s.putI p f v).ovl = s.ovl := rfl
@[simp] theorem State.putI_engs (p : Pg) (f : Fld) (v : Int) : (s.putI p f v).engs = s.engs := rfl

/-! ### inc -/

@[simp] theorem State.inc_pending (p : Pg) (f : Fld) : (s.inc p f).pending = s.pending := rfl
@[simp] theorem State.inc_now (p : Pg) (f : Fld) : (s.inc p f).now = s.now := rfl
@[simp] theorem State.inc_timeC (p : Pg) (f : Fld) : (s.inc p f).timeC = s.timeC := rfl
@[simp] theorem State.inc_serial (p : Pg) (f : Fld) : (s.inc p f).serial = s.serial := rfl
@[simp] theorem State.inc_frozen (p : Pg) (f : Fld) : (s.inc p f).frozen = s.frozen := rfl
@[simp] theorem State.inc_softRst (p : Pg) (f : Fld) : (s.inc p f).softRst = s.softRst := rfl
@[simp] theorem State.inc_rst (p : Pg) (f : Fld) : (s.inc p f).rst = s.rst := rfl
@[simp] theorem State.inc_recent (p : Pg) (f : Fld) : (s.inc p f).recent = s.recent := rfl
@[simp] theorem State.inc_unlockWin (p : Pg) (f : Fld) : (s.inc p f).unlockWin = s.unlockWin := rfl
@[simp] theorem State.inc_bar0 (p : Pg) (f : Fld) : (s.inc p f).bar0 = s.bar0 := rfl
@[simp] theorem State.inc_bar2 (p : Pg) (f : Fld) : (s.inc p f).bar2 = s.bar2 := rfl
@[simp] theorem State.inc_spi (p : Pg) (f : Fld) : (s.inc p f).spi = s.spi := rfl
@[simp] theorem State.inc_held (p : Pg) (f : Fld) : (s.inc p f).held = s.held := rfl
@[simp] theorem State.inc_evt (p : Pg) (f : Fld) : (s.inc p f).evt = s.evt := rfl
@[simp] theorem State.inc_host (p : Pg) (f : Fld) : (s.inc p f).host = s.host := rfl
@[simp] theorem State.inc_store (p : Pg) (f : Fld) : (s.inc p f).store = s.store := rfl
@[simp] theorem State.inc_epoch (p : Pg) (f : Fld) : (s.inc p f).epoch = s.epoch := rfl
@[simp] theorem State.inc_snaps (p : Pg) (f : Fld) : (s.inc p f).snaps = s.snaps := rfl
@[simp] theorem State.inc_lastCor (p : Pg) (f : Fld) : (s.inc p f).lastCor = s.lastCor := rfl
@[simp] theorem State.inc_cor (p : Pg) (f : Fld) : (s.inc p f).cor = s.cor := rfl
@[simp] theorem State.inc_cors (p : Pg) (f : Fld) : (s.inc p f).cors = s.cors := rfl
@[simp] theorem State.inc_refillQ (p : Pg) (f : Fld) : (s.inc p f).refillQ = s.refillQ := rfl
@[simp] theorem State.inc_queues (p : Pg) (f : Fld) : (s.inc p f).queues = s.queues := rfl
@[simp] theorem State.inc_axes (p : Pg) (f : Fld) : (s.inc p f).axes = s.axes := rfl
@[simp] theorem State.inc_ports (p : Pg) (f : Fld) : (s.inc p f).ports = s.ports := rfl
@[simp] theorem State.inc_cars (p : Pg) (f : Fld) : (s.inc p f).cars = s.cars := rfl
@[simp] theorem State.inc_fbs (p : Pg) (f : Fld) : (s.inc p f).fbs = s.fbs := rfl
@[simp] theorem State.inc_adcs (p : Pg) (f : Fld) : (s.inc p f).adcs = s.adcs := rfl
@[simp] theorem State.inc_si (p : Pg) (f : Fld) : (s.inc p f).si = s.si := rfl
@[simp] theorem State.inc_arb (p : Pg) (f : Fld) : (s.inc p f).arb = s.arb := rfl
@[simp] theorem State.inc_fiobs (p : Pg) (f : Fld) : (s.inc p f).fiobs = s.fiobs := rfl
@[simp] theorem State.inc_recd (p : Pg) (f : Fld) : (s.inc p f).recd = s.recd := rfl
@[simp] theorem State.inc_cans (p : Pg) (f : Fld) : (s.inc p f).cans = s.cans := rfl
@[simp] theorem State.inc_eths (p : Pg) (f : Fld) : (s.inc p f).eths = s.eths := rfl
@[simp] theorem State.inc_vms (p : Pg) (f : Fld) : (s.inc p f).vms = s.vms := rfl
@[simp] theorem State.inc_doors (p : Pg) (f : Fld) : (s.inc p f).doors = s.doors := rfl
@[simp] theorem State.inc_ovl (p : Pg) (f : Fld) : (s.inc p f).ovl = s.ovl := rfl
@[simp] theorem State.inc_engs (p : Pg) (f : Fld) : (s.inc p f).engs = s.engs := rfl

/-! ### updAx -/

@[simp] theorem State.updAx_pending (n : Fin 48) (f : Axis → Axis) : (s.updAx n f).pending = s.pending := rfl
@[simp] theorem State.updAx_now (n : Fin 48) (f : Axis → Axis) : (s.updAx n f).now = s.now := rfl
@[simp] theorem State.updAx_timeC (n : Fin 48) (f : Axis → Axis) : (s.updAx n f).timeC = s.timeC := rfl
@[simp] theorem State.updAx_serial (n : Fin 48) (f : Axis → Axis) : (s.updAx n f).serial = s.serial := rfl
@[simp] theorem State.updAx_regs (n : Fin 48) (f : Axis → Axis) : (s.updAx n f).regs = s.regs := rfl
@[simp] theorem State.updAx_frozen (n : Fin 48) (f : Axis → Axis) : (s.updAx n f).frozen = s.frozen := rfl
@[simp] theorem State.updAx_softRst (n : Fin 48) (f : Axis → Axis) : (s.updAx n f).softRst = s.softRst := rfl
@[simp] theorem State.updAx_rst (n : Fin 48) (f : Axis → Axis) : (s.updAx n f).rst = s.rst := rfl
@[simp] theorem State.updAx_recent (n : Fin 48) (f : Axis → Axis) : (s.updAx n f).recent = s.recent := rfl
@[simp] theorem State.updAx_unlockWin (n : Fin 48) (f : Axis → Axis) : (s.updAx n f).unlockWin = s.unlockWin := rfl
@[simp] theorem State.updAx_bar0 (n : Fin 48) (f : Axis → Axis) : (s.updAx n f).bar0 = s.bar0 := rfl
@[simp] theorem State.updAx_bar2 (n : Fin 48) (f : Axis → Axis) : (s.updAx n f).bar2 = s.bar2 := rfl
@[simp] theorem State.updAx_spi (n : Fin 48) (f : Axis → Axis) : (s.updAx n f).spi = s.spi := rfl
@[simp] theorem State.updAx_held (n : Fin 48) (f : Axis → Axis) : (s.updAx n f).held = s.held := rfl
@[simp] theorem State.updAx_evt (n : Fin 48) (f : Axis → Axis) : (s.updAx n f).evt = s.evt := rfl
@[simp] theorem State.updAx_host (n : Fin 48) (f : Axis → Axis) : (s.updAx n f).host = s.host := rfl
@[simp] theorem State.updAx_store (n : Fin 48) (f : Axis → Axis) : (s.updAx n f).store = s.store := rfl
@[simp] theorem State.updAx_epoch (n : Fin 48) (f : Axis → Axis) : (s.updAx n f).epoch = s.epoch := rfl
@[simp] theorem State.updAx_snaps (n : Fin 48) (f : Axis → Axis) : (s.updAx n f).snaps = s.snaps := rfl
@[simp] theorem State.updAx_lastCor (n : Fin 48) (f : Axis → Axis) : (s.updAx n f).lastCor = s.lastCor := rfl
@[simp] theorem State.updAx_cor (n : Fin 48) (f : Axis → Axis) : (s.updAx n f).cor = s.cor := rfl
@[simp] theorem State.updAx_cors (n : Fin 48) (f : Axis → Axis) : (s.updAx n f).cors = s.cors := rfl
@[simp] theorem State.updAx_refillQ (n : Fin 48) (f : Axis → Axis) : (s.updAx n f).refillQ = s.refillQ := rfl
@[simp] theorem State.updAx_queues (n : Fin 48) (f : Axis → Axis) : (s.updAx n f).queues = s.queues := rfl
@[simp] theorem State.updAx_ports (n : Fin 48) (f : Axis → Axis) : (s.updAx n f).ports = s.ports := rfl
@[simp] theorem State.updAx_cars (n : Fin 48) (f : Axis → Axis) : (s.updAx n f).cars = s.cars := rfl
@[simp] theorem State.updAx_fbs (n : Fin 48) (f : Axis → Axis) : (s.updAx n f).fbs = s.fbs := rfl
@[simp] theorem State.updAx_adcs (n : Fin 48) (f : Axis → Axis) : (s.updAx n f).adcs = s.adcs := rfl
@[simp] theorem State.updAx_si (n : Fin 48) (f : Axis → Axis) : (s.updAx n f).si = s.si := rfl
@[simp] theorem State.updAx_arb (n : Fin 48) (f : Axis → Axis) : (s.updAx n f).arb = s.arb := rfl
@[simp] theorem State.updAx_fiobs (n : Fin 48) (f : Axis → Axis) : (s.updAx n f).fiobs = s.fiobs := rfl
@[simp] theorem State.updAx_recd (n : Fin 48) (f : Axis → Axis) : (s.updAx n f).recd = s.recd := rfl
@[simp] theorem State.updAx_cans (n : Fin 48) (f : Axis → Axis) : (s.updAx n f).cans = s.cans := rfl
@[simp] theorem State.updAx_eths (n : Fin 48) (f : Axis → Axis) : (s.updAx n f).eths = s.eths := rfl
@[simp] theorem State.updAx_vms (n : Fin 48) (f : Axis → Axis) : (s.updAx n f).vms = s.vms := rfl
@[simp] theorem State.updAx_doors (n : Fin 48) (f : Axis → Axis) : (s.updAx n f).doors = s.doors := rfl
@[simp] theorem State.updAx_ovl (n : Fin 48) (f : Axis → Axis) : (s.updAx n f).ovl = s.ovl := rfl
@[simp] theorem State.updAx_engs (n : Fin 48) (f : Axis → Axis) : (s.updAx n f).engs = s.engs := rfl
@[simp] theorem State.updAx_word (n : Fin 48) (f : Axis → Axis) (p' : Pg) (o : Nat) : (s.updAx n f).word p' o = s.word p' o := rfl
@[simp] theorem State.updAx_get (n : Fin 48) (f : Axis → Axis) (p' : Pg) (g : Fld) : (s.updAx n f).get p' g = s.get p' g := rfl
@[simp] theorem State.updAx_getI (n : Fin 48) (f : Axis → Axis) (p' : Pg) (g : Fld) : (s.updAx n f).getI p' g = s.getI p' g := rfl
@[simp] theorem State.updAx_flag (n : Fin 48) (f : Axis → Axis) (p' : Pg) (g : Fld) : (s.updAx n f).flag p' g = s.flag p' g := rfl

/-! ### updDp -/

@[simp] theorem State.updDp_pending (n : Fin 48) (f : DrivePort → DrivePort) : (s.updDp n f).pending = s.pending := rfl
@[simp] theorem State.updDp_now (n : Fin 48) (f : DrivePort → DrivePort) : (s.updDp n f).now = s.now := rfl
@[simp] theorem State.updDp_timeC (n : Fin 48) (f : DrivePort → DrivePort) : (s.updDp n f).timeC = s.timeC := rfl
@[simp] theorem State.updDp_serial (n : Fin 48) (f : DrivePort → DrivePort) : (s.updDp n f).serial = s.serial := rfl
@[simp] theorem State.updDp_regs (n : Fin 48) (f : DrivePort → DrivePort) : (s.updDp n f).regs = s.regs := rfl
@[simp] theorem State.updDp_frozen (n : Fin 48) (f : DrivePort → DrivePort) : (s.updDp n f).frozen = s.frozen := rfl
@[simp] theorem State.updDp_softRst (n : Fin 48) (f : DrivePort → DrivePort) : (s.updDp n f).softRst = s.softRst := rfl
@[simp] theorem State.updDp_rst (n : Fin 48) (f : DrivePort → DrivePort) : (s.updDp n f).rst = s.rst := rfl
@[simp] theorem State.updDp_recent (n : Fin 48) (f : DrivePort → DrivePort) : (s.updDp n f).recent = s.recent := rfl
@[simp] theorem State.updDp_unlockWin (n : Fin 48) (f : DrivePort → DrivePort) : (s.updDp n f).unlockWin = s.unlockWin := rfl
@[simp] theorem State.updDp_bar0 (n : Fin 48) (f : DrivePort → DrivePort) : (s.updDp n f).bar0 = s.bar0 := rfl
@[simp] theorem State.updDp_bar2 (n : Fin 48) (f : DrivePort → DrivePort) : (s.updDp n f).bar2 = s.bar2 := rfl
@[simp] theorem State.updDp_spi (n : Fin 48) (f : DrivePort → DrivePort) : (s.updDp n f).spi = s.spi := rfl
@[simp] theorem State.updDp_held (n : Fin 48) (f : DrivePort → DrivePort) : (s.updDp n f).held = s.held := rfl
@[simp] theorem State.updDp_evt (n : Fin 48) (f : DrivePort → DrivePort) : (s.updDp n f).evt = s.evt := rfl
@[simp] theorem State.updDp_host (n : Fin 48) (f : DrivePort → DrivePort) : (s.updDp n f).host = s.host := rfl
@[simp] theorem State.updDp_store (n : Fin 48) (f : DrivePort → DrivePort) : (s.updDp n f).store = s.store := rfl
@[simp] theorem State.updDp_epoch (n : Fin 48) (f : DrivePort → DrivePort) : (s.updDp n f).epoch = s.epoch := rfl
@[simp] theorem State.updDp_snaps (n : Fin 48) (f : DrivePort → DrivePort) : (s.updDp n f).snaps = s.snaps := rfl
@[simp] theorem State.updDp_lastCor (n : Fin 48) (f : DrivePort → DrivePort) : (s.updDp n f).lastCor = s.lastCor := rfl
@[simp] theorem State.updDp_cor (n : Fin 48) (f : DrivePort → DrivePort) : (s.updDp n f).cor = s.cor := rfl
@[simp] theorem State.updDp_cors (n : Fin 48) (f : DrivePort → DrivePort) : (s.updDp n f).cors = s.cors := rfl
@[simp] theorem State.updDp_refillQ (n : Fin 48) (f : DrivePort → DrivePort) : (s.updDp n f).refillQ = s.refillQ := rfl
@[simp] theorem State.updDp_queues (n : Fin 48) (f : DrivePort → DrivePort) : (s.updDp n f).queues = s.queues := rfl
@[simp] theorem State.updDp_axes (n : Fin 48) (f : DrivePort → DrivePort) : (s.updDp n f).axes = s.axes := rfl
@[simp] theorem State.updDp_cars (n : Fin 48) (f : DrivePort → DrivePort) : (s.updDp n f).cars = s.cars := rfl
@[simp] theorem State.updDp_fbs (n : Fin 48) (f : DrivePort → DrivePort) : (s.updDp n f).fbs = s.fbs := rfl
@[simp] theorem State.updDp_adcs (n : Fin 48) (f : DrivePort → DrivePort) : (s.updDp n f).adcs = s.adcs := rfl
@[simp] theorem State.updDp_si (n : Fin 48) (f : DrivePort → DrivePort) : (s.updDp n f).si = s.si := rfl
@[simp] theorem State.updDp_arb (n : Fin 48) (f : DrivePort → DrivePort) : (s.updDp n f).arb = s.arb := rfl
@[simp] theorem State.updDp_fiobs (n : Fin 48) (f : DrivePort → DrivePort) : (s.updDp n f).fiobs = s.fiobs := rfl
@[simp] theorem State.updDp_recd (n : Fin 48) (f : DrivePort → DrivePort) : (s.updDp n f).recd = s.recd := rfl
@[simp] theorem State.updDp_cans (n : Fin 48) (f : DrivePort → DrivePort) : (s.updDp n f).cans = s.cans := rfl
@[simp] theorem State.updDp_eths (n : Fin 48) (f : DrivePort → DrivePort) : (s.updDp n f).eths = s.eths := rfl
@[simp] theorem State.updDp_vms (n : Fin 48) (f : DrivePort → DrivePort) : (s.updDp n f).vms = s.vms := rfl
@[simp] theorem State.updDp_doors (n : Fin 48) (f : DrivePort → DrivePort) : (s.updDp n f).doors = s.doors := rfl
@[simp] theorem State.updDp_ovl (n : Fin 48) (f : DrivePort → DrivePort) : (s.updDp n f).ovl = s.ovl := rfl
@[simp] theorem State.updDp_engs (n : Fin 48) (f : DrivePort → DrivePort) : (s.updDp n f).engs = s.engs := rfl
@[simp] theorem State.updDp_word (n : Fin 48) (f : DrivePort → DrivePort) (p' : Pg) (o : Nat) : (s.updDp n f).word p' o = s.word p' o := rfl
@[simp] theorem State.updDp_get (n : Fin 48) (f : DrivePort → DrivePort) (p' : Pg) (g : Fld) : (s.updDp n f).get p' g = s.get p' g := rfl
@[simp] theorem State.updDp_getI (n : Fin 48) (f : DrivePort → DrivePort) (p' : Pg) (g : Fld) : (s.updDp n f).getI p' g = s.getI p' g := rfl
@[simp] theorem State.updDp_flag (n : Fin 48) (f : DrivePort → DrivePort) (p' : Pg) (g : Fld) : (s.updDp n f).flag p' g = s.flag p' g := rfl

/-! ### updEng -/

@[simp] theorem State.updEng_pending (e : Fin 13) (f : Engine → Engine) : (s.updEng e f).pending = s.pending := rfl
@[simp] theorem State.updEng_now (e : Fin 13) (f : Engine → Engine) : (s.updEng e f).now = s.now := rfl
@[simp] theorem State.updEng_timeC (e : Fin 13) (f : Engine → Engine) : (s.updEng e f).timeC = s.timeC := rfl
@[simp] theorem State.updEng_serial (e : Fin 13) (f : Engine → Engine) : (s.updEng e f).serial = s.serial := rfl
@[simp] theorem State.updEng_regs (e : Fin 13) (f : Engine → Engine) : (s.updEng e f).regs = s.regs := rfl
@[simp] theorem State.updEng_frozen (e : Fin 13) (f : Engine → Engine) : (s.updEng e f).frozen = s.frozen := rfl
@[simp] theorem State.updEng_softRst (e : Fin 13) (f : Engine → Engine) : (s.updEng e f).softRst = s.softRst := rfl
@[simp] theorem State.updEng_rst (e : Fin 13) (f : Engine → Engine) : (s.updEng e f).rst = s.rst := rfl
@[simp] theorem State.updEng_recent (e : Fin 13) (f : Engine → Engine) : (s.updEng e f).recent = s.recent := rfl
@[simp] theorem State.updEng_unlockWin (e : Fin 13) (f : Engine → Engine) : (s.updEng e f).unlockWin = s.unlockWin := rfl
@[simp] theorem State.updEng_bar0 (e : Fin 13) (f : Engine → Engine) : (s.updEng e f).bar0 = s.bar0 := rfl
@[simp] theorem State.updEng_bar2 (e : Fin 13) (f : Engine → Engine) : (s.updEng e f).bar2 = s.bar2 := rfl
@[simp] theorem State.updEng_spi (e : Fin 13) (f : Engine → Engine) : (s.updEng e f).spi = s.spi := rfl
@[simp] theorem State.updEng_held (e : Fin 13) (f : Engine → Engine) : (s.updEng e f).held = s.held := rfl
@[simp] theorem State.updEng_evt (e : Fin 13) (f : Engine → Engine) : (s.updEng e f).evt = s.evt := rfl
@[simp] theorem State.updEng_host (e : Fin 13) (f : Engine → Engine) : (s.updEng e f).host = s.host := rfl
@[simp] theorem State.updEng_store (e : Fin 13) (f : Engine → Engine) : (s.updEng e f).store = s.store := rfl
@[simp] theorem State.updEng_epoch (e : Fin 13) (f : Engine → Engine) : (s.updEng e f).epoch = s.epoch := rfl
@[simp] theorem State.updEng_snaps (e : Fin 13) (f : Engine → Engine) : (s.updEng e f).snaps = s.snaps := rfl
@[simp] theorem State.updEng_lastCor (e : Fin 13) (f : Engine → Engine) : (s.updEng e f).lastCor = s.lastCor := rfl
@[simp] theorem State.updEng_cor (e : Fin 13) (f : Engine → Engine) : (s.updEng e f).cor = s.cor := rfl
@[simp] theorem State.updEng_cors (e : Fin 13) (f : Engine → Engine) : (s.updEng e f).cors = s.cors := rfl
@[simp] theorem State.updEng_refillQ (e : Fin 13) (f : Engine → Engine) : (s.updEng e f).refillQ = s.refillQ := rfl
@[simp] theorem State.updEng_queues (e : Fin 13) (f : Engine → Engine) : (s.updEng e f).queues = s.queues := rfl
@[simp] theorem State.updEng_axes (e : Fin 13) (f : Engine → Engine) : (s.updEng e f).axes = s.axes := rfl
@[simp] theorem State.updEng_ports (e : Fin 13) (f : Engine → Engine) : (s.updEng e f).ports = s.ports := rfl
@[simp] theorem State.updEng_cars (e : Fin 13) (f : Engine → Engine) : (s.updEng e f).cars = s.cars := rfl
@[simp] theorem State.updEng_fbs (e : Fin 13) (f : Engine → Engine) : (s.updEng e f).fbs = s.fbs := rfl
@[simp] theorem State.updEng_adcs (e : Fin 13) (f : Engine → Engine) : (s.updEng e f).adcs = s.adcs := rfl
@[simp] theorem State.updEng_si (e : Fin 13) (f : Engine → Engine) : (s.updEng e f).si = s.si := rfl
@[simp] theorem State.updEng_arb (e : Fin 13) (f : Engine → Engine) : (s.updEng e f).arb = s.arb := rfl
@[simp] theorem State.updEng_fiobs (e : Fin 13) (f : Engine → Engine) : (s.updEng e f).fiobs = s.fiobs := rfl
@[simp] theorem State.updEng_recd (e : Fin 13) (f : Engine → Engine) : (s.updEng e f).recd = s.recd := rfl
@[simp] theorem State.updEng_cans (e : Fin 13) (f : Engine → Engine) : (s.updEng e f).cans = s.cans := rfl
@[simp] theorem State.updEng_eths (e : Fin 13) (f : Engine → Engine) : (s.updEng e f).eths = s.eths := rfl
@[simp] theorem State.updEng_vms (e : Fin 13) (f : Engine → Engine) : (s.updEng e f).vms = s.vms := rfl
@[simp] theorem State.updEng_doors (e : Fin 13) (f : Engine → Engine) : (s.updEng e f).doors = s.doors := rfl
@[simp] theorem State.updEng_ovl (e : Fin 13) (f : Engine → Engine) : (s.updEng e f).ovl = s.ovl := rfl
@[simp] theorem State.updEng_word (e : Fin 13) (f : Engine → Engine) (p' : Pg) (o : Nat) : (s.updEng e f).word p' o = s.word p' o := rfl
@[simp] theorem State.updEng_get (e : Fin 13) (f : Engine → Engine) (p' : Pg) (g : Fld) : (s.updEng e f).get p' g = s.get p' g := rfl
@[simp] theorem State.updEng_getI (e : Fin 13) (f : Engine → Engine) (p' : Pg) (g : Fld) : (s.updEng e f).getI p' g = s.getI p' g := rfl
@[simp] theorem State.updEng_flag (e : Fin 13) (f : Engine → Engine) (p' : Pg) (g : Fld) : (s.updEng e f).flag p' g = s.flag p' g := rfl

/-! ### updAdc -/

@[simp] theorem State.updAdc_pending (u : Fin 6) (f : AdcPart → AdcPart) : (s.updAdc u f).pending = s.pending := rfl
@[simp] theorem State.updAdc_now (u : Fin 6) (f : AdcPart → AdcPart) : (s.updAdc u f).now = s.now := rfl
@[simp] theorem State.updAdc_timeC (u : Fin 6) (f : AdcPart → AdcPart) : (s.updAdc u f).timeC = s.timeC := rfl
@[simp] theorem State.updAdc_serial (u : Fin 6) (f : AdcPart → AdcPart) : (s.updAdc u f).serial = s.serial := rfl
@[simp] theorem State.updAdc_regs (u : Fin 6) (f : AdcPart → AdcPart) : (s.updAdc u f).regs = s.regs := rfl
@[simp] theorem State.updAdc_frozen (u : Fin 6) (f : AdcPart → AdcPart) : (s.updAdc u f).frozen = s.frozen := rfl
@[simp] theorem State.updAdc_softRst (u : Fin 6) (f : AdcPart → AdcPart) : (s.updAdc u f).softRst = s.softRst := rfl
@[simp] theorem State.updAdc_rst (u : Fin 6) (f : AdcPart → AdcPart) : (s.updAdc u f).rst = s.rst := rfl
@[simp] theorem State.updAdc_recent (u : Fin 6) (f : AdcPart → AdcPart) : (s.updAdc u f).recent = s.recent := rfl
@[simp] theorem State.updAdc_unlockWin (u : Fin 6) (f : AdcPart → AdcPart) : (s.updAdc u f).unlockWin = s.unlockWin := rfl
@[simp] theorem State.updAdc_bar0 (u : Fin 6) (f : AdcPart → AdcPart) : (s.updAdc u f).bar0 = s.bar0 := rfl
@[simp] theorem State.updAdc_bar2 (u : Fin 6) (f : AdcPart → AdcPart) : (s.updAdc u f).bar2 = s.bar2 := rfl
@[simp] theorem State.updAdc_spi (u : Fin 6) (f : AdcPart → AdcPart) : (s.updAdc u f).spi = s.spi := rfl
@[simp] theorem State.updAdc_held (u : Fin 6) (f : AdcPart → AdcPart) : (s.updAdc u f).held = s.held := rfl
@[simp] theorem State.updAdc_evt (u : Fin 6) (f : AdcPart → AdcPart) : (s.updAdc u f).evt = s.evt := rfl
@[simp] theorem State.updAdc_host (u : Fin 6) (f : AdcPart → AdcPart) : (s.updAdc u f).host = s.host := rfl
@[simp] theorem State.updAdc_store (u : Fin 6) (f : AdcPart → AdcPart) : (s.updAdc u f).store = s.store := rfl
@[simp] theorem State.updAdc_epoch (u : Fin 6) (f : AdcPart → AdcPart) : (s.updAdc u f).epoch = s.epoch := rfl
@[simp] theorem State.updAdc_snaps (u : Fin 6) (f : AdcPart → AdcPart) : (s.updAdc u f).snaps = s.snaps := rfl
@[simp] theorem State.updAdc_lastCor (u : Fin 6) (f : AdcPart → AdcPart) : (s.updAdc u f).lastCor = s.lastCor := rfl
@[simp] theorem State.updAdc_cor (u : Fin 6) (f : AdcPart → AdcPart) : (s.updAdc u f).cor = s.cor := rfl
@[simp] theorem State.updAdc_cors (u : Fin 6) (f : AdcPart → AdcPart) : (s.updAdc u f).cors = s.cors := rfl
@[simp] theorem State.updAdc_refillQ (u : Fin 6) (f : AdcPart → AdcPart) : (s.updAdc u f).refillQ = s.refillQ := rfl
@[simp] theorem State.updAdc_queues (u : Fin 6) (f : AdcPart → AdcPart) : (s.updAdc u f).queues = s.queues := rfl
@[simp] theorem State.updAdc_axes (u : Fin 6) (f : AdcPart → AdcPart) : (s.updAdc u f).axes = s.axes := rfl
@[simp] theorem State.updAdc_ports (u : Fin 6) (f : AdcPart → AdcPart) : (s.updAdc u f).ports = s.ports := rfl
@[simp] theorem State.updAdc_cars (u : Fin 6) (f : AdcPart → AdcPart) : (s.updAdc u f).cars = s.cars := rfl
@[simp] theorem State.updAdc_fbs (u : Fin 6) (f : AdcPart → AdcPart) : (s.updAdc u f).fbs = s.fbs := rfl
@[simp] theorem State.updAdc_si (u : Fin 6) (f : AdcPart → AdcPart) : (s.updAdc u f).si = s.si := rfl
@[simp] theorem State.updAdc_arb (u : Fin 6) (f : AdcPart → AdcPart) : (s.updAdc u f).arb = s.arb := rfl
@[simp] theorem State.updAdc_fiobs (u : Fin 6) (f : AdcPart → AdcPart) : (s.updAdc u f).fiobs = s.fiobs := rfl
@[simp] theorem State.updAdc_recd (u : Fin 6) (f : AdcPart → AdcPart) : (s.updAdc u f).recd = s.recd := rfl
@[simp] theorem State.updAdc_cans (u : Fin 6) (f : AdcPart → AdcPart) : (s.updAdc u f).cans = s.cans := rfl
@[simp] theorem State.updAdc_eths (u : Fin 6) (f : AdcPart → AdcPart) : (s.updAdc u f).eths = s.eths := rfl
@[simp] theorem State.updAdc_vms (u : Fin 6) (f : AdcPart → AdcPart) : (s.updAdc u f).vms = s.vms := rfl
@[simp] theorem State.updAdc_doors (u : Fin 6) (f : AdcPart → AdcPart) : (s.updAdc u f).doors = s.doors := rfl
@[simp] theorem State.updAdc_ovl (u : Fin 6) (f : AdcPart → AdcPart) : (s.updAdc u f).ovl = s.ovl := rfl
@[simp] theorem State.updAdc_engs (u : Fin 6) (f : AdcPart → AdcPart) : (s.updAdc u f).engs = s.engs := rfl
@[simp] theorem State.updAdc_word (u : Fin 6) (f : AdcPart → AdcPart) (p' : Pg) (o : Nat) : (s.updAdc u f).word p' o = s.word p' o := rfl
@[simp] theorem State.updAdc_get (u : Fin 6) (f : AdcPart → AdcPart) (p' : Pg) (g : Fld) : (s.updAdc u f).get p' g = s.get p' g := rfl
@[simp] theorem State.updAdc_getI (u : Fin 6) (f : AdcPart → AdcPart) (p' : Pg) (g : Fld) : (s.updAdc u f).getI p' g = s.getI p' g := rfl
@[simp] theorem State.updAdc_flag (u : Fin 6) (f : AdcPart → AdcPart) (p' : Pg) (g : Fld) : (s.updAdc u f).flag p' g = s.flag p' g := rfl

/-! ### updArb -/

@[simp] theorem State.updArb_pending (f : ArbPart → ArbPart) : (s.updArb f).pending = s.pending := rfl
@[simp] theorem State.updArb_now (f : ArbPart → ArbPart) : (s.updArb f).now = s.now := rfl
@[simp] theorem State.updArb_timeC (f : ArbPart → ArbPart) : (s.updArb f).timeC = s.timeC := rfl
@[simp] theorem State.updArb_serial (f : ArbPart → ArbPart) : (s.updArb f).serial = s.serial := rfl
@[simp] theorem State.updArb_regs (f : ArbPart → ArbPart) : (s.updArb f).regs = s.regs := rfl
@[simp] theorem State.updArb_frozen (f : ArbPart → ArbPart) : (s.updArb f).frozen = s.frozen := rfl
@[simp] theorem State.updArb_softRst (f : ArbPart → ArbPart) : (s.updArb f).softRst = s.softRst := rfl
@[simp] theorem State.updArb_rst (f : ArbPart → ArbPart) : (s.updArb f).rst = s.rst := rfl
@[simp] theorem State.updArb_recent (f : ArbPart → ArbPart) : (s.updArb f).recent = s.recent := rfl
@[simp] theorem State.updArb_unlockWin (f : ArbPart → ArbPart) : (s.updArb f).unlockWin = s.unlockWin := rfl
@[simp] theorem State.updArb_bar0 (f : ArbPart → ArbPart) : (s.updArb f).bar0 = s.bar0 := rfl
@[simp] theorem State.updArb_bar2 (f : ArbPart → ArbPart) : (s.updArb f).bar2 = s.bar2 := rfl
@[simp] theorem State.updArb_spi (f : ArbPart → ArbPart) : (s.updArb f).spi = s.spi := rfl
@[simp] theorem State.updArb_held (f : ArbPart → ArbPart) : (s.updArb f).held = s.held := rfl
@[simp] theorem State.updArb_evt (f : ArbPart → ArbPart) : (s.updArb f).evt = s.evt := rfl
@[simp] theorem State.updArb_host (f : ArbPart → ArbPart) : (s.updArb f).host = s.host := rfl
@[simp] theorem State.updArb_store (f : ArbPart → ArbPart) : (s.updArb f).store = s.store := rfl
@[simp] theorem State.updArb_epoch (f : ArbPart → ArbPart) : (s.updArb f).epoch = s.epoch := rfl
@[simp] theorem State.updArb_snaps (f : ArbPart → ArbPart) : (s.updArb f).snaps = s.snaps := rfl
@[simp] theorem State.updArb_lastCor (f : ArbPart → ArbPart) : (s.updArb f).lastCor = s.lastCor := rfl
@[simp] theorem State.updArb_cor (f : ArbPart → ArbPart) : (s.updArb f).cor = s.cor := rfl
@[simp] theorem State.updArb_cors (f : ArbPart → ArbPart) : (s.updArb f).cors = s.cors := rfl
@[simp] theorem State.updArb_refillQ (f : ArbPart → ArbPart) : (s.updArb f).refillQ = s.refillQ := rfl
@[simp] theorem State.updArb_queues (f : ArbPart → ArbPart) : (s.updArb f).queues = s.queues := rfl
@[simp] theorem State.updArb_axes (f : ArbPart → ArbPart) : (s.updArb f).axes = s.axes := rfl
@[simp] theorem State.updArb_ports (f : ArbPart → ArbPart) : (s.updArb f).ports = s.ports := rfl
@[simp] theorem State.updArb_cars (f : ArbPart → ArbPart) : (s.updArb f).cars = s.cars := rfl
@[simp] theorem State.updArb_fbs (f : ArbPart → ArbPart) : (s.updArb f).fbs = s.fbs := rfl
@[simp] theorem State.updArb_adcs (f : ArbPart → ArbPart) : (s.updArb f).adcs = s.adcs := rfl
@[simp] theorem State.updArb_si (f : ArbPart → ArbPart) : (s.updArb f).si = s.si := rfl
@[simp] theorem State.updArb_fiobs (f : ArbPart → ArbPart) : (s.updArb f).fiobs = s.fiobs := rfl
@[simp] theorem State.updArb_recd (f : ArbPart → ArbPart) : (s.updArb f).recd = s.recd := rfl
@[simp] theorem State.updArb_cans (f : ArbPart → ArbPart) : (s.updArb f).cans = s.cans := rfl
@[simp] theorem State.updArb_eths (f : ArbPart → ArbPart) : (s.updArb f).eths = s.eths := rfl
@[simp] theorem State.updArb_vms (f : ArbPart → ArbPart) : (s.updArb f).vms = s.vms := rfl
@[simp] theorem State.updArb_doors (f : ArbPart → ArbPart) : (s.updArb f).doors = s.doors := rfl
@[simp] theorem State.updArb_ovl (f : ArbPart → ArbPart) : (s.updArb f).ovl = s.ovl := rfl
@[simp] theorem State.updArb_engs (f : ArbPart → ArbPart) : (s.updArb f).engs = s.engs := rfl
@[simp] theorem State.updArb_word (f : ArbPart → ArbPart) (p' : Pg) (o : Nat) : (s.updArb f).word p' o = s.word p' o := rfl
@[simp] theorem State.updArb_get (f : ArbPart → ArbPart) (p' : Pg) (g : Fld) : (s.updArb f).get p' g = s.get p' g := rfl
@[simp] theorem State.updArb_getI (f : ArbPart → ArbPart) (p' : Pg) (g : Fld) : (s.updArb f).getI p' g = s.getI p' g := rfl
@[simp] theorem State.updArb_flag (f : ArbPart → ArbPart) (p' : Pg) (g : Fld) : (s.updArb f).flag p' g = s.flag p' g := rfl

/-! ### updCan -/

@[simp] theorem State.updCan_pending (c : Fin 4) (f : CanPart → CanPart) : (s.updCan c f).pending = s.pending := rfl
@[simp] theorem State.updCan_now (c : Fin 4) (f : CanPart → CanPart) : (s.updCan c f).now = s.now := rfl
@[simp] theorem State.updCan_timeC (c : Fin 4) (f : CanPart → CanPart) : (s.updCan c f).timeC = s.timeC := rfl
@[simp] theorem State.updCan_serial (c : Fin 4) (f : CanPart → CanPart) : (s.updCan c f).serial = s.serial := rfl
@[simp] theorem State.updCan_regs (c : Fin 4) (f : CanPart → CanPart) : (s.updCan c f).regs = s.regs := rfl
@[simp] theorem State.updCan_frozen (c : Fin 4) (f : CanPart → CanPart) : (s.updCan c f).frozen = s.frozen := rfl
@[simp] theorem State.updCan_softRst (c : Fin 4) (f : CanPart → CanPart) : (s.updCan c f).softRst = s.softRst := rfl
@[simp] theorem State.updCan_rst (c : Fin 4) (f : CanPart → CanPart) : (s.updCan c f).rst = s.rst := rfl
@[simp] theorem State.updCan_recent (c : Fin 4) (f : CanPart → CanPart) : (s.updCan c f).recent = s.recent := rfl
@[simp] theorem State.updCan_unlockWin (c : Fin 4) (f : CanPart → CanPart) : (s.updCan c f).unlockWin = s.unlockWin := rfl
@[simp] theorem State.updCan_bar0 (c : Fin 4) (f : CanPart → CanPart) : (s.updCan c f).bar0 = s.bar0 := rfl
@[simp] theorem State.updCan_bar2 (c : Fin 4) (f : CanPart → CanPart) : (s.updCan c f).bar2 = s.bar2 := rfl
@[simp] theorem State.updCan_spi (c : Fin 4) (f : CanPart → CanPart) : (s.updCan c f).spi = s.spi := rfl
@[simp] theorem State.updCan_held (c : Fin 4) (f : CanPart → CanPart) : (s.updCan c f).held = s.held := rfl
@[simp] theorem State.updCan_evt (c : Fin 4) (f : CanPart → CanPart) : (s.updCan c f).evt = s.evt := rfl
@[simp] theorem State.updCan_host (c : Fin 4) (f : CanPart → CanPart) : (s.updCan c f).host = s.host := rfl
@[simp] theorem State.updCan_store (c : Fin 4) (f : CanPart → CanPart) : (s.updCan c f).store = s.store := rfl
@[simp] theorem State.updCan_epoch (c : Fin 4) (f : CanPart → CanPart) : (s.updCan c f).epoch = s.epoch := rfl
@[simp] theorem State.updCan_snaps (c : Fin 4) (f : CanPart → CanPart) : (s.updCan c f).snaps = s.snaps := rfl
@[simp] theorem State.updCan_lastCor (c : Fin 4) (f : CanPart → CanPart) : (s.updCan c f).lastCor = s.lastCor := rfl
@[simp] theorem State.updCan_cor (c : Fin 4) (f : CanPart → CanPart) : (s.updCan c f).cor = s.cor := rfl
@[simp] theorem State.updCan_cors (c : Fin 4) (f : CanPart → CanPart) : (s.updCan c f).cors = s.cors := rfl
@[simp] theorem State.updCan_refillQ (c : Fin 4) (f : CanPart → CanPart) : (s.updCan c f).refillQ = s.refillQ := rfl
@[simp] theorem State.updCan_queues (c : Fin 4) (f : CanPart → CanPart) : (s.updCan c f).queues = s.queues := rfl
@[simp] theorem State.updCan_axes (c : Fin 4) (f : CanPart → CanPart) : (s.updCan c f).axes = s.axes := rfl
@[simp] theorem State.updCan_ports (c : Fin 4) (f : CanPart → CanPart) : (s.updCan c f).ports = s.ports := rfl
@[simp] theorem State.updCan_cars (c : Fin 4) (f : CanPart → CanPart) : (s.updCan c f).cars = s.cars := rfl
@[simp] theorem State.updCan_fbs (c : Fin 4) (f : CanPart → CanPart) : (s.updCan c f).fbs = s.fbs := rfl
@[simp] theorem State.updCan_adcs (c : Fin 4) (f : CanPart → CanPart) : (s.updCan c f).adcs = s.adcs := rfl
@[simp] theorem State.updCan_si (c : Fin 4) (f : CanPart → CanPart) : (s.updCan c f).si = s.si := rfl
@[simp] theorem State.updCan_arb (c : Fin 4) (f : CanPart → CanPart) : (s.updCan c f).arb = s.arb := rfl
@[simp] theorem State.updCan_fiobs (c : Fin 4) (f : CanPart → CanPart) : (s.updCan c f).fiobs = s.fiobs := rfl
@[simp] theorem State.updCan_recd (c : Fin 4) (f : CanPart → CanPart) : (s.updCan c f).recd = s.recd := rfl
@[simp] theorem State.updCan_eths (c : Fin 4) (f : CanPart → CanPart) : (s.updCan c f).eths = s.eths := rfl
@[simp] theorem State.updCan_vms (c : Fin 4) (f : CanPart → CanPart) : (s.updCan c f).vms = s.vms := rfl
@[simp] theorem State.updCan_doors (c : Fin 4) (f : CanPart → CanPart) : (s.updCan c f).doors = s.doors := rfl
@[simp] theorem State.updCan_ovl (c : Fin 4) (f : CanPart → CanPart) : (s.updCan c f).ovl = s.ovl := rfl
@[simp] theorem State.updCan_engs (c : Fin 4) (f : CanPart → CanPart) : (s.updCan c f).engs = s.engs := rfl
@[simp] theorem State.updCan_word (c : Fin 4) (f : CanPart → CanPart) (p' : Pg) (o : Nat) : (s.updCan c f).word p' o = s.word p' o := rfl
@[simp] theorem State.updCan_get (c : Fin 4) (f : CanPart → CanPart) (p' : Pg) (g : Fld) : (s.updCan c f).get p' g = s.get p' g := rfl
@[simp] theorem State.updCan_getI (c : Fin 4) (f : CanPart → CanPart) (p' : Pg) (g : Fld) : (s.updCan c f).getI p' g = s.getI p' g := rfl
@[simp] theorem State.updCan_flag (c : Fin 4) (f : CanPart → CanPart) (p' : Pg) (g : Fld) : (s.updCan c f).flag p' g = s.flag p' g := rfl

/-! ### updHost -/

@[simp] theorem State.updHost_pending (f : HostPart → HostPart) : (s.updHost f).pending = s.pending := rfl
@[simp] theorem State.updHost_now (f : HostPart → HostPart) : (s.updHost f).now = s.now := rfl
@[simp] theorem State.updHost_timeC (f : HostPart → HostPart) : (s.updHost f).timeC = s.timeC := rfl
@[simp] theorem State.updHost_serial (f : HostPart → HostPart) : (s.updHost f).serial = s.serial := rfl
@[simp] theorem State.updHost_regs (f : HostPart → HostPart) : (s.updHost f).regs = s.regs := rfl
@[simp] theorem State.updHost_frozen (f : HostPart → HostPart) : (s.updHost f).frozen = s.frozen := rfl
@[simp] theorem State.updHost_softRst (f : HostPart → HostPart) : (s.updHost f).softRst = s.softRst := rfl
@[simp] theorem State.updHost_rst (f : HostPart → HostPart) : (s.updHost f).rst = s.rst := rfl
@[simp] theorem State.updHost_recent (f : HostPart → HostPart) : (s.updHost f).recent = s.recent := rfl
@[simp] theorem State.updHost_unlockWin (f : HostPart → HostPart) : (s.updHost f).unlockWin = s.unlockWin := rfl
@[simp] theorem State.updHost_bar0 (f : HostPart → HostPart) : (s.updHost f).bar0 = s.bar0 := rfl
@[simp] theorem State.updHost_bar2 (f : HostPart → HostPart) : (s.updHost f).bar2 = s.bar2 := rfl
@[simp] theorem State.updHost_spi (f : HostPart → HostPart) : (s.updHost f).spi = s.spi := rfl
@[simp] theorem State.updHost_held (f : HostPart → HostPart) : (s.updHost f).held = s.held := rfl
@[simp] theorem State.updHost_evt (f : HostPart → HostPart) : (s.updHost f).evt = s.evt := rfl
@[simp] theorem State.updHost_store (f : HostPart → HostPart) : (s.updHost f).store = s.store := rfl
@[simp] theorem State.updHost_epoch (f : HostPart → HostPart) : (s.updHost f).epoch = s.epoch := rfl
@[simp] theorem State.updHost_snaps (f : HostPart → HostPart) : (s.updHost f).snaps = s.snaps := rfl
@[simp] theorem State.updHost_lastCor (f : HostPart → HostPart) : (s.updHost f).lastCor = s.lastCor := rfl
@[simp] theorem State.updHost_cor (f : HostPart → HostPart) : (s.updHost f).cor = s.cor := rfl
@[simp] theorem State.updHost_cors (f : HostPart → HostPart) : (s.updHost f).cors = s.cors := rfl
@[simp] theorem State.updHost_refillQ (f : HostPart → HostPart) : (s.updHost f).refillQ = s.refillQ := rfl
@[simp] theorem State.updHost_queues (f : HostPart → HostPart) : (s.updHost f).queues = s.queues := rfl
@[simp] theorem State.updHost_axes (f : HostPart → HostPart) : (s.updHost f).axes = s.axes := rfl
@[simp] theorem State.updHost_ports (f : HostPart → HostPart) : (s.updHost f).ports = s.ports := rfl
@[simp] theorem State.updHost_cars (f : HostPart → HostPart) : (s.updHost f).cars = s.cars := rfl
@[simp] theorem State.updHost_fbs (f : HostPart → HostPart) : (s.updHost f).fbs = s.fbs := rfl
@[simp] theorem State.updHost_adcs (f : HostPart → HostPart) : (s.updHost f).adcs = s.adcs := rfl
@[simp] theorem State.updHost_si (f : HostPart → HostPart) : (s.updHost f).si = s.si := rfl
@[simp] theorem State.updHost_arb (f : HostPart → HostPart) : (s.updHost f).arb = s.arb := rfl
@[simp] theorem State.updHost_fiobs (f : HostPart → HostPart) : (s.updHost f).fiobs = s.fiobs := rfl
@[simp] theorem State.updHost_recd (f : HostPart → HostPart) : (s.updHost f).recd = s.recd := rfl
@[simp] theorem State.updHost_cans (f : HostPart → HostPart) : (s.updHost f).cans = s.cans := rfl
@[simp] theorem State.updHost_eths (f : HostPart → HostPart) : (s.updHost f).eths = s.eths := rfl
@[simp] theorem State.updHost_vms (f : HostPart → HostPart) : (s.updHost f).vms = s.vms := rfl
@[simp] theorem State.updHost_doors (f : HostPart → HostPart) : (s.updHost f).doors = s.doors := rfl
@[simp] theorem State.updHost_ovl (f : HostPart → HostPart) : (s.updHost f).ovl = s.ovl := rfl
@[simp] theorem State.updHost_engs (f : HostPart → HostPart) : (s.updHost f).engs = s.engs := rfl
@[simp] theorem State.updHost_word (f : HostPart → HostPart) (p' : Pg) (o : Nat) : (s.updHost f).word p' o = s.word p' o := rfl
@[simp] theorem State.updHost_get (f : HostPart → HostPart) (p' : Pg) (g : Fld) : (s.updHost f).get p' g = s.get p' g := rfl
@[simp] theorem State.updHost_getI (f : HostPart → HostPart) (p' : Pg) (g : Fld) : (s.updHost f).getI p' g = s.getI p' g := rfl
@[simp] theorem State.updHost_flag (f : HostPart → HostPart) (p' : Pg) (g : Fld) : (s.updHost f).flag p' g = s.flag p' g := rfl

/-! ### updDoor -/

@[simp] theorem State.updDoor_pending (d : Fin 32) (f : Door → Door) : (s.updDoor d f).pending = s.pending := rfl
@[simp] theorem State.updDoor_now (d : Fin 32) (f : Door → Door) : (s.updDoor d f).now = s.now := rfl
@[simp] theorem State.updDoor_timeC (d : Fin 32) (f : Door → Door) : (s.updDoor d f).timeC = s.timeC := rfl
@[simp] theorem State.updDoor_serial (d : Fin 32) (f : Door → Door) : (s.updDoor d f).serial = s.serial := rfl
@[simp] theorem State.updDoor_regs (d : Fin 32) (f : Door → Door) : (s.updDoor d f).regs = s.regs := rfl
@[simp] theorem State.updDoor_frozen (d : Fin 32) (f : Door → Door) : (s.updDoor d f).frozen = s.frozen := rfl
@[simp] theorem State.updDoor_softRst (d : Fin 32) (f : Door → Door) : (s.updDoor d f).softRst = s.softRst := rfl
@[simp] theorem State.updDoor_rst (d : Fin 32) (f : Door → Door) : (s.updDoor d f).rst = s.rst := rfl
@[simp] theorem State.updDoor_recent (d : Fin 32) (f : Door → Door) : (s.updDoor d f).recent = s.recent := rfl
@[simp] theorem State.updDoor_unlockWin (d : Fin 32) (f : Door → Door) : (s.updDoor d f).unlockWin = s.unlockWin := rfl
@[simp] theorem State.updDoor_bar0 (d : Fin 32) (f : Door → Door) : (s.updDoor d f).bar0 = s.bar0 := rfl
@[simp] theorem State.updDoor_bar2 (d : Fin 32) (f : Door → Door) : (s.updDoor d f).bar2 = s.bar2 := rfl
@[simp] theorem State.updDoor_spi (d : Fin 32) (f : Door → Door) : (s.updDoor d f).spi = s.spi := rfl
@[simp] theorem State.updDoor_held (d : Fin 32) (f : Door → Door) : (s.updDoor d f).held = s.held := rfl
@[simp] theorem State.updDoor_evt (d : Fin 32) (f : Door → Door) : (s.updDoor d f).evt = s.evt := rfl
@[simp] theorem State.updDoor_host (d : Fin 32) (f : Door → Door) : (s.updDoor d f).host = s.host := rfl
@[simp] theorem State.updDoor_store (d : Fin 32) (f : Door → Door) : (s.updDoor d f).store = s.store := rfl
@[simp] theorem State.updDoor_epoch (d : Fin 32) (f : Door → Door) : (s.updDoor d f).epoch = s.epoch := rfl
@[simp] theorem State.updDoor_snaps (d : Fin 32) (f : Door → Door) : (s.updDoor d f).snaps = s.snaps := rfl
@[simp] theorem State.updDoor_lastCor (d : Fin 32) (f : Door → Door) : (s.updDoor d f).lastCor = s.lastCor := rfl
@[simp] theorem State.updDoor_cor (d : Fin 32) (f : Door → Door) : (s.updDoor d f).cor = s.cor := rfl
@[simp] theorem State.updDoor_cors (d : Fin 32) (f : Door → Door) : (s.updDoor d f).cors = s.cors := rfl
@[simp] theorem State.updDoor_refillQ (d : Fin 32) (f : Door → Door) : (s.updDoor d f).refillQ = s.refillQ := rfl
@[simp] theorem State.updDoor_queues (d : Fin 32) (f : Door → Door) : (s.updDoor d f).queues = s.queues := rfl
@[simp] theorem State.updDoor_axes (d : Fin 32) (f : Door → Door) : (s.updDoor d f).axes = s.axes := rfl
@[simp] theorem State.updDoor_ports (d : Fin 32) (f : Door → Door) : (s.updDoor d f).ports = s.ports := rfl
@[simp] theorem State.updDoor_cars (d : Fin 32) (f : Door → Door) : (s.updDoor d f).cars = s.cars := rfl
@[simp] theorem State.updDoor_fbs (d : Fin 32) (f : Door → Door) : (s.updDoor d f).fbs = s.fbs := rfl
@[simp] theorem State.updDoor_adcs (d : Fin 32) (f : Door → Door) : (s.updDoor d f).adcs = s.adcs := rfl
@[simp] theorem State.updDoor_si (d : Fin 32) (f : Door → Door) : (s.updDoor d f).si = s.si := rfl
@[simp] theorem State.updDoor_arb (d : Fin 32) (f : Door → Door) : (s.updDoor d f).arb = s.arb := rfl
@[simp] theorem State.updDoor_fiobs (d : Fin 32) (f : Door → Door) : (s.updDoor d f).fiobs = s.fiobs := rfl
@[simp] theorem State.updDoor_recd (d : Fin 32) (f : Door → Door) : (s.updDoor d f).recd = s.recd := rfl
@[simp] theorem State.updDoor_cans (d : Fin 32) (f : Door → Door) : (s.updDoor d f).cans = s.cans := rfl
@[simp] theorem State.updDoor_eths (d : Fin 32) (f : Door → Door) : (s.updDoor d f).eths = s.eths := rfl
@[simp] theorem State.updDoor_vms (d : Fin 32) (f : Door → Door) : (s.updDoor d f).vms = s.vms := rfl
@[simp] theorem State.updDoor_ovl (d : Fin 32) (f : Door → Door) : (s.updDoor d f).ovl = s.ovl := rfl
@[simp] theorem State.updDoor_engs (d : Fin 32) (f : Door → Door) : (s.updDoor d f).engs = s.engs := rfl
@[simp] theorem State.updDoor_word (d : Fin 32) (f : Door → Door) (p' : Pg) (o : Nat) : (s.updDoor d f).word p' o = s.word p' o := rfl
@[simp] theorem State.updDoor_get (d : Fin 32) (f : Door → Door) (p' : Pg) (g : Fld) : (s.updDoor d f).get p' g = s.get p' g := rfl
@[simp] theorem State.updDoor_getI (d : Fin 32) (f : Door → Door) (p' : Pg) (g : Fld) : (s.updDoor d f).getI p' g = s.getI p' g := rfl
@[simp] theorem State.updDoor_flag (d : Fin 32) (f : Door → Door) (p' : Pg) (g : Fld) : (s.updDoor d f).flag p' g = s.flag p' g := rfl

/-! ### updEth -/

@[simp] theorem State.updEth_pending (p : Fin 2) (f : EthPart → EthPart) : (s.updEth p f).pending = s.pending := rfl
@[simp] theorem State.updEth_now (p : Fin 2) (f : EthPart → EthPart) : (s.updEth p f).now = s.now := rfl
@[simp] theorem State.updEth_timeC (p : Fin 2) (f : EthPart → EthPart) : (s.updEth p f).timeC = s.timeC := rfl
@[simp] theorem State.updEth_serial (p : Fin 2) (f : EthPart → EthPart) : (s.updEth p f).serial = s.serial := rfl
@[simp] theorem State.updEth_regs (p : Fin 2) (f : EthPart → EthPart) : (s.updEth p f).regs = s.regs := rfl
@[simp] theorem State.updEth_frozen (p : Fin 2) (f : EthPart → EthPart) : (s.updEth p f).frozen = s.frozen := rfl
@[simp] theorem State.updEth_softRst (p : Fin 2) (f : EthPart → EthPart) : (s.updEth p f).softRst = s.softRst := rfl
@[simp] theorem State.updEth_rst (p : Fin 2) (f : EthPart → EthPart) : (s.updEth p f).rst = s.rst := rfl
@[simp] theorem State.updEth_recent (p : Fin 2) (f : EthPart → EthPart) : (s.updEth p f).recent = s.recent := rfl
@[simp] theorem State.updEth_unlockWin (p : Fin 2) (f : EthPart → EthPart) : (s.updEth p f).unlockWin = s.unlockWin := rfl
@[simp] theorem State.updEth_bar0 (p : Fin 2) (f : EthPart → EthPart) : (s.updEth p f).bar0 = s.bar0 := rfl
@[simp] theorem State.updEth_bar2 (p : Fin 2) (f : EthPart → EthPart) : (s.updEth p f).bar2 = s.bar2 := rfl
@[simp] theorem State.updEth_spi (p : Fin 2) (f : EthPart → EthPart) : (s.updEth p f).spi = s.spi := rfl
@[simp] theorem State.updEth_held (p : Fin 2) (f : EthPart → EthPart) : (s.updEth p f).held = s.held := rfl
@[simp] theorem State.updEth_evt (p : Fin 2) (f : EthPart → EthPart) : (s.updEth p f).evt = s.evt := rfl
@[simp] theorem State.updEth_host (p : Fin 2) (f : EthPart → EthPart) : (s.updEth p f).host = s.host := rfl
@[simp] theorem State.updEth_store (p : Fin 2) (f : EthPart → EthPart) : (s.updEth p f).store = s.store := rfl
@[simp] theorem State.updEth_epoch (p : Fin 2) (f : EthPart → EthPart) : (s.updEth p f).epoch = s.epoch := rfl
@[simp] theorem State.updEth_snaps (p : Fin 2) (f : EthPart → EthPart) : (s.updEth p f).snaps = s.snaps := rfl
@[simp] theorem State.updEth_lastCor (p : Fin 2) (f : EthPart → EthPart) : (s.updEth p f).lastCor = s.lastCor := rfl
@[simp] theorem State.updEth_cor (p : Fin 2) (f : EthPart → EthPart) : (s.updEth p f).cor = s.cor := rfl
@[simp] theorem State.updEth_cors (p : Fin 2) (f : EthPart → EthPart) : (s.updEth p f).cors = s.cors := rfl
@[simp] theorem State.updEth_refillQ (p : Fin 2) (f : EthPart → EthPart) : (s.updEth p f).refillQ = s.refillQ := rfl
@[simp] theorem State.updEth_queues (p : Fin 2) (f : EthPart → EthPart) : (s.updEth p f).queues = s.queues := rfl
@[simp] theorem State.updEth_axes (p : Fin 2) (f : EthPart → EthPart) : (s.updEth p f).axes = s.axes := rfl
@[simp] theorem State.updEth_ports (p : Fin 2) (f : EthPart → EthPart) : (s.updEth p f).ports = s.ports := rfl
@[simp] theorem State.updEth_cars (p : Fin 2) (f : EthPart → EthPart) : (s.updEth p f).cars = s.cars := rfl
@[simp] theorem State.updEth_fbs (p : Fin 2) (f : EthPart → EthPart) : (s.updEth p f).fbs = s.fbs := rfl
@[simp] theorem State.updEth_adcs (p : Fin 2) (f : EthPart → EthPart) : (s.updEth p f).adcs = s.adcs := rfl
@[simp] theorem State.updEth_si (p : Fin 2) (f : EthPart → EthPart) : (s.updEth p f).si = s.si := rfl
@[simp] theorem State.updEth_arb (p : Fin 2) (f : EthPart → EthPart) : (s.updEth p f).arb = s.arb := rfl
@[simp] theorem State.updEth_fiobs (p : Fin 2) (f : EthPart → EthPart) : (s.updEth p f).fiobs = s.fiobs := rfl
@[simp] theorem State.updEth_recd (p : Fin 2) (f : EthPart → EthPart) : (s.updEth p f).recd = s.recd := rfl
@[simp] theorem State.updEth_cans (p : Fin 2) (f : EthPart → EthPart) : (s.updEth p f).cans = s.cans := rfl
@[simp] theorem State.updEth_vms (p : Fin 2) (f : EthPart → EthPart) : (s.updEth p f).vms = s.vms := rfl
@[simp] theorem State.updEth_doors (p : Fin 2) (f : EthPart → EthPart) : (s.updEth p f).doors = s.doors := rfl
@[simp] theorem State.updEth_ovl (p : Fin 2) (f : EthPart → EthPart) : (s.updEth p f).ovl = s.ovl := rfl
@[simp] theorem State.updEth_engs (p : Fin 2) (f : EthPart → EthPart) : (s.updEth p f).engs = s.engs := rfl
@[simp] theorem State.updEth_word (p : Fin 2) (f : EthPart → EthPart) (p' : Pg) (o : Nat) : (s.updEth p f).word p' o = s.word p' o := rfl
@[simp] theorem State.updEth_get (p : Fin 2) (f : EthPart → EthPart) (p' : Pg) (g : Fld) : (s.updEth p f).get p' g = s.get p' g := rfl
@[simp] theorem State.updEth_getI (p : Fin 2) (f : EthPart → EthPart) (p' : Pg) (g : Fld) : (s.updEth p f).getI p' g = s.getI p' g := rfl
@[simp] theorem State.updEth_flag (p : Fin 2) (f : EthPart → EthPart) (p' : Pg) (g : Fld) : (s.updEth p f).flag p' g = s.flag p' g := rfl

/-! ### updEvt -/

@[simp] theorem State.updEvt_pending (f : EvtPart → EvtPart) : (s.updEvt f).pending = s.pending := rfl
@[simp] theorem State.updEvt_now (f : EvtPart → EvtPart) : (s.updEvt f).now = s.now := rfl
@[simp] theorem State.updEvt_timeC (f : EvtPart → EvtPart) : (s.updEvt f).timeC = s.timeC := rfl
@[simp] theorem State.updEvt_serial (f : EvtPart → EvtPart) : (s.updEvt f).serial = s.serial := rfl
@[simp] theorem State.updEvt_regs (f : EvtPart → EvtPart) : (s.updEvt f).regs = s.regs := rfl
@[simp] theorem State.updEvt_frozen (f : EvtPart → EvtPart) : (s.updEvt f).frozen = s.frozen := rfl
@[simp] theorem State.updEvt_softRst (f : EvtPart → EvtPart) : (s.updEvt f).softRst = s.softRst := rfl
@[simp] theorem State.updEvt_rst (f : EvtPart → EvtPart) : (s.updEvt f).rst = s.rst := rfl
@[simp] theorem State.updEvt_recent (f : EvtPart → EvtPart) : (s.updEvt f).recent = s.recent := rfl
@[simp] theorem State.updEvt_unlockWin (f : EvtPart → EvtPart) : (s.updEvt f).unlockWin = s.unlockWin := rfl
@[simp] theorem State.updEvt_bar0 (f : EvtPart → EvtPart) : (s.updEvt f).bar0 = s.bar0 := rfl
@[simp] theorem State.updEvt_bar2 (f : EvtPart → EvtPart) : (s.updEvt f).bar2 = s.bar2 := rfl
@[simp] theorem State.updEvt_spi (f : EvtPart → EvtPart) : (s.updEvt f).spi = s.spi := rfl
@[simp] theorem State.updEvt_held (f : EvtPart → EvtPart) : (s.updEvt f).held = s.held := rfl
@[simp] theorem State.updEvt_host (f : EvtPart → EvtPart) : (s.updEvt f).host = s.host := rfl
@[simp] theorem State.updEvt_store (f : EvtPart → EvtPart) : (s.updEvt f).store = s.store := rfl
@[simp] theorem State.updEvt_epoch (f : EvtPart → EvtPart) : (s.updEvt f).epoch = s.epoch := rfl
@[simp] theorem State.updEvt_snaps (f : EvtPart → EvtPart) : (s.updEvt f).snaps = s.snaps := rfl
@[simp] theorem State.updEvt_lastCor (f : EvtPart → EvtPart) : (s.updEvt f).lastCor = s.lastCor := rfl
@[simp] theorem State.updEvt_cor (f : EvtPart → EvtPart) : (s.updEvt f).cor = s.cor := rfl
@[simp] theorem State.updEvt_cors (f : EvtPart → EvtPart) : (s.updEvt f).cors = s.cors := rfl
@[simp] theorem State.updEvt_refillQ (f : EvtPart → EvtPart) : (s.updEvt f).refillQ = s.refillQ := rfl
@[simp] theorem State.updEvt_queues (f : EvtPart → EvtPart) : (s.updEvt f).queues = s.queues := rfl
@[simp] theorem State.updEvt_axes (f : EvtPart → EvtPart) : (s.updEvt f).axes = s.axes := rfl
@[simp] theorem State.updEvt_ports (f : EvtPart → EvtPart) : (s.updEvt f).ports = s.ports := rfl
@[simp] theorem State.updEvt_cars (f : EvtPart → EvtPart) : (s.updEvt f).cars = s.cars := rfl
@[simp] theorem State.updEvt_fbs (f : EvtPart → EvtPart) : (s.updEvt f).fbs = s.fbs := rfl
@[simp] theorem State.updEvt_adcs (f : EvtPart → EvtPart) : (s.updEvt f).adcs = s.adcs := rfl
@[simp] theorem State.updEvt_si (f : EvtPart → EvtPart) : (s.updEvt f).si = s.si := rfl
@[simp] theorem State.updEvt_arb (f : EvtPart → EvtPart) : (s.updEvt f).arb = s.arb := rfl
@[simp] theorem State.updEvt_fiobs (f : EvtPart → EvtPart) : (s.updEvt f).fiobs = s.fiobs := rfl
@[simp] theorem State.updEvt_recd (f : EvtPart → EvtPart) : (s.updEvt f).recd = s.recd := rfl
@[simp] theorem State.updEvt_cans (f : EvtPart → EvtPart) : (s.updEvt f).cans = s.cans := rfl
@[simp] theorem State.updEvt_eths (f : EvtPart → EvtPart) : (s.updEvt f).eths = s.eths := rfl
@[simp] theorem State.updEvt_vms (f : EvtPart → EvtPart) : (s.updEvt f).vms = s.vms := rfl
@[simp] theorem State.updEvt_doors (f : EvtPart → EvtPart) : (s.updEvt f).doors = s.doors := rfl
@[simp] theorem State.updEvt_ovl (f : EvtPart → EvtPart) : (s.updEvt f).ovl = s.ovl := rfl
@[simp] theorem State.updEvt_engs (f : EvtPart → EvtPart) : (s.updEvt f).engs = s.engs := rfl
@[simp] theorem State.updEvt_word (f : EvtPart → EvtPart) (p' : Pg) (o : Nat) : (s.updEvt f).word p' o = s.word p' o := rfl
@[simp] theorem State.updEvt_get (f : EvtPart → EvtPart) (p' : Pg) (g : Fld) : (s.updEvt f).get p' g = s.get p' g := rfl
@[simp] theorem State.updEvt_getI (f : EvtPart → EvtPart) (p' : Pg) (g : Fld) : (s.updEvt f).getI p' g = s.getI p' g := rfl
@[simp] theorem State.updEvt_flag (f : EvtPart → EvtPart) (p' : Pg) (g : Fld) : (s.updEvt f).flag p' g = s.flag p' g := rfl

/-! ### updFb -/

@[simp] theorem State.updFb_pending (n : Fin 48) (f : FbPart → FbPart) : (s.updFb n f).pending = s.pending := rfl
@[simp] theorem State.updFb_now (n : Fin 48) (f : FbPart → FbPart) : (s.updFb n f).now = s.now := rfl
@[simp] theorem State.updFb_timeC (n : Fin 48) (f : FbPart → FbPart) : (s.updFb n f).timeC = s.timeC := rfl
@[simp] theorem State.updFb_serial (n : Fin 48) (f : FbPart → FbPart) : (s.updFb n f).serial = s.serial := rfl
@[simp] theorem State.updFb_regs (n : Fin 48) (f : FbPart → FbPart) : (s.updFb n f).regs = s.regs := rfl
@[simp] theorem State.updFb_frozen (n : Fin 48) (f : FbPart → FbPart) : (s.updFb n f).frozen = s.frozen := rfl
@[simp] theorem State.updFb_softRst (n : Fin 48) (f : FbPart → FbPart) : (s.updFb n f).softRst = s.softRst := rfl
@[simp] theorem State.updFb_rst (n : Fin 48) (f : FbPart → FbPart) : (s.updFb n f).rst = s.rst := rfl
@[simp] theorem State.updFb_recent (n : Fin 48) (f : FbPart → FbPart) : (s.updFb n f).recent = s.recent := rfl
@[simp] theorem State.updFb_unlockWin (n : Fin 48) (f : FbPart → FbPart) : (s.updFb n f).unlockWin = s.unlockWin := rfl
@[simp] theorem State.updFb_bar0 (n : Fin 48) (f : FbPart → FbPart) : (s.updFb n f).bar0 = s.bar0 := rfl
@[simp] theorem State.updFb_bar2 (n : Fin 48) (f : FbPart → FbPart) : (s.updFb n f).bar2 = s.bar2 := rfl
@[simp] theorem State.updFb_spi (n : Fin 48) (f : FbPart → FbPart) : (s.updFb n f).spi = s.spi := rfl
@[simp] theorem State.updFb_held (n : Fin 48) (f : FbPart → FbPart) : (s.updFb n f).held = s.held := rfl
@[simp] theorem State.updFb_evt (n : Fin 48) (f : FbPart → FbPart) : (s.updFb n f).evt = s.evt := rfl
@[simp] theorem State.updFb_host (n : Fin 48) (f : FbPart → FbPart) : (s.updFb n f).host = s.host := rfl
@[simp] theorem State.updFb_store (n : Fin 48) (f : FbPart → FbPart) : (s.updFb n f).store = s.store := rfl
@[simp] theorem State.updFb_epoch (n : Fin 48) (f : FbPart → FbPart) : (s.updFb n f).epoch = s.epoch := rfl
@[simp] theorem State.updFb_snaps (n : Fin 48) (f : FbPart → FbPart) : (s.updFb n f).snaps = s.snaps := rfl
@[simp] theorem State.updFb_lastCor (n : Fin 48) (f : FbPart → FbPart) : (s.updFb n f).lastCor = s.lastCor := rfl
@[simp] theorem State.updFb_cor (n : Fin 48) (f : FbPart → FbPart) : (s.updFb n f).cor = s.cor := rfl
@[simp] theorem State.updFb_cors (n : Fin 48) (f : FbPart → FbPart) : (s.updFb n f).cors = s.cors := rfl
@[simp] theorem State.updFb_refillQ (n : Fin 48) (f : FbPart → FbPart) : (s.updFb n f).refillQ = s.refillQ := rfl
@[simp] theorem State.updFb_queues (n : Fin 48) (f : FbPart → FbPart) : (s.updFb n f).queues = s.queues := rfl
@[simp] theorem State.updFb_axes (n : Fin 48) (f : FbPart → FbPart) : (s.updFb n f).axes = s.axes := rfl
@[simp] theorem State.updFb_ports (n : Fin 48) (f : FbPart → FbPart) : (s.updFb n f).ports = s.ports := rfl
@[simp] theorem State.updFb_cars (n : Fin 48) (f : FbPart → FbPart) : (s.updFb n f).cars = s.cars := rfl
@[simp] theorem State.updFb_adcs (n : Fin 48) (f : FbPart → FbPart) : (s.updFb n f).adcs = s.adcs := rfl
@[simp] theorem State.updFb_si (n : Fin 48) (f : FbPart → FbPart) : (s.updFb n f).si = s.si := rfl
@[simp] theorem State.updFb_arb (n : Fin 48) (f : FbPart → FbPart) : (s.updFb n f).arb = s.arb := rfl
@[simp] theorem State.updFb_fiobs (n : Fin 48) (f : FbPart → FbPart) : (s.updFb n f).fiobs = s.fiobs := rfl
@[simp] theorem State.updFb_recd (n : Fin 48) (f : FbPart → FbPart) : (s.updFb n f).recd = s.recd := rfl
@[simp] theorem State.updFb_cans (n : Fin 48) (f : FbPart → FbPart) : (s.updFb n f).cans = s.cans := rfl
@[simp] theorem State.updFb_eths (n : Fin 48) (f : FbPart → FbPart) : (s.updFb n f).eths = s.eths := rfl
@[simp] theorem State.updFb_vms (n : Fin 48) (f : FbPart → FbPart) : (s.updFb n f).vms = s.vms := rfl
@[simp] theorem State.updFb_doors (n : Fin 48) (f : FbPart → FbPart) : (s.updFb n f).doors = s.doors := rfl
@[simp] theorem State.updFb_ovl (n : Fin 48) (f : FbPart → FbPart) : (s.updFb n f).ovl = s.ovl := rfl
@[simp] theorem State.updFb_engs (n : Fin 48) (f : FbPart → FbPart) : (s.updFb n f).engs = s.engs := rfl
@[simp] theorem State.updFb_word (n : Fin 48) (f : FbPart → FbPart) (p' : Pg) (o : Nat) : (s.updFb n f).word p' o = s.word p' o := rfl
@[simp] theorem State.updFb_get (n : Fin 48) (f : FbPart → FbPart) (p' : Pg) (g : Fld) : (s.updFb n f).get p' g = s.get p' g := rfl
@[simp] theorem State.updFb_getI (n : Fin 48) (f : FbPart → FbPart) (p' : Pg) (g : Fld) : (s.updFb n f).getI p' g = s.getI p' g := rfl
@[simp] theorem State.updFb_flag (n : Fin 48) (f : FbPart → FbPart) (p' : Pg) (g : Fld) : (s.updFb n f).flag p' g = s.flag p' g := rfl

/-! ### updFiob -/

@[simp] theorem State.updFiob_pending (b : Fin 4) (f : FiobPart → FiobPart) : (s.updFiob b f).pending = s.pending := rfl
@[simp] theorem State.updFiob_now (b : Fin 4) (f : FiobPart → FiobPart) : (s.updFiob b f).now = s.now := rfl
@[simp] theorem State.updFiob_timeC (b : Fin 4) (f : FiobPart → FiobPart) : (s.updFiob b f).timeC = s.timeC := rfl
@[simp] theorem State.updFiob_serial (b : Fin 4) (f : FiobPart → FiobPart) : (s.updFiob b f).serial = s.serial := rfl
@[simp] theorem State.updFiob_regs (b : Fin 4) (f : FiobPart → FiobPart) : (s.updFiob b f).regs = s.regs := rfl
@[simp] theorem State.updFiob_frozen (b : Fin 4) (f : FiobPart → FiobPart) : (s.updFiob b f).frozen = s.frozen := rfl
@[simp] theorem State.updFiob_softRst (b : Fin 4) (f : FiobPart → FiobPart) : (s.updFiob b f).softRst = s.softRst := rfl
@[simp] theorem State.updFiob_rst (b : Fin 4) (f : FiobPart → FiobPart) : (s.updFiob b f).rst = s.rst := rfl
@[simp] theorem State.updFiob_recent (b : Fin 4) (f : FiobPart → FiobPart) : (s.updFiob b f).recent = s.recent := rfl
@[simp] theorem State.updFiob_unlockWin (b : Fin 4) (f : FiobPart → FiobPart) : (s.updFiob b f).unlockWin = s.unlockWin := rfl
@[simp] theorem State.updFiob_bar0 (b : Fin 4) (f : FiobPart → FiobPart) : (s.updFiob b f).bar0 = s.bar0 := rfl
@[simp] theorem State.updFiob_bar2 (b : Fin 4) (f : FiobPart → FiobPart) : (s.updFiob b f).bar2 = s.bar2 := rfl
@[simp] theorem State.updFiob_spi (b : Fin 4) (f : FiobPart → FiobPart) : (s.updFiob b f).spi = s.spi := rfl
@[simp] theorem State.updFiob_held (b : Fin 4) (f : FiobPart → FiobPart) : (s.updFiob b f).held = s.held := rfl
@[simp] theorem State.updFiob_evt (b : Fin 4) (f : FiobPart → FiobPart) : (s.updFiob b f).evt = s.evt := rfl
@[simp] theorem State.updFiob_host (b : Fin 4) (f : FiobPart → FiobPart) : (s.updFiob b f).host = s.host := rfl
@[simp] theorem State.updFiob_store (b : Fin 4) (f : FiobPart → FiobPart) : (s.updFiob b f).store = s.store := rfl
@[simp] theorem State.updFiob_epoch (b : Fin 4) (f : FiobPart → FiobPart) : (s.updFiob b f).epoch = s.epoch := rfl
@[simp] theorem State.updFiob_snaps (b : Fin 4) (f : FiobPart → FiobPart) : (s.updFiob b f).snaps = s.snaps := rfl
@[simp] theorem State.updFiob_lastCor (b : Fin 4) (f : FiobPart → FiobPart) : (s.updFiob b f).lastCor = s.lastCor := rfl
@[simp] theorem State.updFiob_cor (b : Fin 4) (f : FiobPart → FiobPart) : (s.updFiob b f).cor = s.cor := rfl
@[simp] theorem State.updFiob_cors (b : Fin 4) (f : FiobPart → FiobPart) : (s.updFiob b f).cors = s.cors := rfl
@[simp] theorem State.updFiob_refillQ (b : Fin 4) (f : FiobPart → FiobPart) : (s.updFiob b f).refillQ = s.refillQ := rfl
@[simp] theorem State.updFiob_queues (b : Fin 4) (f : FiobPart → FiobPart) : (s.updFiob b f).queues = s.queues := rfl
@[simp] theorem State.updFiob_axes (b : Fin 4) (f : FiobPart → FiobPart) : (s.updFiob b f).axes = s.axes := rfl
@[simp] theorem State.updFiob_ports (b : Fin 4) (f : FiobPart → FiobPart) : (s.updFiob b f).ports = s.ports := rfl
@[simp] theorem State.updFiob_cars (b : Fin 4) (f : FiobPart → FiobPart) : (s.updFiob b f).cars = s.cars := rfl
@[simp] theorem State.updFiob_fbs (b : Fin 4) (f : FiobPart → FiobPart) : (s.updFiob b f).fbs = s.fbs := rfl
@[simp] theorem State.updFiob_adcs (b : Fin 4) (f : FiobPart → FiobPart) : (s.updFiob b f).adcs = s.adcs := rfl
@[simp] theorem State.updFiob_si (b : Fin 4) (f : FiobPart → FiobPart) : (s.updFiob b f).si = s.si := rfl
@[simp] theorem State.updFiob_arb (b : Fin 4) (f : FiobPart → FiobPart) : (s.updFiob b f).arb = s.arb := rfl
@[simp] theorem State.updFiob_recd (b : Fin 4) (f : FiobPart → FiobPart) : (s.updFiob b f).recd = s.recd := rfl
@[simp] theorem State.updFiob_cans (b : Fin 4) (f : FiobPart → FiobPart) : (s.updFiob b f).cans = s.cans := rfl
@[simp] theorem State.updFiob_eths (b : Fin 4) (f : FiobPart → FiobPart) : (s.updFiob b f).eths = s.eths := rfl
@[simp] theorem State.updFiob_vms (b : Fin 4) (f : FiobPart → FiobPart) : (s.updFiob b f).vms = s.vms := rfl
@[simp] theorem State.updFiob_doors (b : Fin 4) (f : FiobPart → FiobPart) : (s.updFiob b f).doors = s.doors := rfl
@[simp] theorem State.updFiob_ovl (b : Fin 4) (f : FiobPart → FiobPart) : (s.updFiob b f).ovl = s.ovl := rfl
@[simp] theorem State.updFiob_engs (b : Fin 4) (f : FiobPart → FiobPart) : (s.updFiob b f).engs = s.engs := rfl
@[simp] theorem State.updFiob_word (b : Fin 4) (f : FiobPart → FiobPart) (p' : Pg) (o : Nat) : (s.updFiob b f).word p' o = s.word p' o := rfl
@[simp] theorem State.updFiob_get (b : Fin 4) (f : FiobPart → FiobPart) (p' : Pg) (g : Fld) : (s.updFiob b f).get p' g = s.get p' g := rfl
@[simp] theorem State.updFiob_getI (b : Fin 4) (f : FiobPart → FiobPart) (p' : Pg) (g : Fld) : (s.updFiob b f).getI p' g = s.getI p' g := rfl
@[simp] theorem State.updFiob_flag (b : Fin 4) (f : FiobPart → FiobPart) (p' : Pg) (g : Fld) : (s.updFiob b f).flag p' g = s.flag p' g := rfl

/-! ### updSi -/

@[simp] theorem State.updSi_pending (f : SiPart → SiPart) : (s.updSi f).pending = s.pending := rfl
@[simp] theorem State.updSi_now (f : SiPart → SiPart) : (s.updSi f).now = s.now := rfl
@[simp] theorem State.updSi_timeC (f : SiPart → SiPart) : (s.updSi f).timeC = s.timeC := rfl
@[simp] theorem State.updSi_serial (f : SiPart → SiPart) : (s.updSi f).serial = s.serial := rfl
@[simp] theorem State.updSi_regs (f : SiPart → SiPart) : (s.updSi f).regs = s.regs := rfl
@[simp] theorem State.updSi_frozen (f : SiPart → SiPart) : (s.updSi f).frozen = s.frozen := rfl
@[simp] theorem State.updSi_softRst (f : SiPart → SiPart) : (s.updSi f).softRst = s.softRst := rfl
@[simp] theorem State.updSi_rst (f : SiPart → SiPart) : (s.updSi f).rst = s.rst := rfl
@[simp] theorem State.updSi_recent (f : SiPart → SiPart) : (s.updSi f).recent = s.recent := rfl
@[simp] theorem State.updSi_unlockWin (f : SiPart → SiPart) : (s.updSi f).unlockWin = s.unlockWin := rfl
@[simp] theorem State.updSi_bar0 (f : SiPart → SiPart) : (s.updSi f).bar0 = s.bar0 := rfl
@[simp] theorem State.updSi_bar2 (f : SiPart → SiPart) : (s.updSi f).bar2 = s.bar2 := rfl
@[simp] theorem State.updSi_spi (f : SiPart → SiPart) : (s.updSi f).spi = s.spi := rfl
@[simp] theorem State.updSi_held (f : SiPart → SiPart) : (s.updSi f).held = s.held := rfl
@[simp] theorem State.updSi_evt (f : SiPart → SiPart) : (s.updSi f).evt = s.evt := rfl
@[simp] theorem State.updSi_host (f : SiPart → SiPart) : (s.updSi f).host = s.host := rfl
@[simp] theorem State.updSi_store (f : SiPart → SiPart) : (s.updSi f).store = s.store := rfl
@[simp] theorem State.updSi_epoch (f : SiPart → SiPart) : (s.updSi f).epoch = s.epoch := rfl
@[simp] theorem State.updSi_snaps (f : SiPart → SiPart) : (s.updSi f).snaps = s.snaps := rfl
@[simp] theorem State.updSi_lastCor (f : SiPart → SiPart) : (s.updSi f).lastCor = s.lastCor := rfl
@[simp] theorem State.updSi_cor (f : SiPart → SiPart) : (s.updSi f).cor = s.cor := rfl
@[simp] theorem State.updSi_cors (f : SiPart → SiPart) : (s.updSi f).cors = s.cors := rfl
@[simp] theorem State.updSi_refillQ (f : SiPart → SiPart) : (s.updSi f).refillQ = s.refillQ := rfl
@[simp] theorem State.updSi_queues (f : SiPart → SiPart) : (s.updSi f).queues = s.queues := rfl
@[simp] theorem State.updSi_axes (f : SiPart → SiPart) : (s.updSi f).axes = s.axes := rfl
@[simp] theorem State.updSi_ports (f : SiPart → SiPart) : (s.updSi f).ports = s.ports := rfl
@[simp] theorem State.updSi_cars (f : SiPart → SiPart) : (s.updSi f).cars = s.cars := rfl
@[simp] theorem State.updSi_fbs (f : SiPart → SiPart) : (s.updSi f).fbs = s.fbs := rfl
@[simp] theorem State.updSi_adcs (f : SiPart → SiPart) : (s.updSi f).adcs = s.adcs := rfl
@[simp] theorem State.updSi_arb (f : SiPart → SiPart) : (s.updSi f).arb = s.arb := rfl
@[simp] theorem State.updSi_fiobs (f : SiPart → SiPart) : (s.updSi f).fiobs = s.fiobs := rfl
@[simp] theorem State.updSi_recd (f : SiPart → SiPart) : (s.updSi f).recd = s.recd := rfl
@[simp] theorem State.updSi_cans (f : SiPart → SiPart) : (s.updSi f).cans = s.cans := rfl
@[simp] theorem State.updSi_eths (f : SiPart → SiPart) : (s.updSi f).eths = s.eths := rfl
@[simp] theorem State.updSi_vms (f : SiPart → SiPart) : (s.updSi f).vms = s.vms := rfl
@[simp] theorem State.updSi_doors (f : SiPart → SiPart) : (s.updSi f).doors = s.doors := rfl
@[simp] theorem State.updSi_ovl (f : SiPart → SiPart) : (s.updSi f).ovl = s.ovl := rfl
@[simp] theorem State.updSi_engs (f : SiPart → SiPart) : (s.updSi f).engs = s.engs := rfl
@[simp] theorem State.updSi_word (f : SiPart → SiPart) (p' : Pg) (o : Nat) : (s.updSi f).word p' o = s.word p' o := rfl
@[simp] theorem State.updSi_get (f : SiPart → SiPart) (p' : Pg) (g : Fld) : (s.updSi f).get p' g = s.get p' g := rfl
@[simp] theorem State.updSi_getI (f : SiPart → SiPart) (p' : Pg) (g : Fld) : (s.updSi f).getI p' g = s.getI p' g := rfl
@[simp] theorem State.updSi_flag (f : SiPart → SiPart) (p' : Pg) (g : Fld) : (s.updSi f).flag p' g = s.flag p' g := rfl

/-! ### updVm -/

@[simp] theorem State.updVm_pending (v : Fin 8) (f : VMast → VMast) : (s.updVm v f).pending = s.pending := rfl
@[simp] theorem State.updVm_now (v : Fin 8) (f : VMast → VMast) : (s.updVm v f).now = s.now := rfl
@[simp] theorem State.updVm_timeC (v : Fin 8) (f : VMast → VMast) : (s.updVm v f).timeC = s.timeC := rfl
@[simp] theorem State.updVm_serial (v : Fin 8) (f : VMast → VMast) : (s.updVm v f).serial = s.serial := rfl
@[simp] theorem State.updVm_regs (v : Fin 8) (f : VMast → VMast) : (s.updVm v f).regs = s.regs := rfl
@[simp] theorem State.updVm_frozen (v : Fin 8) (f : VMast → VMast) : (s.updVm v f).frozen = s.frozen := rfl
@[simp] theorem State.updVm_softRst (v : Fin 8) (f : VMast → VMast) : (s.updVm v f).softRst = s.softRst := rfl
@[simp] theorem State.updVm_rst (v : Fin 8) (f : VMast → VMast) : (s.updVm v f).rst = s.rst := rfl
@[simp] theorem State.updVm_recent (v : Fin 8) (f : VMast → VMast) : (s.updVm v f).recent = s.recent := rfl
@[simp] theorem State.updVm_unlockWin (v : Fin 8) (f : VMast → VMast) : (s.updVm v f).unlockWin = s.unlockWin := rfl
@[simp] theorem State.updVm_bar0 (v : Fin 8) (f : VMast → VMast) : (s.updVm v f).bar0 = s.bar0 := rfl
@[simp] theorem State.updVm_bar2 (v : Fin 8) (f : VMast → VMast) : (s.updVm v f).bar2 = s.bar2 := rfl
@[simp] theorem State.updVm_spi (v : Fin 8) (f : VMast → VMast) : (s.updVm v f).spi = s.spi := rfl
@[simp] theorem State.updVm_held (v : Fin 8) (f : VMast → VMast) : (s.updVm v f).held = s.held := rfl
@[simp] theorem State.updVm_evt (v : Fin 8) (f : VMast → VMast) : (s.updVm v f).evt = s.evt := rfl
@[simp] theorem State.updVm_host (v : Fin 8) (f : VMast → VMast) : (s.updVm v f).host = s.host := rfl
@[simp] theorem State.updVm_store (v : Fin 8) (f : VMast → VMast) : (s.updVm v f).store = s.store := rfl
@[simp] theorem State.updVm_epoch (v : Fin 8) (f : VMast → VMast) : (s.updVm v f).epoch = s.epoch := rfl
@[simp] theorem State.updVm_snaps (v : Fin 8) (f : VMast → VMast) : (s.updVm v f).snaps = s.snaps := rfl
@[simp] theorem State.updVm_lastCor (v : Fin 8) (f : VMast → VMast) : (s.updVm v f).lastCor = s.lastCor := rfl
@[simp] theorem State.updVm_cor (v : Fin 8) (f : VMast → VMast) : (s.updVm v f).cor = s.cor := rfl
@[simp] theorem State.updVm_cors (v : Fin 8) (f : VMast → VMast) : (s.updVm v f).cors = s.cors := rfl
@[simp] theorem State.updVm_refillQ (v : Fin 8) (f : VMast → VMast) : (s.updVm v f).refillQ = s.refillQ := rfl
@[simp] theorem State.updVm_queues (v : Fin 8) (f : VMast → VMast) : (s.updVm v f).queues = s.queues := rfl
@[simp] theorem State.updVm_axes (v : Fin 8) (f : VMast → VMast) : (s.updVm v f).axes = s.axes := rfl
@[simp] theorem State.updVm_ports (v : Fin 8) (f : VMast → VMast) : (s.updVm v f).ports = s.ports := rfl
@[simp] theorem State.updVm_cars (v : Fin 8) (f : VMast → VMast) : (s.updVm v f).cars = s.cars := rfl
@[simp] theorem State.updVm_fbs (v : Fin 8) (f : VMast → VMast) : (s.updVm v f).fbs = s.fbs := rfl
@[simp] theorem State.updVm_adcs (v : Fin 8) (f : VMast → VMast) : (s.updVm v f).adcs = s.adcs := rfl
@[simp] theorem State.updVm_si (v : Fin 8) (f : VMast → VMast) : (s.updVm v f).si = s.si := rfl
@[simp] theorem State.updVm_arb (v : Fin 8) (f : VMast → VMast) : (s.updVm v f).arb = s.arb := rfl
@[simp] theorem State.updVm_fiobs (v : Fin 8) (f : VMast → VMast) : (s.updVm v f).fiobs = s.fiobs := rfl
@[simp] theorem State.updVm_recd (v : Fin 8) (f : VMast → VMast) : (s.updVm v f).recd = s.recd := rfl
@[simp] theorem State.updVm_cans (v : Fin 8) (f : VMast → VMast) : (s.updVm v f).cans = s.cans := rfl
@[simp] theorem State.updVm_eths (v : Fin 8) (f : VMast → VMast) : (s.updVm v f).eths = s.eths := rfl
@[simp] theorem State.updVm_doors (v : Fin 8) (f : VMast → VMast) : (s.updVm v f).doors = s.doors := rfl
@[simp] theorem State.updVm_ovl (v : Fin 8) (f : VMast → VMast) : (s.updVm v f).ovl = s.ovl := rfl
@[simp] theorem State.updVm_engs (v : Fin 8) (f : VMast → VMast) : (s.updVm v f).engs = s.engs := rfl
@[simp] theorem State.updVm_word (v : Fin 8) (f : VMast → VMast) (p' : Pg) (o : Nat) : (s.updVm v f).word p' o = s.word p' o := rfl
@[simp] theorem State.updVm_get (v : Fin 8) (f : VMast → VMast) (p' : Pg) (g : Fld) : (s.updVm v f).get p' g = s.get p' g := rfl
@[simp] theorem State.updVm_getI (v : Fin 8) (f : VMast → VMast) (p' : Pg) (g : Fld) : (s.updVm v f).getI p' g = s.getI p' g := rfl
@[simp] theorem State.updVm_flag (v : Fin 8) (f : VMast → VMast) (p' : Pg) (g : Fld) : (s.updVm v f).flag p' g = s.flag p' g := rfl

/-! ### updRec -/

@[simp] theorem State.updRec_pending (f : RecPart → RecPart) : (s.updRec f).pending = s.pending := rfl
@[simp] theorem State.updRec_now (f : RecPart → RecPart) : (s.updRec f).now = s.now := rfl
@[simp] theorem State.updRec_timeC (f : RecPart → RecPart) : (s.updRec f).timeC = s.timeC := rfl
@[simp] theorem State.updRec_serial (f : RecPart → RecPart) : (s.updRec f).serial = s.serial := rfl
@[simp] theorem State.updRec_regs (f : RecPart → RecPart) : (s.updRec f).regs = s.regs := rfl
@[simp] theorem State.updRec_frozen (f : RecPart → RecPart) : (s.updRec f).frozen = s.frozen := rfl
@[simp] theorem State.updRec_softRst (f : RecPart → RecPart) : (s.updRec f).softRst = s.softRst := rfl
@[simp] theorem State.updRec_rst (f : RecPart → RecPart) : (s.updRec f).rst = s.rst := rfl
@[simp] theorem State.updRec_recent (f : RecPart → RecPart) : (s.updRec f).recent = s.recent := rfl
@[simp] theorem State.updRec_unlockWin (f : RecPart → RecPart) : (s.updRec f).unlockWin = s.unlockWin := rfl
@[simp] theorem State.updRec_bar0 (f : RecPart → RecPart) : (s.updRec f).bar0 = s.bar0 := rfl
@[simp] theorem State.updRec_bar2 (f : RecPart → RecPart) : (s.updRec f).bar2 = s.bar2 := rfl
@[simp] theorem State.updRec_spi (f : RecPart → RecPart) : (s.updRec f).spi = s.spi := rfl
@[simp] theorem State.updRec_held (f : RecPart → RecPart) : (s.updRec f).held = s.held := rfl
@[simp] theorem State.updRec_evt (f : RecPart → RecPart) : (s.updRec f).evt = s.evt := rfl
@[simp] theorem State.updRec_host (f : RecPart → RecPart) : (s.updRec f).host = s.host := rfl
@[simp] theorem State.updRec_store (f : RecPart → RecPart) : (s.updRec f).store = s.store := rfl
@[simp] theorem State.updRec_epoch (f : RecPart → RecPart) : (s.updRec f).epoch = s.epoch := rfl
@[simp] theorem State.updRec_snaps (f : RecPart → RecPart) : (s.updRec f).snaps = s.snaps := rfl
@[simp] theorem State.updRec_lastCor (f : RecPart → RecPart) : (s.updRec f).lastCor = s.lastCor := rfl
@[simp] theorem State.updRec_cor (f : RecPart → RecPart) : (s.updRec f).cor = s.cor := rfl
@[simp] theorem State.updRec_cors (f : RecPart → RecPart) : (s.updRec f).cors = s.cors := rfl
@[simp] theorem State.updRec_refillQ (f : RecPart → RecPart) : (s.updRec f).refillQ = s.refillQ := rfl
@[simp] theorem State.updRec_queues (f : RecPart → RecPart) : (s.updRec f).queues = s.queues := rfl
@[simp] theorem State.updRec_axes (f : RecPart → RecPart) : (s.updRec f).axes = s.axes := rfl
@[simp] theorem State.updRec_ports (f : RecPart → RecPart) : (s.updRec f).ports = s.ports := rfl
@[simp] theorem State.updRec_cars (f : RecPart → RecPart) : (s.updRec f).cars = s.cars := rfl
@[simp] theorem State.updRec_fbs (f : RecPart → RecPart) : (s.updRec f).fbs = s.fbs := rfl
@[simp] theorem State.updRec_adcs (f : RecPart → RecPart) : (s.updRec f).adcs = s.adcs := rfl
@[simp] theorem State.updRec_si (f : RecPart → RecPart) : (s.updRec f).si = s.si := rfl
@[simp] theorem State.updRec_arb (f : RecPart → RecPart) : (s.updRec f).arb = s.arb := rfl
@[simp] theorem State.updRec_fiobs (f : RecPart → RecPart) : (s.updRec f).fiobs = s.fiobs := rfl
@[simp] theorem State.updRec_cans (f : RecPart → RecPart) : (s.updRec f).cans = s.cans := rfl
@[simp] theorem State.updRec_eths (f : RecPart → RecPart) : (s.updRec f).eths = s.eths := rfl
@[simp] theorem State.updRec_vms (f : RecPart → RecPart) : (s.updRec f).vms = s.vms := rfl
@[simp] theorem State.updRec_doors (f : RecPart → RecPart) : (s.updRec f).doors = s.doors := rfl
@[simp] theorem State.updRec_ovl (f : RecPart → RecPart) : (s.updRec f).ovl = s.ovl := rfl
@[simp] theorem State.updRec_engs (f : RecPart → RecPart) : (s.updRec f).engs = s.engs := rfl
@[simp] theorem State.updRec_word (f : RecPart → RecPart) (p' : Pg) (o : Nat) : (s.updRec f).word p' o = s.word p' o := rfl
@[simp] theorem State.updRec_get (f : RecPart → RecPart) (p' : Pg) (g : Fld) : (s.updRec f).get p' g = s.get p' g := rfl
@[simp] theorem State.updRec_getI (f : RecPart → RecPart) (p' : Pg) (g : Fld) : (s.updRec f).getI p' g = s.getI p' g := rfl
@[simp] theorem State.updRec_flag (f : RecPart → RecPart) (p' : Pg) (g : Fld) : (s.updRec f).flag p' g = s.flag p' g := rfl

/-! ### updRst -/

@[simp] theorem State.updRst_pending (f : RstPart → RstPart) : (s.updRst f).pending = s.pending := rfl
@[simp] theorem State.updRst_now (f : RstPart → RstPart) : (s.updRst f).now = s.now := rfl
@[simp] theorem State.updRst_timeC (f : RstPart → RstPart) : (s.updRst f).timeC = s.timeC := rfl
@[simp] theorem State.updRst_serial (f : RstPart → RstPart) : (s.updRst f).serial = s.serial := rfl
@[simp] theorem State.updRst_regs (f : RstPart → RstPart) : (s.updRst f).regs = s.regs := rfl
@[simp] theorem State.updRst_frozen (f : RstPart → RstPart) : (s.updRst f).frozen = s.frozen := rfl
@[simp] theorem State.updRst_softRst (f : RstPart → RstPart) : (s.updRst f).softRst = s.softRst := rfl
@[simp] theorem State.updRst_recent (f : RstPart → RstPart) : (s.updRst f).recent = s.recent := rfl
@[simp] theorem State.updRst_unlockWin (f : RstPart → RstPart) : (s.updRst f).unlockWin = s.unlockWin := rfl
@[simp] theorem State.updRst_bar0 (f : RstPart → RstPart) : (s.updRst f).bar0 = s.bar0 := rfl
@[simp] theorem State.updRst_bar2 (f : RstPart → RstPart) : (s.updRst f).bar2 = s.bar2 := rfl
@[simp] theorem State.updRst_spi (f : RstPart → RstPart) : (s.updRst f).spi = s.spi := rfl
@[simp] theorem State.updRst_held (f : RstPart → RstPart) : (s.updRst f).held = s.held := rfl
@[simp] theorem State.updRst_evt (f : RstPart → RstPart) : (s.updRst f).evt = s.evt := rfl
@[simp] theorem State.updRst_host (f : RstPart → RstPart) : (s.updRst f).host = s.host := rfl
@[simp] theorem State.updRst_store (f : RstPart → RstPart) : (s.updRst f).store = s.store := rfl
@[simp] theorem State.updRst_epoch (f : RstPart → RstPart) : (s.updRst f).epoch = s.epoch := rfl
@[simp] theorem State.updRst_snaps (f : RstPart → RstPart) : (s.updRst f).snaps = s.snaps := rfl
@[simp] theorem State.updRst_lastCor (f : RstPart → RstPart) : (s.updRst f).lastCor = s.lastCor := rfl
@[simp] theorem State.updRst_cor (f : RstPart → RstPart) : (s.updRst f).cor = s.cor := rfl
@[simp] theorem State.updRst_cors (f : RstPart → RstPart) : (s.updRst f).cors = s.cors := rfl
@[simp] theorem State.updRst_refillQ (f : RstPart → RstPart) : (s.updRst f).refillQ = s.refillQ := rfl
@[simp] theorem State.updRst_queues (f : RstPart → RstPart) : (s.updRst f).queues = s.queues := rfl
@[simp] theorem State.updRst_axes (f : RstPart → RstPart) : (s.updRst f).axes = s.axes := rfl
@[simp] theorem State.updRst_ports (f : RstPart → RstPart) : (s.updRst f).ports = s.ports := rfl
@[simp] theorem State.updRst_cars (f : RstPart → RstPart) : (s.updRst f).cars = s.cars := rfl
@[simp] theorem State.updRst_fbs (f : RstPart → RstPart) : (s.updRst f).fbs = s.fbs := rfl
@[simp] theorem State.updRst_adcs (f : RstPart → RstPart) : (s.updRst f).adcs = s.adcs := rfl
@[simp] theorem State.updRst_si (f : RstPart → RstPart) : (s.updRst f).si = s.si := rfl
@[simp] theorem State.updRst_arb (f : RstPart → RstPart) : (s.updRst f).arb = s.arb := rfl
@[simp] theorem State.updRst_fiobs (f : RstPart → RstPart) : (s.updRst f).fiobs = s.fiobs := rfl
@[simp] theorem State.updRst_recd (f : RstPart → RstPart) : (s.updRst f).recd = s.recd := rfl
@[simp] theorem State.updRst_cans (f : RstPart → RstPart) : (s.updRst f).cans = s.cans := rfl
@[simp] theorem State.updRst_eths (f : RstPart → RstPart) : (s.updRst f).eths = s.eths := rfl
@[simp] theorem State.updRst_vms (f : RstPart → RstPart) : (s.updRst f).vms = s.vms := rfl
@[simp] theorem State.updRst_doors (f : RstPart → RstPart) : (s.updRst f).doors = s.doors := rfl
@[simp] theorem State.updRst_ovl (f : RstPart → RstPart) : (s.updRst f).ovl = s.ovl := rfl
@[simp] theorem State.updRst_engs (f : RstPart → RstPart) : (s.updRst f).engs = s.engs := rfl
@[simp] theorem State.updRst_word (f : RstPart → RstPart) (p' : Pg) (o : Nat) : (s.updRst f).word p' o = s.word p' o := rfl
@[simp] theorem State.updRst_get (f : RstPart → RstPart) (p' : Pg) (g : Fld) : (s.updRst f).get p' g = s.get p' g := rfl
@[simp] theorem State.updRst_getI (f : RstPart → RstPart) (p' : Pg) (g : Fld) : (s.updRst f).getI p' g = s.getI p' g := rfl
@[simp] theorem State.updRst_flag (f : RstPart → RstPart) (p' : Pg) (g : Fld) : (s.updRst f).flag p' g = s.flag p' g := rfl

/-! ### updPort -/

@[simp] theorem State.updPort_pending (r : Req) (f : HostPort → HostPort) : (s.updPort r f).pending = s.pending := by cases r <;> rfl
@[simp] theorem State.updPort_now (r : Req) (f : HostPort → HostPort) : (s.updPort r f).now = s.now := by cases r <;> rfl
@[simp] theorem State.updPort_timeC (r : Req) (f : HostPort → HostPort) : (s.updPort r f).timeC = s.timeC := by cases r <;> rfl
@[simp] theorem State.updPort_serial (r : Req) (f : HostPort → HostPort) : (s.updPort r f).serial = s.serial := by cases r <;> rfl
@[simp] theorem State.updPort_regs (r : Req) (f : HostPort → HostPort) : (s.updPort r f).regs = s.regs := by cases r <;> rfl
@[simp] theorem State.updPort_frozen (r : Req) (f : HostPort → HostPort) : (s.updPort r f).frozen = s.frozen := by cases r <;> rfl
@[simp] theorem State.updPort_softRst (r : Req) (f : HostPort → HostPort) : (s.updPort r f).softRst = s.softRst := by cases r <;> rfl
@[simp] theorem State.updPort_rst (r : Req) (f : HostPort → HostPort) : (s.updPort r f).rst = s.rst := by cases r <;> rfl
@[simp] theorem State.updPort_recent (r : Req) (f : HostPort → HostPort) : (s.updPort r f).recent = s.recent := by cases r <;> rfl
@[simp] theorem State.updPort_unlockWin (r : Req) (f : HostPort → HostPort) : (s.updPort r f).unlockWin = s.unlockWin := by cases r <;> rfl
@[simp] theorem State.updPort_held (r : Req) (f : HostPort → HostPort) : (s.updPort r f).held = s.held := by cases r <;> rfl
@[simp] theorem State.updPort_evt (r : Req) (f : HostPort → HostPort) : (s.updPort r f).evt = s.evt := by cases r <;> rfl
@[simp] theorem State.updPort_host (r : Req) (f : HostPort → HostPort) : (s.updPort r f).host = s.host := by cases r <;> rfl
@[simp] theorem State.updPort_store (r : Req) (f : HostPort → HostPort) : (s.updPort r f).store = s.store := by cases r <;> rfl
@[simp] theorem State.updPort_epoch (r : Req) (f : HostPort → HostPort) : (s.updPort r f).epoch = s.epoch := by cases r <;> rfl
@[simp] theorem State.updPort_snaps (r : Req) (f : HostPort → HostPort) : (s.updPort r f).snaps = s.snaps := by cases r <;> rfl
@[simp] theorem State.updPort_lastCor (r : Req) (f : HostPort → HostPort) : (s.updPort r f).lastCor = s.lastCor := by cases r <;> rfl
@[simp] theorem State.updPort_cor (r : Req) (f : HostPort → HostPort) : (s.updPort r f).cor = s.cor := by cases r <;> rfl
@[simp] theorem State.updPort_cors (r : Req) (f : HostPort → HostPort) : (s.updPort r f).cors = s.cors := by cases r <;> rfl
@[simp] theorem State.updPort_refillQ (r : Req) (f : HostPort → HostPort) : (s.updPort r f).refillQ = s.refillQ := by cases r <;> rfl
@[simp] theorem State.updPort_queues (r : Req) (f : HostPort → HostPort) : (s.updPort r f).queues = s.queues := by cases r <;> rfl
@[simp] theorem State.updPort_axes (r : Req) (f : HostPort → HostPort) : (s.updPort r f).axes = s.axes := by cases r <;> rfl
@[simp] theorem State.updPort_ports (r : Req) (f : HostPort → HostPort) : (s.updPort r f).ports = s.ports := by cases r <;> rfl
@[simp] theorem State.updPort_cars (r : Req) (f : HostPort → HostPort) : (s.updPort r f).cars = s.cars := by cases r <;> rfl
@[simp] theorem State.updPort_fbs (r : Req) (f : HostPort → HostPort) : (s.updPort r f).fbs = s.fbs := by cases r <;> rfl
@[simp] theorem State.updPort_adcs (r : Req) (f : HostPort → HostPort) : (s.updPort r f).adcs = s.adcs := by cases r <;> rfl
@[simp] theorem State.updPort_si (r : Req) (f : HostPort → HostPort) : (s.updPort r f).si = s.si := by cases r <;> rfl
@[simp] theorem State.updPort_arb (r : Req) (f : HostPort → HostPort) : (s.updPort r f).arb = s.arb := by cases r <;> rfl
@[simp] theorem State.updPort_fiobs (r : Req) (f : HostPort → HostPort) : (s.updPort r f).fiobs = s.fiobs := by cases r <;> rfl
@[simp] theorem State.updPort_recd (r : Req) (f : HostPort → HostPort) : (s.updPort r f).recd = s.recd := by cases r <;> rfl
@[simp] theorem State.updPort_cans (r : Req) (f : HostPort → HostPort) : (s.updPort r f).cans = s.cans := by cases r <;> rfl
@[simp] theorem State.updPort_eths (r : Req) (f : HostPort → HostPort) : (s.updPort r f).eths = s.eths := by cases r <;> rfl
@[simp] theorem State.updPort_vms (r : Req) (f : HostPort → HostPort) : (s.updPort r f).vms = s.vms := by cases r <;> rfl
@[simp] theorem State.updPort_doors (r : Req) (f : HostPort → HostPort) : (s.updPort r f).doors = s.doors := by cases r <;> rfl
@[simp] theorem State.updPort_ovl (r : Req) (f : HostPort → HostPort) : (s.updPort r f).ovl = s.ovl := by cases r <;> rfl
@[simp] theorem State.updPort_engs (r : Req) (f : HostPort → HostPort) : (s.updPort r f).engs = s.engs := by cases r <;> rfl
@[simp] theorem State.updPort_word (r : Req) (f : HostPort → HostPort) (p' : Pg) (o : Nat) : (s.updPort r f).word p' o = s.word p' o := by cases r <;> rfl
@[simp] theorem State.updPort_get (r : Req) (f : HostPort → HostPort) (p' : Pg) (g : Fld) : (s.updPort r f).get p' g = s.get p' g := by cases r <;> rfl
@[simp] theorem State.updPort_getI (r : Req) (f : HostPort → HostPort) (p' : Pg) (g : Fld) : (s.updPort r f).getI p' g = s.getI p' g := by cases r <;> rfl
@[simp] theorem State.updPort_flag (r : Req) (f : HostPort → HostPort) (p' : Pg) (g : Fld) : (s.updPort r f).flag p' g = s.flag p' g := by cases r <;> rfl

/-! ### storePut -/

@[simp] theorem State.storePut_pending (a : Nat) (w : Word) : (s.storePut a w).pending = s.pending := rfl
@[simp] theorem State.storePut_now (a : Nat) (w : Word) : (s.storePut a w).now = s.now := rfl
@[simp] theorem State.storePut_timeC (a : Nat) (w : Word) : (s.storePut a w).timeC = s.timeC := rfl
@[simp] theorem State.storePut_serial (a : Nat) (w : Word) : (s.storePut a w).serial = s.serial := rfl
@[simp] theorem State.storePut_regs (a : Nat) (w : Word) : (s.storePut a w).regs = s.regs := rfl
@[simp] theorem State.storePut_frozen (a : Nat) (w : Word) : (s.storePut a w).frozen = s.frozen := rfl
@[simp] theorem State.storePut_softRst (a : Nat) (w : Word) : (s.storePut a w).softRst = s.softRst := rfl
@[simp] theorem State.storePut_rst (a : Nat) (w : Word) : (s.storePut a w).rst = s.rst := rfl
@[simp] theorem State.storePut_recent (a : Nat) (w : Word) : (s.storePut a w).recent = s.recent := rfl
@[simp] theorem State.storePut_unlockWin (a : Nat) (w : Word) : (s.storePut a w).unlockWin = s.unlockWin := rfl
@[simp] theorem State.storePut_bar0 (a : Nat) (w : Word) : (s.storePut a w).bar0 = s.bar0 := rfl
@[simp] theorem State.storePut_bar2 (a : Nat) (w : Word) : (s.storePut a w).bar2 = s.bar2 := rfl
@[simp] theorem State.storePut_spi (a : Nat) (w : Word) : (s.storePut a w).spi = s.spi := rfl
@[simp] theorem State.storePut_held (a : Nat) (w : Word) : (s.storePut a w).held = s.held := rfl
@[simp] theorem State.storePut_evt (a : Nat) (w : Word) : (s.storePut a w).evt = s.evt := rfl
@[simp] theorem State.storePut_host (a : Nat) (w : Word) : (s.storePut a w).host = s.host := rfl
@[simp] theorem State.storePut_epoch (a : Nat) (w : Word) : (s.storePut a w).epoch = s.epoch := rfl
@[simp] theorem State.storePut_snaps (a : Nat) (w : Word) : (s.storePut a w).snaps = s.snaps := rfl
@[simp] theorem State.storePut_lastCor (a : Nat) (w : Word) : (s.storePut a w).lastCor = s.lastCor := rfl
@[simp] theorem State.storePut_cor (a : Nat) (w : Word) : (s.storePut a w).cor = s.cor := rfl
@[simp] theorem State.storePut_cors (a : Nat) (w : Word) : (s.storePut a w).cors = s.cors := rfl
@[simp] theorem State.storePut_refillQ (a : Nat) (w : Word) : (s.storePut a w).refillQ = s.refillQ := rfl
@[simp] theorem State.storePut_queues (a : Nat) (w : Word) : (s.storePut a w).queues = s.queues := rfl
@[simp] theorem State.storePut_axes (a : Nat) (w : Word) : (s.storePut a w).axes = s.axes := rfl
@[simp] theorem State.storePut_ports (a : Nat) (w : Word) : (s.storePut a w).ports = s.ports := rfl
@[simp] theorem State.storePut_cars (a : Nat) (w : Word) : (s.storePut a w).cars = s.cars := rfl
@[simp] theorem State.storePut_fbs (a : Nat) (w : Word) : (s.storePut a w).fbs = s.fbs := rfl
@[simp] theorem State.storePut_adcs (a : Nat) (w : Word) : (s.storePut a w).adcs = s.adcs := rfl
@[simp] theorem State.storePut_si (a : Nat) (w : Word) : (s.storePut a w).si = s.si := rfl
@[simp] theorem State.storePut_arb (a : Nat) (w : Word) : (s.storePut a w).arb = s.arb := rfl
@[simp] theorem State.storePut_fiobs (a : Nat) (w : Word) : (s.storePut a w).fiobs = s.fiobs := rfl
@[simp] theorem State.storePut_recd (a : Nat) (w : Word) : (s.storePut a w).recd = s.recd := rfl
@[simp] theorem State.storePut_cans (a : Nat) (w : Word) : (s.storePut a w).cans = s.cans := rfl
@[simp] theorem State.storePut_eths (a : Nat) (w : Word) : (s.storePut a w).eths = s.eths := rfl
@[simp] theorem State.storePut_vms (a : Nat) (w : Word) : (s.storePut a w).vms = s.vms := rfl
@[simp] theorem State.storePut_doors (a : Nat) (w : Word) : (s.storePut a w).doors = s.doors := rfl
@[simp] theorem State.storePut_ovl (a : Nat) (w : Word) : (s.storePut a w).ovl = s.ovl := rfl
@[simp] theorem State.storePut_engs (a : Nat) (w : Word) : (s.storePut a w).engs = s.engs := rfl
@[simp] theorem State.storePut_word (a : Nat) (w : Word) (p' : Pg) (o : Nat) : (s.storePut a w).word p' o = s.word p' o := rfl
@[simp] theorem State.storePut_get (a : Nat) (w : Word) (p' : Pg) (g : Fld) : (s.storePut a w).get p' g = s.get p' g := rfl
@[simp] theorem State.storePut_getI (a : Nat) (w : Word) (p' : Pg) (g : Fld) : (s.storePut a w).getI p' g = s.getI p' g := rfl
@[simp] theorem State.storePut_flag (a : Nat) (w : Word) (p' : Pg) (g : Fld) : (s.storePut a w).flag p' g = s.flag p' g := rfl

/-! ### fire -/

/-- A firing that the router takes changes the router alone. -/
theorem State.takeFiring_frame (f : Firing) : s.takeFiring f = { s with evt := (s.takeFiring f).evt } := by
  unfold State.takeFiring
  split <;> rfl

/-- An event that fires changes registers, the note of this cycle's events and the event router, nothing else. -/
theorem State.fire_frame (p : Pg) (i : Nat) : s.fire p i =
    { s with regs := (s.put p HDR.EV_RAW.RAW (setBit (s.get p HDR.EV_RAW.RAW) i)).regs, recent := (s.fire p i).recent
             evt := (s.fire p i).evt } := by
  unfold State.fire
  dsimp only
  split
  · split
    · rw [State.takeFiring_frame]
      rfl
    · rfl
  · rfl

@[simp] theorem State.fire_pending (p : Pg) (i : Nat) : (s.fire p i).pending = s.pending := (congrArg State.pending (State.fire_frame s p i)).trans rfl
@[simp] theorem State.fire_now (p : Pg) (i : Nat) : (s.fire p i).now = s.now := (congrArg State.now (State.fire_frame s p i)).trans rfl
@[simp] theorem State.fire_timeC (p : Pg) (i : Nat) : (s.fire p i).timeC = s.timeC := (congrArg State.timeC (State.fire_frame s p i)).trans rfl
@[simp] theorem State.fire_serial (p : Pg) (i : Nat) : (s.fire p i).serial = s.serial := (congrArg State.serial (State.fire_frame s p i)).trans rfl
@[simp] theorem State.fire_frozen (p : Pg) (i : Nat) : (s.fire p i).frozen = s.frozen := (congrArg State.frozen (State.fire_frame s p i)).trans rfl
@[simp] theorem State.fire_softRst (p : Pg) (i : Nat) : (s.fire p i).softRst = s.softRst := (congrArg State.softRst (State.fire_frame s p i)).trans rfl
@[simp] theorem State.fire_rst (p : Pg) (i : Nat) : (s.fire p i).rst = s.rst := (congrArg State.rst (State.fire_frame s p i)).trans rfl
@[simp] theorem State.fire_unlockWin (p : Pg) (i : Nat) : (s.fire p i).unlockWin = s.unlockWin := (congrArg State.unlockWin (State.fire_frame s p i)).trans rfl
@[simp] theorem State.fire_bar0 (p : Pg) (i : Nat) : (s.fire p i).bar0 = s.bar0 := (congrArg State.bar0 (State.fire_frame s p i)).trans rfl
@[simp] theorem State.fire_bar2 (p : Pg) (i : Nat) : (s.fire p i).bar2 = s.bar2 := (congrArg State.bar2 (State.fire_frame s p i)).trans rfl
@[simp] theorem State.fire_spi (p : Pg) (i : Nat) : (s.fire p i).spi = s.spi := (congrArg State.spi (State.fire_frame s p i)).trans rfl
@[simp] theorem State.fire_held (p : Pg) (i : Nat) : (s.fire p i).held = s.held := (congrArg State.held (State.fire_frame s p i)).trans rfl
@[simp] theorem State.fire_host (p : Pg) (i : Nat) : (s.fire p i).host = s.host := (congrArg State.host (State.fire_frame s p i)).trans rfl
@[simp] theorem State.fire_store (p : Pg) (i : Nat) : (s.fire p i).store = s.store := (congrArg State.store (State.fire_frame s p i)).trans rfl
@[simp] theorem State.fire_epoch (p : Pg) (i : Nat) : (s.fire p i).epoch = s.epoch := (congrArg State.epoch (State.fire_frame s p i)).trans rfl
@[simp] theorem State.fire_snaps (p : Pg) (i : Nat) : (s.fire p i).snaps = s.snaps := (congrArg State.snaps (State.fire_frame s p i)).trans rfl
@[simp] theorem State.fire_lastCor (p : Pg) (i : Nat) : (s.fire p i).lastCor = s.lastCor := (congrArg State.lastCor (State.fire_frame s p i)).trans rfl
@[simp] theorem State.fire_cor (p : Pg) (i : Nat) : (s.fire p i).cor = s.cor := (congrArg State.cor (State.fire_frame s p i)).trans rfl
@[simp] theorem State.fire_cors (p : Pg) (i : Nat) : (s.fire p i).cors = s.cors := (congrArg State.cors (State.fire_frame s p i)).trans rfl
@[simp] theorem State.fire_refillQ (p : Pg) (i : Nat) : (s.fire p i).refillQ = s.refillQ := (congrArg State.refillQ (State.fire_frame s p i)).trans rfl
@[simp] theorem State.fire_queues (p : Pg) (i : Nat) : (s.fire p i).queues = s.queues := (congrArg State.queues (State.fire_frame s p i)).trans rfl
@[simp] theorem State.fire_axes (p : Pg) (i : Nat) : (s.fire p i).axes = s.axes := (congrArg State.axes (State.fire_frame s p i)).trans rfl
@[simp] theorem State.fire_ports (p : Pg) (i : Nat) : (s.fire p i).ports = s.ports := (congrArg State.ports (State.fire_frame s p i)).trans rfl
@[simp] theorem State.fire_cars (p : Pg) (i : Nat) : (s.fire p i).cars = s.cars := (congrArg State.cars (State.fire_frame s p i)).trans rfl
@[simp] theorem State.fire_fbs (p : Pg) (i : Nat) : (s.fire p i).fbs = s.fbs := (congrArg State.fbs (State.fire_frame s p i)).trans rfl
@[simp] theorem State.fire_adcs (p : Pg) (i : Nat) : (s.fire p i).adcs = s.adcs := (congrArg State.adcs (State.fire_frame s p i)).trans rfl
@[simp] theorem State.fire_si (p : Pg) (i : Nat) : (s.fire p i).si = s.si := (congrArg State.si (State.fire_frame s p i)).trans rfl
@[simp] theorem State.fire_arb (p : Pg) (i : Nat) : (s.fire p i).arb = s.arb := (congrArg State.arb (State.fire_frame s p i)).trans rfl
@[simp] theorem State.fire_fiobs (p : Pg) (i : Nat) : (s.fire p i).fiobs = s.fiobs := (congrArg State.fiobs (State.fire_frame s p i)).trans rfl
@[simp] theorem State.fire_recd (p : Pg) (i : Nat) : (s.fire p i).recd = s.recd := (congrArg State.recd (State.fire_frame s p i)).trans rfl
@[simp] theorem State.fire_cans (p : Pg) (i : Nat) : (s.fire p i).cans = s.cans := (congrArg State.cans (State.fire_frame s p i)).trans rfl
@[simp] theorem State.fire_eths (p : Pg) (i : Nat) : (s.fire p i).eths = s.eths := (congrArg State.eths (State.fire_frame s p i)).trans rfl
@[simp] theorem State.fire_vms (p : Pg) (i : Nat) : (s.fire p i).vms = s.vms := (congrArg State.vms (State.fire_frame s p i)).trans rfl
@[simp] theorem State.fire_doors (p : Pg) (i : Nat) : (s.fire p i).doors = s.doors := (congrArg State.doors (State.fire_frame s p i)).trans rfl
@[simp] theorem State.fire_ovl (p : Pg) (i : Nat) : (s.fire p i).ovl = s.ovl := (congrArg State.ovl (State.fire_frame s p i)).trans rfl
@[simp] theorem State.fire_engs (p : Pg) (i : Nat) : (s.fire p i).engs = s.engs := (congrArg State.engs (State.fire_frame s p i)).trans rfl

/-! ### qNote -/

@[simp] theorem State.qNote_pending (c : QCyc) : (s.qNote c).pending = s.pending := rfl
@[simp] theorem State.qNote_now (c : QCyc) : (s.qNote c).now = s.now := rfl
@[simp] theorem State.qNote_timeC (c : QCyc) : (s.qNote c).timeC = s.timeC := rfl
@[simp] theorem State.qNote_serial (c : QCyc) : (s.qNote c).serial = s.serial := rfl
@[simp] theorem State.qNote_regs (c : QCyc) : (s.qNote c).regs = s.regs := rfl
@[simp] theorem State.qNote_frozen (c : QCyc) : (s.qNote c).frozen = s.frozen := rfl
@[simp] theorem State.qNote_softRst (c : QCyc) : (s.qNote c).softRst = s.softRst := rfl
@[simp] theorem State.qNote_rst (c : QCyc) : (s.qNote c).rst = s.rst := rfl
@[simp] theorem State.qNote_recent (c : QCyc) : (s.qNote c).recent = s.recent := rfl
@[simp] theorem State.qNote_unlockWin (c : QCyc) : (s.qNote c).unlockWin = s.unlockWin := rfl
@[simp] theorem State.qNote_bar0 (c : QCyc) : (s.qNote c).bar0 = s.bar0 := rfl
@[simp] theorem State.qNote_bar2 (c : QCyc) : (s.qNote c).bar2 = s.bar2 := rfl
@[simp] theorem State.qNote_spi (c : QCyc) : (s.qNote c).spi = s.spi := rfl
@[simp] theorem State.qNote_held (c : QCyc) : (s.qNote c).held = s.held := rfl
@[simp] theorem State.qNote_evt (c : QCyc) : (s.qNote c).evt = s.evt := rfl
@[simp] theorem State.qNote_host (c : QCyc) : (s.qNote c).host = s.host := rfl
@[simp] theorem State.qNote_store (c : QCyc) : (s.qNote c).store = s.store := rfl
@[simp] theorem State.qNote_epoch (c : QCyc) : (s.qNote c).epoch = s.epoch := rfl
@[simp] theorem State.qNote_snaps (c : QCyc) : (s.qNote c).snaps = s.snaps := rfl
@[simp] theorem State.qNote_lastCor (c : QCyc) : (s.qNote c).lastCor = s.lastCor := rfl
@[simp] theorem State.qNote_cor (c : QCyc) : (s.qNote c).cor = s.cor := rfl
@[simp] theorem State.qNote_cors (c : QCyc) : (s.qNote c).cors = s.cors := rfl
@[simp] theorem State.qNote_refillQ (c : QCyc) : (s.qNote c).refillQ = s.refillQ := rfl
@[simp] theorem State.qNote_axes (c : QCyc) : (s.qNote c).axes = s.axes := rfl
@[simp] theorem State.qNote_ports (c : QCyc) : (s.qNote c).ports = s.ports := rfl
@[simp] theorem State.qNote_cars (c : QCyc) : (s.qNote c).cars = s.cars := rfl
@[simp] theorem State.qNote_fbs (c : QCyc) : (s.qNote c).fbs = s.fbs := rfl
@[simp] theorem State.qNote_adcs (c : QCyc) : (s.qNote c).adcs = s.adcs := rfl
@[simp] theorem State.qNote_si (c : QCyc) : (s.qNote c).si = s.si := rfl
@[simp] theorem State.qNote_arb (c : QCyc) : (s.qNote c).arb = s.arb := rfl
@[simp] theorem State.qNote_fiobs (c : QCyc) : (s.qNote c).fiobs = s.fiobs := rfl
@[simp] theorem State.qNote_recd (c : QCyc) : (s.qNote c).recd = s.recd := rfl
@[simp] theorem State.qNote_cans (c : QCyc) : (s.qNote c).cans = s.cans := rfl
@[simp] theorem State.qNote_eths (c : QCyc) : (s.qNote c).eths = s.eths := rfl
@[simp] theorem State.qNote_vms (c : QCyc) : (s.qNote c).vms = s.vms := rfl
@[simp] theorem State.qNote_doors (c : QCyc) : (s.qNote c).doors = s.doors := rfl
@[simp] theorem State.qNote_ovl (c : QCyc) : (s.qNote c).ovl = s.ovl := rfl
@[simp] theorem State.qNote_engs (c : QCyc) : (s.qNote c).engs = s.engs := rfl
@[simp] theorem State.qNote_word (c : QCyc) (p' : Pg) (o : Nat) : (s.qNote c).word p' o = s.word p' o := rfl
@[simp] theorem State.qNote_get (c : QCyc) (p' : Pg) (g : Fld) : (s.qNote c).get p' g = s.get p' g := rfl
@[simp] theorem State.qNote_getI (c : QCyc) (p' : Pg) (g : Fld) : (s.qNote c).getI p' g = s.getI p' g := rfl
@[simp] theorem State.qNote_flag (c : QCyc) (p' : Pg) (g : Fld) : (s.qNote c).flag p' g = s.flag p' g := rfl

/-! ### qSet -/

@[simp] theorem State.qSet_pending (q : QId) (l : List (List Word)) : (s.qSet q l).pending = s.pending := rfl
@[simp] theorem State.qSet_now (q : QId) (l : List (List Word)) : (s.qSet q l).now = s.now := rfl
@[simp] theorem State.qSet_timeC (q : QId) (l : List (List Word)) : (s.qSet q l).timeC = s.timeC := rfl
@[simp] theorem State.qSet_serial (q : QId) (l : List (List Word)) : (s.qSet q l).serial = s.serial := rfl
@[simp] theorem State.qSet_frozen (q : QId) (l : List (List Word)) : (s.qSet q l).frozen = s.frozen := rfl
@[simp] theorem State.qSet_softRst (q : QId) (l : List (List Word)) : (s.qSet q l).softRst = s.softRst := rfl
@[simp] theorem State.qSet_rst (q : QId) (l : List (List Word)) : (s.qSet q l).rst = s.rst := rfl
@[simp] theorem State.qSet_recent (q : QId) (l : List (List Word)) : (s.qSet q l).recent = s.recent := rfl
@[simp] theorem State.qSet_unlockWin (q : QId) (l : List (List Word)) : (s.qSet q l).unlockWin = s.unlockWin := rfl
@[simp] theorem State.qSet_bar0 (q : QId) (l : List (List Word)) : (s.qSet q l).bar0 = s.bar0 := rfl
@[simp] theorem State.qSet_bar2 (q : QId) (l : List (List Word)) : (s.qSet q l).bar2 = s.bar2 := rfl
@[simp] theorem State.qSet_spi (q : QId) (l : List (List Word)) : (s.qSet q l).spi = s.spi := rfl
@[simp] theorem State.qSet_held (q : QId) (l : List (List Word)) : (s.qSet q l).held = s.held := rfl
@[simp] theorem State.qSet_evt (q : QId) (l : List (List Word)) : (s.qSet q l).evt = s.evt := rfl
@[simp] theorem State.qSet_host (q : QId) (l : List (List Word)) : (s.qSet q l).host = s.host := rfl
@[simp] theorem State.qSet_store (q : QId) (l : List (List Word)) : (s.qSet q l).store = s.store := rfl
@[simp] theorem State.qSet_epoch (q : QId) (l : List (List Word)) : (s.qSet q l).epoch = s.epoch := rfl
@[simp] theorem State.qSet_snaps (q : QId) (l : List (List Word)) : (s.qSet q l).snaps = s.snaps := rfl
@[simp] theorem State.qSet_lastCor (q : QId) (l : List (List Word)) : (s.qSet q l).lastCor = s.lastCor := rfl
@[simp] theorem State.qSet_cor (q : QId) (l : List (List Word)) : (s.qSet q l).cor = s.cor := rfl
@[simp] theorem State.qSet_cors (q : QId) (l : List (List Word)) : (s.qSet q l).cors = s.cors := rfl
@[simp] theorem State.qSet_refillQ (q : QId) (l : List (List Word)) : (s.qSet q l).refillQ = s.refillQ := rfl
@[simp] theorem State.qSet_axes (q : QId) (l : List (List Word)) : (s.qSet q l).axes = s.axes := rfl
@[simp] theorem State.qSet_ports (q : QId) (l : List (List Word)) : (s.qSet q l).ports = s.ports := rfl
@[simp] theorem State.qSet_cars (q : QId) (l : List (List Word)) : (s.qSet q l).cars = s.cars := rfl
@[simp] theorem State.qSet_fbs (q : QId) (l : List (List Word)) : (s.qSet q l).fbs = s.fbs := rfl
@[simp] theorem State.qSet_adcs (q : QId) (l : List (List Word)) : (s.qSet q l).adcs = s.adcs := rfl
@[simp] theorem State.qSet_si (q : QId) (l : List (List Word)) : (s.qSet q l).si = s.si := rfl
@[simp] theorem State.qSet_arb (q : QId) (l : List (List Word)) : (s.qSet q l).arb = s.arb := rfl
@[simp] theorem State.qSet_fiobs (q : QId) (l : List (List Word)) : (s.qSet q l).fiobs = s.fiobs := rfl
@[simp] theorem State.qSet_recd (q : QId) (l : List (List Word)) : (s.qSet q l).recd = s.recd := rfl
@[simp] theorem State.qSet_cans (q : QId) (l : List (List Word)) : (s.qSet q l).cans = s.cans := rfl
@[simp] theorem State.qSet_eths (q : QId) (l : List (List Word)) : (s.qSet q l).eths = s.eths := rfl
@[simp] theorem State.qSet_vms (q : QId) (l : List (List Word)) : (s.qSet q l).vms = s.vms := rfl
@[simp] theorem State.qSet_doors (q : QId) (l : List (List Word)) : (s.qSet q l).doors = s.doors := rfl
@[simp] theorem State.qSet_ovl (q : QId) (l : List (List Word)) : (s.qSet q l).ovl = s.ovl := rfl
@[simp] theorem State.qSet_engs (q : QId) (l : List (List Word)) : (s.qSet q l).engs = s.engs := rfl

/-! ### qFlush -/

/-- A state that differs from another in its registers, its queues and its record of events alone. -/
def State.nearQ (s t : State) : Prop := ∃ r rc q e, t = { s with regs := r, recent := rc, queues := q, evt := e }

theorem State.nearQ_put {s t : State} (h : s.nearQ t) (p : Pg) (f : Fld) (v : Nat) : s.nearQ (t.put p f v) := by
  obtain ⟨r, rc, q, e, rfl⟩ := h
  exact ⟨_, _, _, _, rfl⟩

theorem State.nearQ_qNote {s t : State} (h : s.nearQ t) (c : QCyc) : s.nearQ (t.qNote c) := by
  obtain ⟨r, rc, q, e, rfl⟩ := h
  exact ⟨_, _, _, _, rfl⟩

theorem State.nearQ_unfire {s t : State} (h : s.nearQ t) (p : Pg) (i : Nat) (was : Bool) : s.nearQ (t.unfire p i was) := by
  obtain ⟨r, rc, q, e, rfl⟩ := h
  cases was <;> exact ⟨_, _, _, _, rfl⟩

theorem State.qFlush_near (q : QId) : s.nearQ (s.qFlush q) := by
  have h : s.nearQ { s with queues := s.queues.set q [] } := ⟨_, _, _, _, rfl⟩
  unfold State.qFlush
  refine State.nearQ_put (State.nearQ_put (State.nearQ_put (State.nearQ_put (State.nearQ_qNote ?_ _) _ _ _) _ _ _) _ _ _) _ _ _
  cases q with
  | pq n =>
    dsimp only
    unfold State.doIf
    split
    · exact State.nearQ_unfire h _ _ _
    · exact h
  | _ => exact h

@[simp] theorem State.qFlush_pending (q : QId) : (s.qFlush q).pending = s.pending := by
  obtain ⟨_, _, _, _, h⟩ := s.qFlush_near q
  rw [h]
@[simp] theorem State.qFlush_now (q : QId) : (s.qFlush q).now = s.now := by
  obtain ⟨_, _, _, _, h⟩ := s.qFlush_near q
  rw [h]
@[simp] theorem State.qFlush_timeC (q : QId) : (s.qFlush q).timeC = s.timeC := by
  obtain ⟨_, _, _, _, h⟩ := s.qFlush_near q
  rw [h]
@[simp] theorem State.qFlush_serial (q : QId) : (s.qFlush q).serial = s.serial := by
  obtain ⟨_, _, _, _, h⟩ := s.qFlush_near q
  rw [h]
@[simp] theorem State.qFlush_frozen (q : QId) : (s.qFlush q).frozen = s.frozen := by
  obtain ⟨_, _, _, _, h⟩ := s.qFlush_near q
  rw [h]
@[simp] theorem State.qFlush_softRst (q : QId) : (s.qFlush q).softRst = s.softRst := by
  obtain ⟨_, _, _, _, h⟩ := s.qFlush_near q
  rw [h]
@[simp] theorem State.qFlush_rst (q : QId) : (s.qFlush q).rst = s.rst := by
  obtain ⟨_, _, _, _, h⟩ := s.qFlush_near q
  rw [h]
@[simp] theorem State.qFlush_unlockWin (q : QId) : (s.qFlush q).unlockWin = s.unlockWin := by
  obtain ⟨_, _, _, _, h⟩ := s.qFlush_near q
  rw [h]
@[simp] theorem State.qFlush_bar0 (q : QId) : (s.qFlush q).bar0 = s.bar0 := by
  obtain ⟨_, _, _, _, h⟩ := s.qFlush_near q
  rw [h]
@[simp] theorem State.qFlush_bar2 (q : QId) : (s.qFlush q).bar2 = s.bar2 := by
  obtain ⟨_, _, _, _, h⟩ := s.qFlush_near q
  rw [h]
@[simp] theorem State.qFlush_spi (q : QId) : (s.qFlush q).spi = s.spi := by
  obtain ⟨_, _, _, _, h⟩ := s.qFlush_near q
  rw [h]
@[simp] theorem State.qFlush_held (q : QId) : (s.qFlush q).held = s.held := by
  obtain ⟨_, _, _, _, h⟩ := s.qFlush_near q
  rw [h]
@[simp] theorem State.qFlush_host (q : QId) : (s.qFlush q).host = s.host := by
  obtain ⟨_, _, _, _, h⟩ := s.qFlush_near q
  rw [h]
@[simp] theorem State.qFlush_store (q : QId) : (s.qFlush q).store = s.store := by
  obtain ⟨_, _, _, _, h⟩ := s.qFlush_near q
  rw [h]
@[simp] theorem State.qFlush_epoch (q : QId) : (s.qFlush q).epoch = s.epoch := by
  obtain ⟨_, _, _, _, h⟩ := s.qFlush_near q
  rw [h]
@[simp] theorem State.qFlush_snaps (q : QId) : (s.qFlush q).snaps = s.snaps := by
  obtain ⟨_, _, _, _, h⟩ := s.qFlush_near q
  rw [h]
@[simp] theorem State.qFlush_lastCor (q : QId) : (s.qFlush q).lastCor = s.lastCor := by
  obtain ⟨_, _, _, _, h⟩ := s.qFlush_near q
  rw [h]
@[simp] theorem State.qFlush_cor (q : QId) : (s.qFlush q).cor = s.cor := by
  obtain ⟨_, _, _, _, h⟩ := s.qFlush_near q
  rw [h]
@[simp] theorem State.qFlush_cors (q : QId) : (s.qFlush q).cors = s.cors := by
  obtain ⟨_, _, _, _, h⟩ := s.qFlush_near q
  rw [h]
@[simp] theorem State.qFlush_refillQ (q : QId) : (s.qFlush q).refillQ = s.refillQ := by
  obtain ⟨_, _, _, _, h⟩ := s.qFlush_near q
  rw [h]
@[simp] theorem State.qFlush_axes (q : QId) : (s.qFlush q).axes = s.axes := by
  obtain ⟨_, _, _, _, h⟩ := s.qFlush_near q
  rw [h]
@[simp] theorem State.qFlush_ports (q : QId) : (s.qFlush q).ports = s.ports := by
  obtain ⟨_, _, _, _, h⟩ := s.qFlush_near q
  rw [h]
@[simp] theorem State.qFlush_cars (q : QId) : (s.qFlush q).cars = s.cars := by
  obtain ⟨_, _, _, _, h⟩ := s.qFlush_near q
  rw [h]
@[simp] theorem State.qFlush_fbs (q : QId) : (s.qFlush q).fbs = s.fbs := by
  obtain ⟨_, _, _, _, h⟩ := s.qFlush_near q
  rw [h]
@[simp] theorem State.qFlush_adcs (q : QId) : (s.qFlush q).adcs = s.adcs := by
  obtain ⟨_, _, _, _, h⟩ := s.qFlush_near q
  rw [h]
@[simp] theorem State.qFlush_si (q : QId) : (s.qFlush q).si = s.si := by
  obtain ⟨_, _, _, _, h⟩ := s.qFlush_near q
  rw [h]
@[simp] theorem State.qFlush_arb (q : QId) : (s.qFlush q).arb = s.arb := by
  obtain ⟨_, _, _, _, h⟩ := s.qFlush_near q
  rw [h]
@[simp] theorem State.qFlush_fiobs (q : QId) : (s.qFlush q).fiobs = s.fiobs := by
  obtain ⟨_, _, _, _, h⟩ := s.qFlush_near q
  rw [h]
@[simp] theorem State.qFlush_recd (q : QId) : (s.qFlush q).recd = s.recd := by
  obtain ⟨_, _, _, _, h⟩ := s.qFlush_near q
  rw [h]
@[simp] theorem State.qFlush_cans (q : QId) : (s.qFlush q).cans = s.cans := by
  obtain ⟨_, _, _, _, h⟩ := s.qFlush_near q
  rw [h]
@[simp] theorem State.qFlush_eths (q : QId) : (s.qFlush q).eths = s.eths := by
  obtain ⟨_, _, _, _, h⟩ := s.qFlush_near q
  rw [h]
@[simp] theorem State.qFlush_vms (q : QId) : (s.qFlush q).vms = s.vms := by
  obtain ⟨_, _, _, _, h⟩ := s.qFlush_near q
  rw [h]
@[simp] theorem State.qFlush_doors (q : QId) : (s.qFlush q).doors = s.doors := by
  obtain ⟨_, _, _, _, h⟩ := s.qFlush_near q
  rw [h]
@[simp] theorem State.qFlush_ovl (q : QId) : (s.qFlush q).ovl = s.ovl := by
  obtain ⟨_, _, _, _, h⟩ := s.qFlush_near q
  rw [h]
@[simp] theorem State.qFlush_engs (q : QId) : (s.qFlush q).engs = s.engs := by
  obtain ⟨_, _, _, _, h⟩ := s.qFlush_near q
  rw [h]

/-! ### qClr -/

@[simp] theorem State.qClr_pending (q : QId) : (s.qClr q).pending = s.pending := rfl
@[simp] theorem State.qClr_now (q : QId) : (s.qClr q).now = s.now := rfl
@[simp] theorem State.qClr_timeC (q : QId) : (s.qClr q).timeC = s.timeC := rfl
@[simp] theorem State.qClr_serial (q : QId) : (s.qClr q).serial = s.serial := rfl
@[simp] theorem State.qClr_frozen (q : QId) : (s.qClr q).frozen = s.frozen := rfl
@[simp] theorem State.qClr_softRst (q : QId) : (s.qClr q).softRst = s.softRst := rfl
@[simp] theorem State.qClr_rst (q : QId) : (s.qClr q).rst = s.rst := rfl
@[simp] theorem State.qClr_recent (q : QId) : (s.qClr q).recent = s.recent := rfl
@[simp] theorem State.qClr_unlockWin (q : QId) : (s.qClr q).unlockWin = s.unlockWin := rfl
@[simp] theorem State.qClr_bar0 (q : QId) : (s.qClr q).bar0 = s.bar0 := rfl
@[simp] theorem State.qClr_bar2 (q : QId) : (s.qClr q).bar2 = s.bar2 := rfl
@[simp] theorem State.qClr_spi (q : QId) : (s.qClr q).spi = s.spi := rfl
@[simp] theorem State.qClr_held (q : QId) : (s.qClr q).held = s.held := rfl
@[simp] theorem State.qClr_evt (q : QId) : (s.qClr q).evt = s.evt := rfl
@[simp] theorem State.qClr_host (q : QId) : (s.qClr q).host = s.host := rfl
@[simp] theorem State.qClr_store (q : QId) : (s.qClr q).store = s.store := rfl
@[simp] theorem State.qClr_epoch (q : QId) : (s.qClr q).epoch = s.epoch := rfl
@[simp] theorem State.qClr_snaps (q : QId) : (s.qClr q).snaps = s.snaps := rfl
@[simp] theorem State.qClr_lastCor (q : QId) : (s.qClr q).lastCor = s.lastCor := rfl
@[simp] theorem State.qClr_cor (q : QId) : (s.qClr q).cor = s.cor := rfl
@[simp] theorem State.qClr_cors (q : QId) : (s.qClr q).cors = s.cors := rfl
@[simp] theorem State.qClr_refillQ (q : QId) : (s.qClr q).refillQ = s.refillQ := rfl
@[simp] theorem State.qClr_axes (q : QId) : (s.qClr q).axes = s.axes := rfl
@[simp] theorem State.qClr_ports (q : QId) : (s.qClr q).ports = s.ports := rfl
@[simp] theorem State.qClr_cars (q : QId) : (s.qClr q).cars = s.cars := rfl
@[simp] theorem State.qClr_fbs (q : QId) : (s.qClr q).fbs = s.fbs := rfl
@[simp] theorem State.qClr_adcs (q : QId) : (s.qClr q).adcs = s.adcs := rfl
@[simp] theorem State.qClr_si (q : QId) : (s.qClr q).si = s.si := rfl
@[simp] theorem State.qClr_arb (q : QId) : (s.qClr q).arb = s.arb := rfl
@[simp] theorem State.qClr_fiobs (q : QId) : (s.qClr q).fiobs = s.fiobs := rfl
@[simp] theorem State.qClr_recd (q : QId) : (s.qClr q).recd = s.recd := rfl
@[simp] theorem State.qClr_cans (q : QId) : (s.qClr q).cans = s.cans := rfl
@[simp] theorem State.qClr_eths (q : QId) : (s.qClr q).eths = s.eths := rfl
@[simp] theorem State.qClr_vms (q : QId) : (s.qClr q).vms = s.vms := rfl
@[simp] theorem State.qClr_doors (q : QId) : (s.qClr q).doors = s.doors := rfl
@[simp] theorem State.qClr_ovl (q : QId) : (s.qClr q).ovl = s.ovl := rfl
@[simp] theorem State.qClr_engs (q : QId) : (s.qClr q).engs = s.engs := rfl

/-! ### The element changed -/

@[simp] theorem State.updAx_self (n : Fin 48) (f : Axis → Axis) : (s.updAx n f).axes[n] = f s.axes[n] := by simp [State.updAx]
theorem State.updAx_other (n m : Fin 48) (f : Axis → Axis) (h : n ≠ m) : (s.updAx n f).axes[m] = s.axes[m] := by
  have h' : n.val ≠ m.val := fun e => h (Fin.ext e)
  simp [State.updAx, h']
@[simp] theorem State.updDp_self (n : Fin 48) (f : DrivePort → DrivePort) : (s.updDp n f).ports[n] = f s.ports[n] := by simp [State.updDp]
theorem State.updDp_other (n m : Fin 48) (f : DrivePort → DrivePort) (h : n ≠ m) : (s.updDp n f).ports[m] = s.ports[m] := by
  have h' : n.val ≠ m.val := fun e => h (Fin.ext e)
  simp [State.updDp, h']
@[simp] theorem State.updEng_self (n : Fin 13) (f : Engine → Engine) : (s.updEng n f).engs[n] = f s.engs[n] := by simp [State.updEng]
theorem State.updEng_other (n m : Fin 13) (f : Engine → Engine) (h : n ≠ m) : (s.updEng n f).engs[m] = s.engs[m] := by
  have h' : n.val ≠ m.val := fun e => h (Fin.ext e)
  simp [State.updEng, h']
@[simp] theorem State.updAdc_self (n : Fin 6) (f : AdcPart → AdcPart) : (s.updAdc n f).adcs[n] = f s.adcs[n] := by simp [State.updAdc]
theorem State.updAdc_other (n m : Fin 6) (f : AdcPart → AdcPart) (h : n ≠ m) : (s.updAdc n f).adcs[m] = s.adcs[m] := by
  have h' : n.val ≠ m.val := fun e => h (Fin.ext e)
  simp [State.updAdc, h']
@[simp] theorem State.updCan_self (n : Fin 4) (f : CanPart → CanPart) : (s.updCan n f).cans[n] = f s.cans[n] := by simp [State.updCan]
theorem State.updCan_other (n m : Fin 4) (f : CanPart → CanPart) (h : n ≠ m) : (s.updCan n f).cans[m] = s.cans[m] := by
  have h' : n.val ≠ m.val := fun e => h (Fin.ext e)
  simp [State.updCan, h']
@[simp] theorem State.updDoor_self (n : Fin 32) (f : Door → Door) : (s.updDoor n f).doors[n] = f s.doors[n] := by simp [State.updDoor]
theorem State.updDoor_other (n m : Fin 32) (f : Door → Door) (h : n ≠ m) : (s.updDoor n f).doors[m] = s.doors[m] := by
  have h' : n.val ≠ m.val := fun e => h (Fin.ext e)
  simp [State.updDoor, h']
@[simp] theorem State.updEth_self (n : Fin 2) (f : EthPart → EthPart) : (s.updEth n f).eths[n] = f s.eths[n] := by simp [State.updEth]
theorem State.updEth_other (n m : Fin 2) (f : EthPart → EthPart) (h : n ≠ m) : (s.updEth n f).eths[m] = s.eths[m] := by
  have h' : n.val ≠ m.val := fun e => h (Fin.ext e)
  simp [State.updEth, h']
@[simp] theorem State.updFb_self (n : Fin 48) (f : FbPart → FbPart) : (s.updFb n f).fbs[n] = f s.fbs[n] := by simp [State.updFb]
theorem State.updFb_other (n m : Fin 48) (f : FbPart → FbPart) (h : n ≠ m) : (s.updFb n f).fbs[m] = s.fbs[m] := by
  have h' : n.val ≠ m.val := fun e => h (Fin.ext e)
  simp [State.updFb, h']
@[simp] theorem State.updFiob_self (n : Fin 4) (f : FiobPart → FiobPart) : (s.updFiob n f).fiobs[n] = f s.fiobs[n] := by simp [State.updFiob]
theorem State.updFiob_other (n m : Fin 4) (f : FiobPart → FiobPart) (h : n ≠ m) : (s.updFiob n f).fiobs[m] = s.fiobs[m] := by
  have h' : n.val ≠ m.val := fun e => h (Fin.ext e)
  simp [State.updFiob, h']
@[simp] theorem State.updVm_self (n : Fin 8) (f : VMast → VMast) : (s.updVm n f).vms[n] = f s.vms[n] := by simp [State.updVm]
theorem State.updVm_other (n m : Fin 8) (f : VMast → VMast) (h : n ≠ m) : (s.updVm n f).vms[m] = s.vms[m] := by
  have h' : n.val ≠ m.val := fun e => h (Fin.ext e)
  simp [State.updVm, h']
@[simp] theorem State.updArb_self (f : ArbPart → ArbPart) : (s.updArb f).arb = f s.arb := rfl
@[simp] theorem State.updHost_self (f : HostPart → HostPart) : (s.updHost f).host = f s.host := rfl
@[simp] theorem State.updEvt_self (f : EvtPart → EvtPart) : (s.updEvt f).evt = f s.evt := rfl
@[simp] theorem State.updSi_self (f : SiPart → SiPart) : (s.updSi f).si = f s.si := rfl
@[simp] theorem State.updRec_self (f : RecPart → RecPart) : (s.updRec f).recd = f s.recd := rfl
@[simp] theorem State.updRst_self (f : RstPart → RstPart) : (s.updRst f).rst = f s.rst := rfl

@[simp] theorem State.doIf_true (f : State → State) : s.doIf true f = f s := rfl
@[simp] theorem State.doIf_false (f : State → State) : s.doIf false f = s := rfl

end Sys2Proof.Machine
end

