-- ==== Sys2Proof/Laws/Regs.lean ====
section
/-! SUPPORT. Register words and fields: what they read after a write, an event or an acknowledgement. -/

namespace Sys2Proof.Machine

variable (s : State)

/-- Numbers of pages are below 0x100, and different pages have different numbers (R29). -/
theorem pgNum_inj (p q : Pg) (h : pgNum p = pgNum q) : p = q := by
  cases p <;> cases q <;> simp only [pgNum] at h <;> first
    | rfl
    | (exfalso; omega)
    | (congr 1; ext; omega)

/-- Two slots of pages share an address only if they are the same slot. -/
theorem slotAddr_inj (p q : Pg) (a b : Nat) (ha : a < 0x1000) (hb : b < 0x1000) (h : slotAddr p a = slotAddr q b) :
    p = q ∧ a = b := by
  unfold slotAddr at h
  have : pgNum p = pgNum q := by omega
  exact ⟨pgNum_inj _ _ this, by omega⟩

@[simp] theorem State.word_setWord_same (p : Pg) (o : Nat) (w : Word) : (s.setWord p o w).word p o = w :=
  Cells.find_set_self _ _ _ _

theorem State.word_setWord_ne (p q : Pg) (a b : Nat) (w : Word) (h : slotAddr p a ≠ slotAddr q b) :
    (s.setWord p a w).word q b = s.word q b := by
  unfold State.word State.setWord
  dsimp only
  rw [Cells.find_set_ne _ _ _ _ _ h]

/-- Another slot of the same page. -/
@[simp] theorem State.word_setWord_off (p : Pg) (a b : Nat) (w : Word) (h : a ≠ b) :
    (s.setWord p a w).word p b = s.word p b :=
  s.word_setWord_ne _ _ _ _ _ (fun e => h (by unfold slotAddr at e; omega))

/-- A slot of another page. -/
theorem State.word_setWord_page (p q : Pg) (a b : Nat) (w : Word) (ha : a < 0x1000) (hb : b < 0x1000) (h : p ≠ q) :
    (s.setWord p a w).word q b = s.word q b :=
  s.word_setWord_ne _ _ _ _ _ (fun e => h (slotAddr_inj p q a b ha hb e).1)

theorem State.word_put (p : Pg) (f : Fld) (v : Nat) : (s.put p f v).word p f.off = setFld (s.word p f.off) f.hi f.lo v :=
  s.word_setWord_same _ _ _

theorem State.word_put_off (p : Pg) (f : Fld) (v b : Nat) (h : f.off ≠ b) : (s.put p f v).word p b = s.word p b :=
  s.word_setWord_off _ _ _ _ h

theorem State.word_put_page (p q : Pg) (f : Fld) (v b : Nat) (ha : f.off < 0x1000) (hb : b < 0x1000) (h : p ≠ q) :
    (s.put p f v).word q b = s.word q b :=
  s.word_setWord_page _ _ _ _ _ ha hb h

/-- A field reads what was put into it. -/
theorem State.get_put_same (p : Pg) (f : Fld) (v : Nat) (h : f.hi < 36) : (s.put p f v).get p f = v % 2 ^ (f.hi + 1 - f.lo) := by
  unfold State.get
  rw [s.word_put, fld_setFld_same _ _ _ _ h]

/-- A field reads as before where a field of another slot of the page was put. -/
theorem State.get_put_off (p : Pg) (f g : Fld) (v : Nat) (h : f.off ≠ g.off) : (s.put p f v).get p g = s.get p g := by
  unfold State.get
  rw [s.word_put_off _ _ _ _ h]

/-- A field reads as before where another field of its slot was put. -/
theorem State.get_put_fld (p : Pg) (f g : Fld) (v : Nat) (h : f.off = g.off) (hd : f.hi < g.lo ∨ g.hi < f.lo) :
    (s.put p f v).get p g = s.get p g := by
  unfold State.get
  rw [← h, s.word_put, fld_setFld_other _ _ _ _ _ _ hd]

/-- A field reads as before where a field of another page was put. -/
theorem State.get_put_page (p q : Pg) (f g : Fld) (v : Nat) (ha : f.off < 0x1000) (hb : g.off < 0x1000) (h : p ≠ q) :
    (s.put p f v).get q g = s.get q g := by
  unfold State.get
  rw [s.word_put_page _ _ _ _ _ ha hb h]

/-! ### Events -/

/-- The registers after an event fires. -/
theorem State.fire_regs (p : Pg) (i : Nat) : (s.fire p i).regs = (s.put p HDR.EV_RAW.RAW (setBit (s.get p HDR.EV_RAW.RAW) i)).regs :=
  (congrArg State.regs (s.fire_frame p i)).trans rfl

theorem State.fire_word (p q : Pg) (i o : Nat) :
    (s.fire p i).word q o = (s.put p HDR.EV_RAW.RAW (setBit (s.get p HDR.EV_RAW.RAW) i)).word q o := by
  unfold State.word
  rw [s.fire_regs]

/-- An event sets its EV_RAW bit and no other word of its page. -/
theorem State.fire_word_off (p : Pg) (i o : Nat) (h : 0x18 ≠ o) : (s.fire p i).word p o = s.word p o := by
  rw [s.fire_word]
  exact s.word_put_off _ _ _ _ h

theorem State.fire_word_page (p q : Pg) (i o : Nat) (ho : o < 0x1000) (h : p ≠ q) : (s.fire p i).word q o = s.word q o := by
  rw [s.fire_word]
  exact s.word_put_page _ _ _ _ _ (by decide) ho h

theorem State.fire_get_off (p : Pg) (i : Nat) (g : Fld) (h : 0x18 ≠ g.off) : (s.fire p i).get p g = s.get p g := by
  unfold State.get
  rw [s.fire_word_off _ _ _ h]

theorem State.fire_get_page (p q : Pg) (i : Nat) (g : Fld) (ho : g.off < 0x1000) (h : p ≠ q) :
    (s.fire p i).get q g = s.get q g := by
  unfold State.get
  rw [s.fire_word_page _ _ _ _ ho h]

theorem State.fire_raw (p : Pg) (i : Nat) (h : i < 32) : (s.fire p i).get p HDR.EV_RAW.RAW = setBit (s.get p HDR.EV_RAW.RAW) i := by
  have e : (s.fire p i).get p HDR.EV_RAW.RAW = (s.put p HDR.EV_RAW.RAW (setBit (s.get p HDR.EV_RAW.RAW) i)).get p HDR.EV_RAW.RAW :=
    congrArg (fun w => fld w 31 0) (s.fire_word p p i 0x18)
  rw [e, s.get_put_same _ _ _ (by decide), Nat.mod_eq_of_lt]
  exact setBit_lt _ _ _ (fld_lt _ _ _) h

/-- An event that fires is raised; the other event bits of its page stay (R36). -/
theorem State.raised_fire (p : Pg) (i j : Nat) (h : i < 32) : (s.fire p i).raised p j = (s.raised p j || decide (j = i)) := by
  unfold State.raised
  rw [s.fire_raw _ _ h, bit_setBit]

theorem State.raised_fire_page (p q : Pg) (i j : Nat) (h : p ≠ q) : (s.fire p i).raised q j = s.raised q j := by
  unfold State.raised
  rw [s.fire_get_page _ _ _ _ (by decide) h]

theorem State.raised_put (p : Pg) (f : Fld) (v j : Nat) (h : f.off ≠ 0x18) : (s.put p f v).raised p j = s.raised p j := by
  unfold State.raised
  rw [s.get_put_off _ _ _ _ h]

end Sys2Proof.Machine
end

