-- ==== Sys2Proof/Laws/Bus.lean ====
section
/-! SUPPORT. What an access of a page comes to: the way from a requester to the register. -/

namespace Sys2Proof.Machine

variable (s : State)

theorem pgNum_lt (p : Pg) : pgNum p < 0x100 := by
  cases p <;> simp only [pgNum] <;> omega

/-- The page with the number of a page is that page. -/
theorem pgOfNum_pgNum (p : Pg) : pgOfNum (pgNum p) = some p := by
  cases p with
  | ax n => revert n; decide
  | fb n => revert n; decide
  | dp n => revert n; decide
  | ae n => revert n; decide
  | adc n => revert n; decide
  | si n => revert n; decide
  | fiob n => revert n; decide
  | recorder n => revert n; decide
  | can n => revert n; decide
  | eth n => revert n; decide
  | _ => rfl

/-- The place of a slot of a page (R29). -/
theorem placeOf_slotAddr (p : Pg) (off : Nat) (h8 : off % 8 = 0) (h : off < 0x1000) : placeOf (slotAddr p off) = .page p off := by
  have hp := pgNum_lt p
  have e1 : slotAddr p off / 8 * 8 = slotAddr p off := by unfold slotAddr; omega
  have e2 : slotAddr p off / 0x1000 = pgNum p := by unfold slotAddr; omega
  have e3 : slotAddr p off % 0x1000 = off := by unfold slotAddr; omega
  have e4 : slotAddr p off < 0x100000 := by unfold slotAddr; omega
  unfold placeOf
  simp only [e1, e2, e3, e4, if_true, pgOfNum_pgNum]

theorem State.mustHold_slotAddr (p : Pg) (off : Nat) (h8 : off % 8 = 0) (h : off < 0x1000) : s.mustHold (slotAddr p off) = false := by
  simp [State.mustHold, placeOf_slotAddr p off h8 h]

theorem engReach_slotAddr (e : Fin 13) (p : Pg) (off : Nat) (h8 : off % 8 = 0) (h : off < 0x1000) :
    engReach e (slotAddr p off) = engReach e (slotAddr p 0) := by
  simp [engReach, placeOf_slotAddr p off h8 h, placeOf_slotAddr p 0 rfl (by decide)]

theorem wide_setWidth (w : Word) : (wide w).setWidth 36 = w := by
  unfold wide
  ext i hi
  simp [BitVec.getElem_setWidth, BitVec.getLsbD_signExtend, hi]
  intro h; omega

/-- A write of a whole word by a requester that comes through to a page is a write of that page's slot. -/
theorem State.busWrite_page (r : Req) (p : Pg) (off : Nat) (w : Word) (h8 : off % 8 = 0) (h : off < 0x1000)
    (hc : s.comes r p = true) : s.busWrite r (slotAddr p off) w = s.pageWrite r p off w := by
  cases r <;> simp_all [State.comes, State.busWrite, State.write64, State.mustHold_slotAddr, State.slotWrite,
    placeOf_slotAddr, wide_setWidth, engReach_slotAddr]
  case pe =>
    have : engReach peIx (slotAddr p 0) = true := by simp [engReach, placeOf_slotAddr p 0 rfl (by decide), peIx]
    simp [this]

/-- A read of a whole word by a requester that comes through to a page is a read of that page's slot. -/
theorem State.slotRead_page (r : Req) (p : Pg) (off : Nat) (h8 : off % 8 = 0) (h : off < 0x1000) :
    s.slotRead r (slotAddr p off) = s.pageRead r p off := by
  simp [State.slotRead, placeOf_slotAddr p off h8 h]

/-- A write that its page's world allows, outside soft reset: the register's own write, or ADDR_UNASSIGNED (R30, R44, R49). -/
theorem State.pageWrite_reaches (r : Req) (p : Pg) (off : Nat) (w : Word) (hr : s.reaches r p true = true) :
    s.pageWrite r p off w =
      (match pgReg p off with
       | none => (if p = .sec ∧ off ≠ 0x50 then { s with unlockWin := none } else s).unassigned r (slotAddr p off) true
       | some (d, i) => (if p = .sec ∧ off ≠ 0x50 then { s with unlockWin := none } else s).regWrite r (s.secure r) p off d i w) := by
  simp only [State.reaches, Bool.and_eq_true, Bool.not_eq_true'] at hr
  obtain ⟨⟨-, h1⟩, h2⟩ := hr
  have h3 : (if p = .sec ∧ off ≠ 0x50 then { s with unlockWin := none } else s).softResetting p = false := by
    split <;> simpa [State.softResetting] using h2
  simp only [State.pageWrite, h1, Bool.not_true, Bool.false_eq_true, if_false, h3] <;> rfl

/-- A write of a register that a requester reaches. -/
theorem State.busWrite_reg (r : Req) (p : Pg) (off : Nat) (w : Word) (d : RegD) (i : Nat) (h8 : off % 8 = 0) (h : off < 0x1000)
    (hp : p ≠ .sec ∨ off = 0x50) (hr : s.reaches r p true = true) (hd : pgReg p off = some (d, i)) :
    s.busWrite r (slotAddr p off) w = s.regWrite r (s.secure r) p off d i w := by
  have hc : s.comes r p = true := by
    simp only [State.reaches, Bool.and_eq_true] at hr
    exact hr.1.1
  rw [s.busWrite_page r p off w h8 h hc, s.pageWrite_reaches r p off w hr, hd]
  have : ¬ (p = .sec ∧ off ≠ 0x50) := by
    rintro ⟨h1, h2⟩
    rcases hp with hp | hp
    · exact hp h1
    · exact h2 hp
  simp [this]

/-- A write without a reserved encoding to a block register that has no RWS field: what the block's present state makes of the word is
stored, what follows its commit is done, and then the command that it gives. -/
theorem State.regWrite_plain (r : Req) (sec : Bool) (p : Pg) (off : Nat) (d : RegD) (i : Nat) (w : Word) (ho : 0x40 ≤ off)
    (hs : s.seqShut p d.off = false) (hc : s.recShut p = false) (hb : s.carriesBad p d i w = false) (hd : d.secureFields = false) :
    s.regWrite r sec p off d i w =
      (match s.screen p d.off off (s.baseWord p off) (s.afterWrite p d i sec (s.baseWord p off) w) with
       | (_, some v, s') => (s'.setWord p off v).written p d.off off i (s.word p off)
       | (_, none, s') => s').commanded r sec p d.off off i w := by
  have n1 : ¬ off = 0x08 := by omega
  have n2 : ¬ off = 0x28 := by omega
  have n3 : ¬ off = 0x30 := by omega
  have n4 : ¬ off = 0x38 := by omega
  have n5 : (off == 0x20) = false := by simp; omega
  unfold State.regWrite
  simp only [hs, hc, hb, hd, n1, n2, n3, n4, n5, Bool.false_and, State.doIf_false, Bool.false_eq_true, if_false] <;> rfl

end Sys2Proof.Machine
end

