-- ==== Sys2Proof/Laws/Frames.lean ====
section
/-! SUPPORT. What the frames of the statements say of the operations on registers, and how frames join. -/

namespace Sys2Proof.Machine

theorem onlyWords_refl (s : State) (l : List (Pg × Nat)) : onlyWords s s l := ⟨rfl, fun _ _ _ _ => rfl⟩

theorem keeps_setWord (s : State) (p : Pg) (o : Nat) (w : Word) (ho : o < 0x1000) (l : List (Pg × Nat)) (h : (p, o) ∈ l) : keepsWords s (s.setWord p o w) l := by
  intro q b hb hn
  apply s.word_setWord_ne
  intro e
  obtain ⟨rfl, rfl⟩ := slotAddr_inj _ _ _ _ ho hb e
  exact hn h

theorem onlyWords_setWord (s : State) (p : Pg) (o : Nat) (w : Word) (ho : o < 0x1000) (l : List (Pg × Nat)) (h : (p, o) ∈ l) : onlyWords s (s.setWord p o w) l :=
  ⟨rfl, keeps_setWord s p o w ho l h⟩

theorem onlyWords_trans {s t u : State} {l : List (Pg × Nat)} (h1 : onlyWords s t l) (h2 : onlyWords t u l) : onlyWords s u l := by
  refine ⟨?_, fun p o ho hn => (h2.2 p o ho hn).trans (h1.2 p o ho hn)⟩
  have a := h1.1; have b := h2.1
  unfold sameParts at *
  rw [b, a]

theorem onlyWords_fire (s : State) (p : Pg) (i : Nat) (l : List (Pg × Nat)) (h : (p, 0x18) ∈ l) : onlyWords s (s.fire p i) l := by
  refine ⟨?_, ?_⟩
  · unfold sameParts
    conv_lhs => rw [s.fire_frame p i]
    rw [s.fire_regs]
  · intro q o ho hn
    rw [s.fire_word]
    exact keeps_setWord s p 0x18 _ (by decide) l h q o ho hn

theorem onlyWords_latch (s : State) (p : Pg) (off : Nat) (bits : List Nat) (w : Word) (ev : Nat) (ho : off < 0x1000) (l : List (Pg × Nat)) (h : (p, 0x18) ∈ l) (h' : (p, off) ∈ l) :
    onlyWords s (s.latch p off bits w ev) l := by
  unfold State.latch
  dsimp only
  refine onlyWords_trans ?_ (onlyWords_fire _ _ _ _ h)
  split <;> exact onlyWords_setWord _ _ _ _ ho _ h'

theorem raised_latch (s : State) (p : Pg) (off : Nat) (bits : List Nat) (w : Word) (ev : Nat) (he : ev < 32) : (s.latch p off bits w ev).raised p ev = true := by
  unfold State.latch
  dsimp only
  rw [State.raised_fire _ _ _ _ he]; simp

theorem onlyWords_put (s : State) (p : Pg) (f : Fld) (v : Nat) (ho : f.off < 0x1000) (l : List (Pg × Nat)) (h : (p, f.off) ∈ l) :
    onlyWords s (s.put p f v) l :=
  onlyWords_setWord s p f.off _ ho l h

theorem onlyWords_doIf (s : State) (b : Bool) (f : State → State) (l : List (Pg × Nat)) (h : onlyWords s (f s) l) :
    onlyWords s (s.doIf b f) l := by
  cases b
  · exact onlyWords_refl s l
  · exact h

/-- A register outside a frame's list reads as before. -/
theorem onlyWords_get {s t : State} {l : List (Pg × Nat)} (h : onlyWords s t l) (p : Pg) (f : Fld) (ho : f.off < 0x1000)
    (hn : (p, f.off) ∉ l) : t.get p f = s.get p f := by
  unfold State.get
  rw [h.2 p f.off ho hn]

/-- An event bit of a page outside a frame's list stays as it was. -/
theorem onlyWords_raised {s t : State} {l : List (Pg × Nat)} (h : onlyWords s t l) (p : Pg) (i : Nat) (hn : (p, 0x18) ∉ l) :
    t.raised p i = s.raised p i := by
  unfold State.raised
  rw [onlyWords_get h p HDR.EV_RAW.RAW (by decide) hn]

theorem onlyWords_updEvt (s : State) (f : EvtPart → EvtPart) (l : List (Pg × Nat)) : onlyWords s (s.updEvt f) l :=
  ⟨rfl, fun _ _ _ _ => rfl⟩

/-- The router's pins follow and nothing else does. -/
theorem onlyWords_irq (s : State) (l : List (Pg × Nat)) : onlyWords s s.irqUpdate l := by
  unfold State.irqUpdate
  exact onlyWords_updEvt _ _ _

end Sys2Proof.Machine
end

