-- ==== Sys2Proof/Laws/Wf.lean ====
section
/-! SUPPORT. Every named operation over memory and registers keeps the canonical form of the memories. -/

namespace Sys2Proof.Machine

variable (s : State)

theorem State.wf_iff : s.wf = true ↔
    s.regs.rising = true ∧ s.frozen.rising = true ∧ s.store.rising = true ∧ ∀ e : Fin 13, s.engs[e].wf = true := by
  unfold State.wf
  simp only [Bool.and_eq_true, List.all_eq_true, Vector.mem_toList_iff]
  constructor
  · rintro ⟨⟨⟨a, b⟩, c⟩, d⟩
    exact ⟨a, b, c, fun e => d _ (Vector.getElem_mem e.2)⟩
  · rintro ⟨a, b, c, d⟩
    refine ⟨⟨⟨a, b⟩, c⟩, fun x hx => ?_⟩
    obtain ⟨i, hi, rfl⟩ := Vector.mem_iff_getElem.1 hx
    exact d ⟨i, hi⟩

/-- A state whose memories are those of a well-kept state is well kept. -/
theorem State.wf_of_eq {s t : State} (h : s.wf = true) (hr : t.regs = s.regs) (hf : t.frozen = s.frozen) (hs : t.store = s.store)
    (he : t.engs = s.engs) : t.wf = true := by
  unfold State.wf at *
  rw [hr, hf, hs, he]; exact h

theorem State.wf_setWord (p : Pg) (off : Nat) (w : Word) (h : s.wf = true) : (s.setWord p off w).wf = true := by
  rw [State.wf_iff] at *
  exact ⟨Cells.rising_set _ _ _ _ h.1, h.2⟩

theorem State.wf_put (p : Pg) (f : Fld) (v : Nat) (h : s.wf = true) : (s.put p f v).wf = true := s.wf_setWord _ _ _ h

theorem State.wf_putI (p : Pg) (f : Fld) (v : Int) (h : s.wf = true) : (s.putI p f v).wf = true := s.wf_put _ _ _ h

theorem State.wf_inc (p : Pg) (f : Fld) (h : s.wf = true) : (s.inc p f).wf = true := s.wf_put _ _ _ h

theorem State.wf_doIf (b : Bool) (f : State → State) (h : s.wf = true) (hf : (f s).wf = true) : (s.doIf b f).wf = true := by
  cases b
  · exact h
  · exact hf

/-- A fold of steps that each keep the canonical form keeps it. -/
theorem State.wf_foldl {α : Type} (l : List α) (f : State → α → State) (hf : ∀ s x, s.wf = true → (f s x).wf = true) (h : s.wf = true) :
    (l.foldl f s).wf = true := by
  induction l generalizing s with
  | nil => exact h
  | cons x l ih => exact ih _ (hf _ _ h)

theorem State.wf_forEach {α : Type} (l : List α) (f : α → State → State) (hf : ∀ a s, s.wf = true → (f a s).wf = true) (h : s.wf = true) :
    (forEach l f s).wf = true := State.wf_foldl s l (fun t a => f a t) (fun t a => hf a t) h

theorem State.wf_fire (p : Pg) (i : Nat) (h : s.wf = true) : (s.fire p i).wf = true := by
  rw [s.fire_frame p i]
  exact State.wf_of_eq (s.wf_put p HDR.EV_RAW.RAW (setBit (s.get p HDR.EV_RAW.RAW) i) h) rfl rfl rfl rfl

theorem State.wf_unfire (p : Pg) (i : Nat) (was : Bool) (h : s.wf = true) : (s.unfire p i was).wf = true :=
  State.wf_of_eq (s.wf_doIf (!was) _ h (s.wf_put _ _ _ h)) rfl rfl rfl rfl

theorem State.wf_storePut (a : Nat) (w : Word) (h : s.wf = true) : (s.storePut a w).wf = true := by
  rw [State.wf_iff] at *
  exact ⟨h.1, h.2.1, Cells.rising_put _ _ _ h.2.2.1, h.2.2.2⟩

theorem State.wf_qSet (q : QId) (l : List (List Word)) (h : s.wf = true) : (s.qSet q l).wf = true := by
  refine State.wf_put _ _ _ _ (State.wf_put _ _ _ _ ?_)
  exact State.wf_of_eq h rfl rfl rfl rfl

theorem State.wf_qNote (c : QCyc) (h : s.wf = true) : (s.qNote c).wf = true := State.wf_of_eq h rfl rfl rfl rfl

theorem State.wf_qLand (q : QId) (e : List Word) (h : s.wf = true) : (s.qLand q e).wf = true :=
  State.wf_qNote _ _ (s.wf_qSet _ _ h)

theorem State.wf_qPush (q : QId) (e : List Word) (h : s.wf = true) : (s.qPush q e).2.wf = true := by
  unfold State.qPush
  dsimp only
  split
  · exact h
  · split
    · exact s.wf_qLand _ _ h
    · exact State.wf_qNote _ _ (s.wf_inc _ _ h)

theorem State.wf_mqPushAll (src idx : Nat) (e : List Word) (h : s.wf = true) : (s.mqPushAll src idx e).wf = true := by
  unfold State.mqPushAll
  refine s.wf_forEach _ _ (fun i t ht => ?_) h
  exact t.wf_doIf _ _ ht (t.wf_qPush _ _ ht)

theorem State.wf_qLanded (q : QId) (e : List Word) (h : s.wf = true) : (s.qLanded q e).wf = true := by
  unfold State.qLanded
  dsimp only
  split
  · apply State.wf_mqPushAll
    iterate 3 apply State.wf_putI
    exact h
  · exact State.wf_of_eq h rfl rfl rfl rfl
  · exact h

/-- An update of an engine that keeps its memories in form keeps the state's. -/
theorem State.wf_updEng (e : Fin 13) (f : Engine → Engine) (h : s.wf = true) (hf : s.engs[e].wf = true → (f s.engs[e]).wf = true) :
    (s.updEng e f).wf = true := by
  rw [State.wf_iff] at *
  refine ⟨h.1, h.2.1, h.2.2.1, fun j => ?_⟩
  have hs : (s.updEng e f).engs[j] = if e = j then f s.engs[e] else s.engs[j] := by
    simp only [State.updEng, Fin.getElem_fin, Vector.getElem_set]
    simp only [Fin.ext_iff]
  rw [hs]
  split
  · exact hf (h.2.2.2 e)
  · exact h.2.2.2 j

/-- An update of an engine that leaves its memories as they are. -/
theorem State.wf_updEng_of_eq (e : Fin 13) (f : Engine → Engine) (h : s.wf = true)
    (hp : (f s.engs[e]).pmem = s.engs[e].pmem) (hx : (f s.engs[e]).xmem = s.engs[e].xmem) (hy : (f s.engs[e]).ymem = s.engs[e].ymem)
    (hc : (f s.engs[e]).cache = s.engs[e].cache) : (s.updEng e f).wf = true :=
  s.wf_updEng e f h (fun he => by unfold Engine.wf at *; rw [hp, hx, hy, hc]; exact he)

/-- Flags of an engine that take another value where they have a given one. -/
theorem State.wf_setFlags (e : Fin 13) (old new : Flags) (h : s.wf = true) :
    (s.updEng e (fun x => if x.flags = old then { x with flags := new } else x)).wf = true :=
  s.wf_updEng e _ h (fun he => by split <;> exact he)

/-- A refused push that lands after all keeps the form (R80). -/
theorem State.wf_qLate (q : QId) (h : s.wf = true) : (s.qLate q).wf = true := by
  unfold State.qLate
  dsimp only
  split
  · exact h
  · have hu : ∀ v, State.wf (match q with
        | .pq n => (s.put (qStatReg q).1 (qFullPush q) v).unfire (.ax n) 4 (s.qCyc q).evWas
        | _ => s.put (qStatReg q).1 (qFullPush q) v) = true := by
      intro v
      split
      · exact State.wf_unfire _ _ _ _ (s.wf_put _ _ _ h)
      · exact s.wf_put _ _ _ h
    refine State.wf_qLanded _ _ _ (State.wf_qLand _ _ _ (State.wf_qNote _ _ ?_))
    split
    · exact State.wf_setFlags _ _ _ _ (hu _)
    · exact hu _

theorem State.wf_qPop (q : QId) (h : s.wf = true) : (s.qPop q).2.wf = true := by
  unfold State.qPop
  dsimp only
  split
  · split
    · exact h
    · exact s.wf_inc _ _ h
  · exact State.wf_qLate _ _ (State.wf_qNote _ _ (s.wf_qSet _ _ h))

theorem State.wf_qFlush (q : QId) (h : s.wf = true) : (s.qFlush q).wf = true := by
  have h' : ({ s with queues := s.queues.set q [] } : State).wf = true := State.wf_of_eq h rfl rfl rfl rfl
  unfold State.qFlush
  refine State.wf_put _ _ _ _ (State.wf_put _ _ _ _ (State.wf_put _ _ _ _ (State.wf_put _ _ _ _ (State.wf_qNote _ _ ?_))))
  split
  · exact State.wf_doIf _ _ _ h' (State.wf_unfire _ _ _ _ h')
  · exact h'

theorem State.wf_qClr (q : QId) (h : s.wf = true) : (s.qClr q).wf = true :=
  State.wf_put _ _ _ _ (State.wf_put _ _ _ _ (State.wf_put _ _ _ _ (s.wf_qNote _ h)))

theorem State.wf_qPopAll (q : QId) (h : s.wf = true) : (s.qPopAll q).2.wf = true := by
  unfold State.qPopAll
  dsimp only
  split
  · exact h
  · exact State.wf_qLate _ _ (State.wf_qNote _ _ (s.wf_qSet _ _ h))

theorem State.wf_fresh (h : s.wf = true) : s.fresh.2.wf = true := State.wf_of_eq h rfl rfl rfl rfl

theorem State.wf_ramPut (e : Fin 13) (space idx : Nat) (w : Word) (h : s.wf = true) : (s.ramPut e space idx w).wf = true := by
  refine s.wf_updEng e _ h (fun he => ?_)
  simp only [Engine.wf, Bool.and_eq_true] at he
  obtain ⟨⟨⟨a, b⟩, c⟩, d⟩ := he
  split <;> simp only [Engine.wf, Bool.and_eq_true] <;> simp_all [Cells.rising_put]

theorem State.wf_gSet (e : Fin 13) (i : Nat) (w : Word) (h : s.wf = true) : (s.gSet e i w).wf = true :=
  s.wf_updEng_of_eq e _ h rfl rfl rfl rfl

theorem State.wf_aSet (e : Fin 13) (a : Nat) (v : BitVec 88) (h : s.wf = true) : (s.aSet e a v).wf = true :=
  s.wf_updEng_of_eq e _ h rfl rfl rfl rfl

theorem State.wf_pStep (e : Fin 13) (p : Nat) (h : s.wf = true) : (s.pStep e p).wf = true :=
  s.wf_updEng_of_eq e _ h rfl rfl rfl rfl

theorem State.wf_cacheFill (e : Fin 13) (a : Nat) (w : Word) (h : s.wf = true) : (s.cacheFill e a w).wf = true := by
  unfold State.cacheFill
  split
  · refine s.wf_updEng e _ h (fun he => ?_)
    simp only [Engine.wf, Bool.and_eq_true] at *
    exact ⟨he.1, Cells.rising_put _ _ _ he.2⟩
  · exact h

theorem State.wf_retireOne (e : Fin 13) (h : s.wf = true) : (s.retireOne e).wf = true := by
  unfold State.retireOne
  split
  · exact h
  · exact State.wf_foldl _ _ _ (fun s x hs => State.wf_ramPut _ _ _ _ _ hs) (s.wf_updEng_of_eq e _ h rfl rfl rfl rfl)

theorem State.wf_retireN (e : Fin 13) (n : Nat) (h : s.wf = true) : (s.retireN e n).wf = true := by
  induction n generalizing s with
  | zero => exact h
  | succ n ih => exact ih _ (s.wf_retireOne e h)

theorem State.wf_retireFree (e : Fin 13) (x y : Bool) (h : s.wf = true) : (s.retireFree e x y).wf = true := by
  unfold State.retireFree
  split
  · exact h
  · split <;> split <;> first | exact h | exact s.wf_retireOne e h

end Sys2Proof.Machine
end

