-- ==== Sys2Proof/Tests/Slice0.lean ====
section
/-! SUPPORT. The model's own tests: ill-formed commands that the checks refuse, words of the engines written out from the manual's
encodings, single steps, and for every statement states and operands that meet its hypotheses. -/

namespace Sys2Proof.Tests

set_option Elab.async false

open Sys2Proof.Machine

/-- The block with every plane released, everything else as after reset. -/
def live : State :=
  { State.reset with rst := { RstPart.reset with
      asserted := [], reach := 0, resetOut := false, siRel := true, clkOn := true, mgmtRel := true, storeRdy := true, engRel := true,
      periRel := true, dpRel := true } }

/-- The same, some ticks later, with the PLL locked and the field banks released. -/
def boot : State :=
  { live with now := 1000, timeC := 1000, regs := [(0x2040, 1)], fiobs := Vector.replicate 4 { FiobPart.reset with rel := true } }

/-- A state some ticks later. -/
def ticks (n : Nat) (s : State) : State := { s with now := s.now + n, timeC := s.timeC + n }

/-- A state whose queues have not moved in this cycle. -/
def fr (s : State) : State := { s with queues := { s.queues with cyc := [] } }

/-- The state a command answers. -/
def run1 (c : Instr) (s : State) : State := match exec c s with
  | .next t => t
  | _ => s

/-! ### Ill-formed commands are refused, one for each check -/

theorem test_wf_command_1 : (
  [.registerWrite .bar0 4294967296 0, .registerWrite .bar0 4 0, .write32Low .bar0 4294967296 0, .write32Low .bar0 4 0,
    .write32High .bar0 4294967300 0, .write32High .bar0 0 0, .read32Low .bar0 4294967296, .read32Low .bar0 4,
    .read32High .bar0 4294967300, .read32High .bar0 0, .moveStart .bar0 0 1024, .moveAppend .bar0 0 1024,
    .moveReplace .bar0 0 1024, .gearConfigWrite .bar0 0 4096 0, .gearConfigWrite .bar0 0 4 0, .govConfigWrite .bar0 0 4096 0,
    .govConfigWrite .bar0 0 4 0, .loopParamWrite .bar0 0 4096 0, .loopParamWrite .bar0 0 4 0, .platformCommand .bar0 16 0,
    .overlayLoad .bar0 0 262144, .engineWindowAccess .bar0 4294967296 false 0, .engineWindowAccess .bar0 4 false 0,
    .taskTableWrite .bar0 0 4096 0, .taskTableWrite .bar0 0 4 0, .seqProgramWrite .bar0 0 4096 0,
    .seqProgramWrite .bar0 0 4 0, .probeChange 0 false 64, .recConfigWrite .bar0 false 4096 0,
    .recConfigWrite .bar0 false 4 0, .baonTriggerReceived 64, .baonEchoReceived 4194304, .canTxAttemptEnd 0 .sent (some 128),
    .go .bar0 8388608, .spiRead 0 0, .dbgacc false 4294967296 0, .dbgacc false 4 0, .canRxError 0 0 false,
    .canRxError 0 7 true, .chopperComparatorTrip 0 false 16384] : List Instr).all (fun c => !c.wf) = true := by
  decide

theorem test_wf_command_2 : (
  [.pcieMemoryRequest .bar0 (2 ^ 32) false true [], .pcieMemoryRequest .bar0 2 false false [],
    .seqShift 0 (List.replicate 49 true),
    .canFrameReceived 0 ⟨false, false, false, false, false, 2048, 0, [], 0⟩,
    .canFrameReceived 0 ⟨true, false, false, false, false, 2 ^ 29, 0, [], 0⟩,
    .canFrameReceived 0 ⟨false, false, false, false, false, 0, 16, [], 0⟩,
    .canFrameReceived 0 ⟨false, true, false, false, false, 0, 15, List.replicate 65 0, 0⟩,
    .ethFrameReceived 0 ⟨true, List.replicate 13 0, 0, 0⟩, .storeRequest 0 0 false (2 ^ 22) 1 [], .storeRequest 0 0 false 0 0 [],
    .storeRequest 0 0 true 0 17 (List.replicate 17 0), .storeRequest 0 0 true 0 2 [0], .storeRequest 0 0 false 0 1 [0]] : List Instr).all (fun c => !c.wf) = true := by
  decide

theorem test_wf_engine_1 : (
  [.insMove 0 256 0, .insMove 0 0 256, .insMpy 0 4 0 0 0 0 0, .insMpy 0 0 32 0 0 0 0, .insMpy 0 0 0 32 0 0 0,
    .insMpy 0 0 0 0 4 0 0, .insMpy 0 0 0 0 0 256 0, .insMpy 0 0 0 0 0 0 256, .insMac 0 4 0 0 0 0 0, .insMac 0 0 32 0 0 0 0,
    .insMac 0 0 0 32 0 0 0, .insMac 0 0 0 0 4 0 0, .insMac 0 0 0 0 0 256 0, .insMac 0 0 0 0 0 0 256, .insMsu 0 4 0 0 0 0 0,
    .insMsu 0 0 32 0 0 0 0, .insMsu 0 0 0 32 0 0 0, .insMsu 0 0 0 0 4 0 0, .insMsu 0 0 0 0 0 256 0, .insMsu 0 0 0 0 0 0 256,
    .insMacsu 0 4 0 0 0 0 0, .insMacsu 0 0 32 0 0 0 0, .insMacsu 0 0 0 32 0 0 0, .insMacsu 0 0 0 0 4 0 0,
    .insMacsu 0 0 0 0 0 256 0, .insMacsu 0 0 0 0 0 0 256, .insMacuu 0 4 0 0 0 0 0, .insMacuu 0 0 32 0 0 0 0,
    .insMacuu 0 0 0 32 0 0 0, .insMacuu 0 0 0 0 4 0 0, .insMacuu 0 0 0 0 0 256 0, .insMacuu 0 0 0 0 0 0 256,
    .insMaca 0 4 0 0 0 0 0, .insMaca 0 0 32 0 0 0 0, .insMaca 0 0 0 32 0 0 0, .insMaca 0 0 0 0 4 0 0,
    .insMaca 0 0 0 0 0 256 0, .insMaca 0 0 0 0 0 0 256, .insLmove 0 256 0, .insLmove 0 0 256] : List Instr).all (fun c => !c.wf) = true := by
  decide

theorem test_wf_engine_2 : (
  [.insLmpy 0 4 0 0 0 0 0, .insLmpy 0 0 32 0 0 0 0, .insLmpy 0 0 0 32 0 0 0, .insLmpy 0 0 0 0 4 0 0,
    .insLmpy 0 0 0 0 0 256 0, .insLmpy 0 0 0 0 0 0 256, .insLmac 0 4 0 0 0 0 0, .insLmac 0 0 32 0 0 0 0,
    .insLmac 0 0 0 32 0 0 0, .insLmac 0 0 0 0 4 0 0, .insLmac 0 0 0 0 0 256 0, .insLmac 0 0 0 0 0 0 256,
    .insLmsu 0 4 0 0 0 0 0, .insLmsu 0 0 32 0 0 0 0, .insLmsu 0 0 0 32 0 0 0, .insLmsu 0 0 0 0 4 0 0,
    .insLmsu 0 0 0 0 0 256 0, .insLmsu 0 0 0 0 0 0 256, .insAdd 0 64 0 0, .insAdd 0 0 64 0, .insAdd 0 0 0 64,
    .insSub 0 64 0 0, .insSub 0 0 64 0, .insSub 0 0 0 64, .insAnd 0 64 0 0, .insAnd 0 0 64 0, .insAnd 0 0 0 64,
    .insOr 0 64 0 0, .insOr 0 0 64 0, .insOr 0 0 0 64, .insXor 0 64 0 0, .insXor 0 0 64 0, .insXor 0 0 0 64,
    .insAndn 0 64 0 0, .insAndn 0 0 64 0, .insAndn 0 0 0 64, .insMin 0 64 0 0, .insMin 0 0 64 0, .insMin 0 0 0 64,
    .insMax 0 64 0 0] : List Instr).all (fun c => !c.wf) = true := by
  decide

theorem test_wf_engine_3 : (
  [.insMax 0 0 64 0, .insMax 0 0 0 64, .insAbs 0 64 0, .insAbs 0 0 64, .insNeg 0 64 0, .insNeg 0 0 64, .insMov 0 64 0,
    .insMov 0 0 64, .insNot 0 64 0, .insNot 0 0 64, .insCmp 0 64 0, .insCmp 0 0 64, .insTst 0 64 0, .insTst 0 0 64,
    .insAsl 0 64 0 false 0, .insAsl 0 0 64 false 0, .insAsl 0 0 0 false 64, .insAsr 0 64 0 false 0, .insAsr 0 0 64 false 0,
    .insAsr 0 0 0 false 64, .insLsr 0 64 0 false 0, .insLsr 0 0 64 false 0, .insLsr 0 0 0 false 64, .insRol 0 64 0 false 0,
    .insRol 0 0 64 false 0, .insRol 0 0 0 false 64, .insClr 0 64, .insLda 0 64 0, .insLda 0 0 64, .insLdai 0 64 0,
    .insLdai 0 0 64, .insAdda 0 64 0, .insAdda 0 0 64, .insSuba 0 64 0, .insSuba 0 0 64, .insNega 0 64, .insAbsa 0 64,
    .insShla 0 64 0, .insShla 0 0 64, .insShra 0 64 0] : List Instr).all (fun c => !c.wf) = true := by
  decide

theorem test_wf_engine_4 : (
  [.insShra 0 0 64, .insMva 0 64 0 0 false, .insMva 0 0 64 0 false, .insMva 0 0 0 4 false, .insLdi 0 64 0, .insLdih 0 64 0,
    .insAddi 0 64 0, .insCmpi 0 64 0, .insMovs 0 64 0 false, .insMovs 0 0 64 false, .insLd 0 64 false 0 0 0,
    .insLd 0 0 false 8 0 0, .insLd 0 0 false 0 4 0, .insSt 0 64 false 0 0 0, .insSt 0 0 false 8 0 0, .insSt 0 0 false 0 4 0,
    .insPset 0 32 0, .insPmode 0 32 0 0 0, .insPmode 0 0 4 0 0, .insPrd 0 64 false, .insPwr 0 64 false, .insPop 0 64 0,
    .insPop 0 0 64, .insPush 0 64 0, .insPush 0 0 64, .insWaitp 0 64 0, .insWaitp 0 0 64, .insWaitc 0 64 0, .insWaitc 0 0 64,
    .insOcc 0 64 0, .insOcc 0 0 64, .insCred 0 64 0, .insCred 0 0 64, .insSincos 0 64 0, .insSincos 0 0 64, .insNorm 0 64 0,
    .insNorm 0 0 64, .insDiv 0 64 0 0, .insDiv 0 0 64 0, .insDiv 0 0 0 64] : List Instr).all (fun c => !c.wf) = true := by
  decide

theorem test_wf_engine_5 : (
  [.insSqrt 0 64 0, .insSqrt 0 0 64, .insBr 0 16 0, .insCall 0 16 0, .insJr 0 64, .insCallr 0 64,
    .insLoop 0 false false 4096 0, .insLoop 0 false false 0 65536, .insBreak 0 16, .insRepeat 0 false 4096] : List Instr).all (fun c => !c.wf) = true := by
  decide

theorem test_wf_accepts : ([.registerWrite .bar0 0x40060 1, .write32High .spi 0x40064 7, .insMpy 3 0 17 0 1 81 154, .insLd 12 63 true 7 3 0,
    .storeRequest 5 0 true 0 2 [1, 2], .canFrameReceived 2 ⟨false, false, false, false, false, 0x7FF, 1, [0x5C], 5⟩] : List Instr).all
    (fun c => c.wf) = true := by
  decide

/-! ### Words of the engines, written out from the formats of R221 and the opcode map -/

/-- MPY A0, G17, K0 with X: load G16, Y: store G25, as the manual's biquad has it: 0x0_8881_4081. -/
theorem test_word_mpy :
    0x02#6 ++ 0#2 ++ 17#5 ++ 0#5 ++ 1#2 ++ 0b01#2 ++ 0#3 ++ 0#3 ++ 0b10#2 ++ 0#3 ++ 1#3 = 0x088814081#36 ∧
    decodeW 6 0x088814081 = .ins (.mac .mpy false 0 17 0 1 0x40 0x81) := by
  decide +kernel

/-- The other words of the manual's biquad: MAC, MSU, MVA G24, A0 of bits 69:34 rounded, LOOP rot, 32, 6; the word 0 is undefined. -/
theorem test_words_biquad :
    decodeW 6 0x0C9010000 = .ins (.mac .mac false 0 18 0 1 0 0) ∧ decodeW 6 0x10C810000 = .ins (.mac .msu false 0 25 0 1 0 0) ∧
    decodeW 6 0x4D8000005 = .ins (.mva 24 0 1 true) ∧ decodeW 6 0x920200006 = .ins (.loop true false 32 6) ∧
    decodeW 6 0 = .undefined := by
  decide +kernel

/-- One word of each other format: R (SUB G3, G17, G18), I (LDIH G5, 0xABC), L (LD G17, Y[Q3 + 0x25]), P (PSET Q1, 0x1FF and PMODE
K0 modulo INC 1 LEN 4), Q (POP G4 from PQ1), B (BR 2, 0x200), C (REPEAT on PE alone) and Z (TEND). -/
theorem test_words_formats :
    decodeW 3 (0x10#6 ++ 3#6 ++ 17#6 ++ 18#6 ++ 0#6 ++ 1#6) = .ins (.alu .sub 3 17 18) ∧
    decodeW 3 (0x15#6 ++ 5#6 ++ 0xABC#24) = .ins (.imm .ldih 5 0xABC) ∧
    decodeW 3 (0x18#6 ++ 17#6 ++ 1#1 ++ 3#3 ++ 2#2 ++ 0x25#18) = .ins (.mem false 17 true 3 2 0x25) ∧
    decodeW 3 (0x1A#6 ++ 9#5 ++ 0#1 ++ 0x1FF#24) = .ins (.pset 9 0x1FF) ∧
    decodeW 3 (0x1B#6 ++ 16#5 ++ 1#2 ++ 1#11 ++ 4#12) = .ins (.pmode 16 1 1 4) ∧
    decodeW 3 (0x1D#6 ++ 4#6 ++ 1#6 ++ 0#3 ++ 0#15) = .ins (.queue .pop 4 1) ∧
    decodeW 3 (0x20#6 ++ 2#4 ++ 0#6 ++ 0x200#20) = .ins (.br 2 0x200) := by
  decide +kernel

/-- A field marked zero that is not zero, a register that an axis engine has not, and an opcode that is PE's (R223). -/
theorem test_words_refused :
    decodeW 3 (0x10#6 ++ 3#6 ++ 17#6 ++ 18#6 ++ 1#6 ++ 1#6) = .reserved ∧
    decodeW 3 (0x10#6 ++ 32#6 ++ 17#6 ++ 18#6 ++ 0#6 ++ 1#6) = .reserved ∧
    decodeW 3 (0x26#6 ++ 0#2 ++ 5#12 ++ 0#16) = .undefined ∧ decodeW 12 (0x26#6 ++ 0#2 ++ 5#12 ++ 0#16) = .ins (.rep false 5) ∧
    decodeW 3 (0x28#6 ++ 0#30) = .ins .tend ∧ decodeW 3 (0x28#6 ++ 1#30) = .reserved := by
  decide +kernel

/-! ### Single steps, after the manual's worked examples -/

/-- What a command answers, where it answers a next state, satisfies a check. -/
def after (c : Instr) (s : State) (f : State → Bool) : Bool := match exec c s with
  | .next t => f t
  | _ => false

/-- The split write of a negative POS36 value (R33): the low half is staged, the slot unchanged. -/
theorem test_split_low :
    after (.write32Low .bar0 0x1400800 0xFBC18000) { live with store := [(0x100, 5)] } (fun t =>
      t.bar0.latch == some (0x280100, 0xFBC18000) && t.storeGet 0x100 == 5) = true := by
  decide +kernel

theorem test_split_high :
    after (.write32High .bar0 0x1400804 0x1234567F) { live with bar0 := { live.bar0 with latch := some (0x280100, 0xFBC18000) } }
      (fun t => t.storeGet 0x100 == 0xFFBC18000) = true := by
  decide +kernel

theorem test_read_low :
    after (.read32Low .bar0 0x1400800) { live with store := [(0x100, 0xFFBC18000)] } (fun t =>
      t.bar0.rdata == [0xFBC18000] && t.bar0.snap == some (0x280100, 0xFFBC18000)) = true := by
  decide +kernel

theorem test_read_high :
    after (.read32High .bar0 0x1400804) { live with bar0 := { live.bar0 with snap := some (0x280100, 0xFFBC18000) } } (fun t =>
      t.bar0.rdata == [0xFFFFFFFF] || t.bar0.rdata == [0xFFFFFFFFFFFFFFFF]) = true := by
  decide +kernel

/-- 12.5 ns after second 7 (R9). -/
theorem test_time72 : time72 (7 * 64000000000 + 800) = (0x320, 7) := by decide

/-- The depth-4 queue's last row (R81): the push is refused and counted, the entry lost. -/
theorem test_queue_full :
    ((live.qSet (.dq 3) [[1], [2], [3], [4]]).qPush (.dq 3) [5]).1 = false ∧
    ((live.qSet (.dq 3) [[1], [2], [3], [4]]).qPush (.dq 3) [5]).2.qGet (.dq 3) = [[1], [2], [3], [4]] ∧
    ((live.qSet (.dq 3) [[1], [2], [3], [4]]).qPush (.dq 3) [5]).2.get (qStatReg (.dq 3)).1 (qFullPush (.dq 3)) = 1 := by
  decide +kernel

/-- A write reaches its register through the step, and the queue keeps its rest. -/
theorem test_step_front :
    (match step { live with pending := [.registerWrite .spi 0x43060 0x123, .pllLock] } with
     | .next t => t.word (.fb 3) 0x60 == 0x123 && t.pending == [.pllLock]
     | _ => false) = true := by
  decide +kernel

/-- On an empty queue a tick passes. -/
theorem test_step_tick :
    (match step live with
     | .next t => t.now == 1 && t.timeC == 1
     | _ => false) = true := by
  decide +kernel

/-- SUB saturates and sets S (R226): −2^35 − 1 in G3. -/
theorem test_sub_saturates :
    after (.insSub 3 3 1 2) ((((live.put (.ae 3) AE.ENG_STAT.STATE 1).updEng 3 (fun x => { x with pc := 0x100 })).gSet 3 1
        0x800000000).gSet 3 2 1) (fun t =>
      t.gGet 3 3 == 0x800000000 && t.engs[3].flags.s && t.engs[3].flags.v && t.engs[3].pc == 0x101) = true := by
  decide +kernel

/-! ### For every statement, states and operands that meet its hypotheses -/

namespace Pages

def s4 := ([.sys, .ax 3, .dp 9, .pe, .arb] : List Pg).foldl (fun s p => s.put p HDR.LOCK.LOCK 1) boot

theorem witness_PageControl_1 :
    s4.reaches Req.spi Pg.sys true = true := by
  decide +kernel

theorem witness_ReservedEncodingRejected_1 :
    112 % 8 = 0 ∧ 112 < 4096 ∧ Pg.ax 4 ≠ Pg.sec ∧ pgReg (Pg.ax 4) 112 = some ({ off := 112, stride := 0, cnt := 1, reset := (4296467296 : Word), stat := false, flds := [{ hi := 33, lo := 33, acc := Acc.rw : FieldD }, { hi := 32, lo := 28, acc := Acc.rw, bad := [(0, 0), (29, 31)] : FieldD }, { hi := 27, lo := 0, acc := Acc.rw : FieldD }] : RegD },
    0) ∧ boot.reaches Req.bar0 (Pg.ax 4) true = true ∧ boot.seqShut (Pg.ax 4) { off := 112, stride := 0, cnt := 1, reset := (4296467296 : Word), stat := false, flds := [{ hi := 33, lo := 33, acc := Acc.rw : FieldD }, { hi := 32, lo := 28, acc := Acc.rw, bad := [(0, 0), (29, 31)] : FieldD }, { hi := 27, lo := 0, acc := Acc.rw : FieldD }] : RegD }.off
    = false ∧ boot.carriesBad (Pg.ax 4) { off := 112, stride := 0, cnt := 1, reset := (4296467296 : Word), stat := false, flds := [{ hi := 33, lo := 33, acc := Acc.rw : FieldD }, { hi := 32, lo := 28, acc := Acc.rw, bad := [(0, 0), (29, 31)] : FieldD }, { hi := 27, lo := 0, acc := Acc.rw : FieldD }] : RegD }
    0 (BitVec.setWidth 36 (0 : BitVec 64)) = true ∧ boot.recShut (Pg.ax 4) = false := by
  decide +kernel

end Pages

namespace Clocks

def rg (s : State) : State := ((s.put (.ax 3) AX.PROF_CFG.SRC 1).put (.dp 9) DP.DP_CFG.UPD 1).put .clk CLK.STAT.ROOT_LOCK 1
def w0 : State := (rg boot)
def w1 : State := (rg boot)
def w2 : State := (rg boot)
def w4 : State := (rg (boot.put .rst RST.WDT_CTRL.EN 1))
def w8 : State := { boot with rst := {boot.rst with mgmtRel := false}}
def w9 : State := { boot with rst := {boot.rst with storeRdy := false}}
def w10 : State := { boot with rst := {boot.rst with periRel := false}}
def w11 : State := { boot with rst := {boot.rst with dpRel := false}}

theorem witness_ClockWatch_1 :
    w0.rst.resetOut = false ∧ w0.rst.lossHold = false ∧ w0.flag Pg.clk CLK.STAT.ROOT_LOCK = true := by
  decide +kernel

theorem witness_ClockWatch_2 :
    (w1.rst.siRel = true ∧ 2425 ≤ 2500 ∧ 2500 ≤ 2575 ∧ w1.released Pg.clk = true ∧ (2500 < 4656 ∨ 4944 < 2500)) ∧
    (w2.rst.siRel = true ∧ w2.rst.reach ≤ 2 ∧ (4800 < 2425 ∨ 2575 < 4800) ∧ w2.released Pg.clk = true ∧ 4656 ≤ 4800 ∧ 4800 ≤ 4944) := by
  and_intros <;> decide +kernel

theorem witness_Watchdogs :
    w4.wdtRuns Wdt.ctrl = true ∧ w4.rst.warned Wdt.ctrl = false ∧ w4.opens Req.pe Pg.rst = true ∧ Req.pe ∈ [Req.bar0, Req.bar2,
    Req.spi, Req.pe] := by
  decide +kernel

theorem witness_ReleaseOrder_1 :
    ((run1 Instr.powerOnRelease State.reset).rst.resetOut = true ∧ (run1 Instr.powerOnRelease State.reset).rst.asserted = []) ∧
    (w8.rst.clkOn = true ∧ w8.rst.resetOut = false ∧ w8.rst.mgmtRel = false) ∧
    (w9.rst.mgmtRel = true ∧ w9.rst.resetOut = false ∧ w9.rst.storeRdy = false) ∧
    (w10.rst.engRel = true ∧ w10.rst.resetOut = false ∧ w10.rst.periRel = false) ∧
    (w11.rst.periRel = true ∧ w11.rst.resetOut = false ∧ w11.rst.dpRel = false) := by
  and_intros <;> decide +kernel

end Clocks

namespace Island

def cl := boot.laneLatch
def arm1 : State := ((boot.put (.si 0) SI0.SI_STAT.STATE 1).put (.si 3) SI3.SFB_CFG.TYPE 1).put (.si 0) SI0.PEN_REQ0.REQ 0xFFF
def s1 : State := { arm1 with si := { arm1.si with lanesOn := true, copyA := some cl, copyB := some cl, swA := some 0, swB := some 0, laneSwA := 0, laneSwB := 0 } }
def s2 : State := s1.updSi (fun i => { i with sp := { i.sp with st := i.sp.st.set 0 .demand, hand := i.sp.hand.set 0 .window, level := i.sp.level.set 0 true } })
def s4 : State := ((s1.put (.si 7) SI7.LANE_STAT.SOUT 4).put (.si 7) SI7.LANE_STAT.MODE 1).put (.si 2) SI2.SOUT_STAT.CMD 4
def w1 : State := (s1.updSi (fun i => { i with vsafeBad := true }))
def w2 : State := (s1.put (.si 1) (sinBit 0x108 3) 1)
def w12 : State := (s1.updSi (fun i => {i with beat := true}))
def w14 : State := ((s1.put (.si 0) SI0.SI_STAT.PE_OK 0).updSi (fun i => {i with good := 5, wait := true}))
def w15 : State := ((s1.put (.si 0) SI0.SI_STAT.LADDER 3).updSi (fun i => {i with good := 5, wait := true}))
def w17 : State := ((s1.put (.si 0) SI0.SI_STAT.LADDER 2).put (.si 0) SI0.SI_STAT.PE_OK 1)
def w20 : State := (s1.updSi (fun i => {i with pulse := some 2}))
def w23 : State := (s1.put .clk CLK.STAT.SI_OSC_FAULT 1)

theorem witness_SafetyOutputs_1 :
    w1.si.vsafeBad = true ∧ w1.rst.siRel = true := by
  decide +kernel

theorem witness_SafetyFunctions_1 :
    w2.decOn Decider.sp = true ∧ w2.rst.siRel = true ∧ w2.get (Pg.si 1) (sinBit 264 3) = 1 := by
  decide +kernel

theorem witness_SafetyFunctions_2 :
    s2.decOn Decider.sp = true ∧ (s2.dec Decider.sp).st[0] = Blk.demand ∧ s2.blkUsed Decider.sp 0 = true ∧ fld (s2.blkCfg Decider.sp
    0) 28 27 = 0 ∧ fld (s2.blkCfg Decider.sp 0) 35 33 ∈ [1, 2, 4] ∧ s2.lvl Decider.sp (2 * fld (s2.blkCfg Decider.sp 0) 32 29) ≠
    s2.lvl Decider.sp (2 * fld (s2.blkCfg Decider.sp 0) 32 29 + 1) ∧ (s2.dec Decider.sp).st[0] ≠ Blk.disc ∧ (s2.dec
    Decider.sp).hand[0] = Hand.window := by
  decide +kernel

theorem witness_PortPermissions_1 :
    s2.si.vsafeBad = false ∧ s2.si.sclkStop = false := by
  decide +kernel

theorem witness_PortPermissions_2 :
    boot.opens Req.spi (Pg.si 0) = true := by
  decide +kernel

theorem witness_PeWatchAndLanes_1 :
    (w12.rst.siRel = true ∧ w12.si.beat = true) ∧
    (w14.rst.siRel = true ∧ w14.si.beat = false ∧ (w14.si.wait = true ∨ w14.rst.reach ≠ 0) ∧ 4 ≤ w14.si.good ∧ w14.flag (Pg.si 0)
    SI0.SI_STAT.PE_OK = false ∧ w14.si.wait = true ∧ w14.rst.resetOut = false ∧ w14.rst.reach ≤ 1 ∧ w14.flag (Pg.si 0)
    SI0.SI_STAT.LHOLD = false ∧ w14.get (Pg.si 0) SI0.SI_STAT.LADDER < 3) ∧
    (w15.rst.siRel = true ∧ w15.si.wait = true ∧ w15.rst.resetOut = false ∧ w15.flag (Pg.si 0) SI0.SI_STAT.LHOLD = false ∧ w15.get
    (Pg.si 0) SI0.SI_STAT.LADDER = 3) ∧
    (w17.rst.siRel = true ∧ w17.si.beat = false ∧ w17.si.wait = false ∧ w17.rst.reach = 0 ∧ w17.flag (Pg.si 0) SI0.SI_STAT.LHOLD =
    false ∧ w17.get (Pg.si 0) SI0.SI_STAT.LADDER < 3 ∧ w17.flag (Pg.si 0) SI0.SI_STAT.PE_OK = true) := by
  and_intros <;> decide +kernel

theorem witness_SafetyOutputs_2 :
    (s1.rst.siRel = true ∧ s1.soutOn 2 = false ∧ s1.si.pulse ≠ some (2 : Fin 8).val) ∧
    ((w20.portBit 104 3 && w20.lanePermits Decider.laneA 3 && w20.lanePermits Decider.laneB 3) = false ∧ w20.rst.siRel = true ∧
    w20.si.lanesOn = true ∧ w20.si.pulse = some (2 : Fin 8).val) ∧
    (s4.si.lanesOn = true ∧ s4.si.pulse = none ∧ s4.soutDrive 2 = true ∧ s4.si.readOn.getLsbD (2 : Fin 8).val = false ∧ s4.rst.siRel
    = true ∧ s4.soutOn 2 = true) := by
  and_intros <;> decide +kernel

theorem witness_PeWatchAndLanes_2 :
    (s1.rst.siRel = true ∧ s1.si.lanesOn = true ∧ s1.laneMode = 0 ∧ (2 : Fin 4).val ≠ 0 ∧ ((2 : Fin 4).val = 1 → s1.get (Pg.si 5)
    SI5.DIAG_STAT.FAILED ≠ 0) ∧ ((2 : Fin 4).val = 3 → s1.spAlone = true)) ∧
    (w23.si.lanesOn = true ∧ w23.laneMode ≠ 2 ∧ 4 ≤ (5 : Fin 8).val ∧ ((5 : Fin 8).val = 4 → w23.lanesDiffer = true) ∧ ((5 : Fin
    8).val = 5 → w23.flag Pg.clk CLK.STAT.SI_OSC_FAULT = true) ∧ ((5 : Fin 8).val = 6 → ∃ n, w23.penBall n = true ∧ w23.withheld
    n = true)) := by
  and_intros <;> decide +kernel

end Island

namespace Resets

def rg (s : State) : State := ((s.put (.ax 3) AX.PROF_CFG.SRC 1).put (.dp 9) DP.DP_CFG.UPD 1).put .clk CLK.STAT.ROOT_LOCK 1
def w0 : State := (rg boot)
def w2 : State := (rg boot)
def w3 : State := (rg (boot.put .sec HDR.WORLD.WORLD 1))
def w4 : State := {boot with held := [{ req := .spi, addr := 0x1400000 + 8 * 77, wr := true, data := 8, half := none }]}

theorem witness_EngineWindow :
    (Req.spi = Req.bar0 ∨ Req.spi = Req.bar2 ∨ Req.spi = Req.spi) ∧ boot.present Req.spi = true ∧ boot.holds Req.spi = false ∧
    boot.rst.engRel = true ∧ boot.engs[engOf 3].sbuf = [] ∧ worldAllows (boot.get (Pg.ae 3) HDR.WORLD.WORLD) (boot.secure
    Req.spi) true = true ∧ worldAllows (boot.get (Pg.ae 3) HDR.WORLD.WORLD) (boot.secure Req.spi) false = true := by
  decide +kernel

theorem witness_AccessHalves_1 :
    boot.splits Req.spi = true ∧ Option.map Prod.fst (boot.port Req.spi).latch ≠ some (299016 / 8 : Nat) := by
  decide +kernel

theorem witness_Resets_1 :
    (¬RstSrc.por ∈ w0.rst.asserted ∧ 99 < 100) ∧
    (1000 ≤ 2000) := by
  and_intros <;> decide +kernel

theorem witness_Resets_2 :
    (w2.rst.reach ≤ 1 ∧ w2.opens Req.spi Pg.rst = true ∧ w2.secure Req.spi = true ∧ w2.opens Req.spi Pg.dbg = true) ∧
    (w3.rst.reach ≤ 1 ∧ w3.warmSource RstSrc.si = true) := by
  and_intros <;> decide +kernel

theorem witness_ReleaseOrder_2 :
    w4.rst.storeRdy = true ∧ w4.held = [{ req := Req.spi, addr := 20971520 + 8 * (77 : Fin 262144).val, wr := true, data := (8 : BitVec 64), half := none : HeldAcc }]
    ∧ worldAllows (w4.storeWorld (77 : Fin 262144).val) (w4.secure Req.spi) true = true := by
  decide +kernel

end Resets

namespace Events

def f0 : Firing := ⟨116, 5, 1, 2, 7⟩
def g0 : State := ((boot.setWord .evt (0x800+8*58) 0xA80022000).setWord .evt (0x80+8*3) 0x300000)
def g1 : State := { g0 with evt := { g0.evt with fired := [f0] } }
def g2 : State := { g1 with host := { g1.host with linkUp := true, busMaster := true, msiEnable := true } }
def g3 : State := { g2 with evt := { g2.evt with count := g2.evt.count.set 5 3 }, host := {g2.host with msiMask := 32} }
def g4 : State := { g0 with evt := { g0.evt with delivering := [f0], logQ := [f0] } }
def g6 : State := ((boot.setWord (.ae 3) 0x108 0x8C0018000).setWord (.ae 3) 0x58 0x10).put (.ae 3) AE.ENG_STAT.STATE 1
def g7 : State := { g6 with evt := { g6.evt with pulsed := [0x400+8*24+48] } }
def g8 : State := g7.updEng 3 (fun x => {x with ready := [⟨4,1⟩]})

theorem witness_EventBits_1 :
    (g1.runs Pg.evt = true ∧ g1.evt.fired = [f0] ∧ g1.evt.logQ.length < 16 ∧ bit (g1.route f0.ev f0.tick) 17 = true ∧ g1.route f0.ev
    f0.tick / 2 ^ 13 % 16 = (1 : Fin 16).val ∧ (∀ (w : Fin 16), w ≠ 1 → g1.evt.count[w] = 0)) ∧
    (g3.evt.count[5] ≠ 0 ∧ g3.host.msiMask = BitVec.ofNat 16 (2 ^ (5 : Fin 16).val) ∧ g3.host.linkUp = true ∧ g3.host.d3hot = false ∧
    g3.host.busMaster = true ∧ g3.host.msiEnable = true) := by
  and_intros <;> decide +kernel

theorem witness_EventDelivery_1 :
    g4.evt.logQ = [f0] ∧ g4.rst.storeRdy = true ∧ g4.storeBusy = false ∧ (∀ (k : Nat), k < 4 → worldAllows (g4.storeWorld (786432 +
    4 * g4.get Pg.evt EVT.LOG_STAT.WIDX + k)) (g4.pageSecure Pg.evt) true = true) ∧ g4.reaches Req.bar0 Pg.evt false = true ∧
    worldAllows (g4.storeWorld (786432 + g4.get Pg.evt EVT.RD_ADDR.ADDR)) (g4.pageSecure Pg.evt) false = true := by
  decide +kernel

theorem witness_EventDelivery_2 :
    g8.engRuns 3 = true ∧ (1 : Fin 32).val < taskCount 3 ∧ BitVec.msb (g8.taskW 3 (1 : Fin 32).val) = true ∧ (g8.taskSel 3 (1 : Fin
    32).val = none ∨ ∃ o, o ∈ g8.evt.pulsed ∧ g8.taskSel 3 (1 : Fin 32).val = some o) ∧ g8.engs[3].running = none ∧
    g8.engs[3].saved = none ∧ (∃ x, x ∈ g8.engs[3].ready ∧ x.task = (1 : Fin 32).val) := by
  decide +kernel

end Events

namespace HostPort

def hb : State := { boot with host := { boot.host with linkUp := true, busMaster := true, msiEnable := true } }
def h1 : State := (hb.put .sys (SYS.DMA_STAT.STATE.nth 3) 1).put .sys (SYS.DMA_STAT.STATE.nth 8) 1
def h2 : State := (h1.storePut (0x70000+0x2000*3) 0x3)
def h3 : State := ((h2.put .sys (SYS.DMA_STAT.STATE.nth 6) 1).setWord .sys (0x110+0x20*6) 0x800000005)
def w3 : State := (hb.setWord (.can 3) 0x70 0x123456789)
def w8 : State := ((h3.put .sys (SYS.DMA_STAT.POS.nth 8) 7).setWord .sys 0x220 0x3FFFFC)
def w16 : State := ({h1 with host := {h1.host with d3hot := true}})
def w17 : State := (((h1.setWord .sec 0x1F8 1).setWord .sec 0x1F0 0).put .sys (SYS.DMA_STAT.POS.nth 8) 1)

theorem witness_HostLink :
    h1.host.linkUp = true ∧ (∀ (v : Fin 16), h1.evt.count[v] = 0) ∧ h1.host.txBack = [] ∧ h1.rst.mgmtRel = true := by
  decide +kernel

theorem witness_HostDma_1 :
    (w3.opens Req.bar0 Pg.sys = true ∧ w3.flag Pg.sys (SYS.DMA_CTL.EN.nth (3 : Fin 9).val) = false ∧ (3 : Fin 9).val < 8 ∧ (if (3 :
    Fin 9).val < 6 then w3.get Pg.sys (SYS.DMA_CTL.COUNT.nth (3 : Fin 9).val) = 0 else w3.get Pg.sys (SYS.DMA_CTL.COUNT.nth (3 :
    Fin 9).val) < 128) ∧ 1 ≤ 5 ∧ 5 ≤ 4194304 ∧ w3.dmaState 8 ≠ 1) ∧
    (w16.opens Req.bar0 Pg.sys = true ∧ 1 ≤ 5 ∧ 5 ≤ 4194304 ∧ w16.dmaState 8 = 1 ∧ w16.dmaReady = false) ∧
    (w17.dmaState 8 = 1 ∧ w17.dmaReady = true ∧ (true = true → ∃ a, a ∈ w17.dmaWords 8 ∧ worldAllows (w17.storeWorld a) (w17.secure
    Req.dma) ((8 : Fin 9).val == 6 || (8 : Fin 9).val == 7) = false)) := by
  and_intros <;> decide +kernel

theorem witness_HostDma_2 :
    (h2.dmaReady = true ∧ h2.dmaState 3 = 1 ∧ (3 : Fin 9).val < 6 ∧ (dmaRing 3).fst + (dmaRing 3).snd.fst * h2.dmaPos 3 < 1048576 ∧
    (fld (h2.storeGet ((dmaRing 3).fst + (dmaRing 3).snd.fst * h2.dmaPos 3)) 31 16 = h2.host.dmaSeq[3] ∨ h2.overtaken 3 (fld
    (h2.storeGet ((dmaRing 3).fst + (dmaRing 3).snd.fst * h2.dmaPos 3)) 31 16) = true) ∧ h2.storeOpen (h2.secure Req.dma) false
    ((dmaRing 3).fst + (dmaRing 3).snd.fst * h2.dmaPos 3) (lastWord 3 (h2.storeGet ((dmaRing 3).fst + (dmaRing 3).snd.fst *
    h2.dmaPos 3)) + 1)) ∧
    (h3.dmaReady = true ∧ h3.dmaState 6 = 1 ∧ ((6 : Fin 9).val = 6 ∨ (6 : Fin 9).val = 7) ∧ h3.dmaPos 6 < 128 ∧ h3.dmaPos 6 ≠ h3.get
    Pg.sys (SYS.DMA_CTL.COUNT.nth (6 : Fin 9).val) % 128 ∧ h3.storeOpen (h3.secure Req.dma) true ((dmaRing 6).fst + (dmaRing
    6).snd.fst * h3.dmaPos 6) 512) ∧
    (w8.dmaReady = true ∧ w8.dmaState 8 = 1 ∧ 8 = 8 ∧ w8.storeOpen (w8.secure Req.dma) false (w8.get Pg.sys SYS.DMA_SRC8.SRC)
    (w8.dmaPos 8)) := by
  and_intros <;> decide +kernel

theorem witness_SerialPorts_1 :
    boot.rst.mgmtRel = true ∧ boot.reaches Req.spi (Pg.fb 5) true = true ∧ boot.reaches Req.spi (Pg.fb 5) false = true ∧ 2 ^ 25 ≤
    BitVec.toNat (2147483648 : BitVec 32) := by
  decide +kernel

end HostPort

namespace Axes

def a1 : State := (boot.put (.ax 5) AX.AX_CFG.TYPE 1).put (.dp 5) DP.DP_STAT.OSTATE 2
def a2 : State := ((a1.put (.ax 5) AX.AX_STATE.STATE 4).put (.ax 5) AX.AX_STATE.CAUSE 7).put (.ax 5) AX.AX_STATE.HOLD 1
def a3 : State := (a2.qPush (.pq 5) [1,2,3,4]).2
def a4 : State := ((a1.put (.ax 5) AX.AX_CFG.TYPE 4).put (.ax 5) AX.AX_STATE.STATE 1).put (.ax 5) AX.PROF_STAT.PSTATE 1
def rd (p : Pg) (off : Nat) : RegD × Nat := (pgReg p off).getD (⟨0,0,0,0,false,[]⟩,0)
def a5 := (a4.put (.ax 5) AX.DICE_T.DUR 100).setWord (.ax 5) 0x70 0x201000000
def fa (ty act : Nat) : State := let s := (((a4.put (.ax 5) AX.AX_CFG.TYPE ty).put (.ax 5) AX.CHAIN_LIM.FAULT_ACT act).qPush (.dq 5) [1,2,3,4]).2; s.updAx 5 (fun a => { a with sup := { a.sup with starveDue := true, curMissDue := true, fbLossDue := true, overDue := true, forceDue := true, feDue := true, vsatDue := true } })
def w6 : State := (a1.put (.ax 5) AX.GEAR_STAT.GSTATE 1)
def w11 : State := ((((a5.setWord (.ax 5) 0x90 55).updAx 5 (fun a => {a with cmds := [⟨.move,1,0,true,none,0⟩]})).put (.ax 5)
  AX.AX_CFG.TYPE 1))
def w13 : State := (fa 1 0)

theorem witness_AxisCommands_1 :
    (a1.reaches Req.bar0 (Pg.ax 5) true = true ∧ a1.flag (Pg.ax 5) HDR.LOCK.LOCK = false ∧ fld (10754720003 : Word) 2 0 < 5 ∧ fld
    (10754720003 : Word) 9 8 < 3 ∧ fld (10754720003 : Word) 15 10 < 48 ∧ a1.axState 5 = 0 ∧ 1 ≤ fld (10754720003 : Word) 32 28 ∧
    fld (10754720003 : Word) 32 28 ≤ 28 ∧ a1.get (Pg.ax 5) AX.PROF_STAT.PSTATE = 0) ∧
    (a3.opens Req.spi (Pg.ax 5) = true ∧ a3.axState 5 = 4) ∧
    (a4.reaches Req.spi (Pg.ax 5) true = true ∧ a4.flag (Pg.ax 5) HDR.LOCK.LOCK = false ∧ fld (11005853955 : Word) 2 0 < 5 ∧ fld
    (11005853955 : Word) 9 8 < 3 ∧ fld (11005853955 : Word) 15 10 < 48 ∧ a4.axState 5 ≠ 0 ∧ fld (11005853955 : Word) 2 0 ≠
    a4.axType 5 ∧ a4.opens Req.spi (Pg.ax 5) = true ∧ a4.axState 5 ≠ 4 ∧ a4.axType 5 = 4 ∧ a4.axState 5 = 1 ∧ a4.reaches Req.spi
    (qStatReg (QId.pq 5)).fst true = true ∧ a4.released (qStatReg (QId.pq 5)).fst = true ∧ (a4.qGet (QId.pq 5)).length ≤ qDepth
    (QId.pq 5) ∧ 1 ≤ fld (11005853955 : Word) 32 28 ∧ fld (11005853955 : Word) 32 28 ≤ 28 ∧ a4.get (Pg.ax 5) AX.PROF_STAT.PSTATE
    ≠ 0 ∧ fld (11005853955 : Word) 33 33 ≠ a4.get (Pg.ax 5) AX.PROF_CFG.SRC) := by
  and_intros <;> decide +kernel

theorem witness_AxisConfiguration :
    (272 % 8 = 0 ∧ 272 < 4096 ∧ a1.reaches Req.bar0 (Pg.ax 5) true = true ∧ pgReg (Pg.ax 5) 272 = some ((rd (Pg.ax 5) 272).fst, (rd
    (Pg.ax 5) 272).snd) ∧ a1.carriesBad (Pg.ax 5) (rd (Pg.ax 5) 272).fst (rd (Pg.ax 5) 272).snd (135732 : Word) = false ∧
    gearReg (rd (Pg.ax 5) 272).fst.off = true ∧ a1.geared 5 = false) ∧
    (576 % 8 = 0 ∧ 576 < 4096 ∧ w6.reaches Req.bar0 (Pg.ax 5) true = true ∧ pgReg (Pg.ax 5) 576 = some ((rd (Pg.ax 5) 576).fst, (rd
    (Pg.ax 5) 576).snd) ∧ w6.carriesBad (Pg.ax 5) (rd (Pg.ax 5) 576).fst (rd (Pg.ax 5) 576).snd (135732 : Word) = false ∧
    gearReg (rd (Pg.ax 5) 576).fst.off = true ∧ w6.geared 5 = true) ∧
    (344 % 8 = 0 ∧ 344 < 4096 ∧ a1.reaches Req.bar0 (Pg.ax 5) true = true ∧ pgReg (Pg.ax 5) 344 = some ((rd (Pg.ax 5) 344).fst, (rd
    (Pg.ax 5) 344).snd) ∧ a1.carriesBad (Pg.ax 5) (rd (Pg.ax 5) 344).fst (rd (Pg.ax 5) 344).snd (137072 : Word) = false ∧ govReg
    (rd (Pg.ax 5) 344).fst.off = true ∧ a1.axes[5].gov.staged = [] ∧ a1.reaches Req.bar0 (Pg.ae 1) true = true ∧ a1.flag (Pg.ae
    1) HDR.LOCK.LOCK = false ∧ 1 ≤ fld (137072 : Word) 20 16 ∧ fld (137072 : Word) 20 16 ≤ 16 ∧ 3000 ≤ fld (137072 : Word) 15 0
    ∧ fld (137072 : Word) 15 0 ≤ 37500 ∧ 9375 ≤ fld (137072 : Word) 20 16 * fld (137072 : Word) 15 0 ∧ fld (137072 : Word) 20 16
    * fld (137072 : Word) 15 0 ≤ 75000 ∧ (∀ (m : Fin 48), m ∈ axesOf 1 → a1.axState m = 0)) ∧
    (816 % 8 = 0 ∧ 816 < 4096 ∧ a4.reaches Req.bar0 (Pg.ax 5) true = true ∧ pgReg (Pg.ax 5) 816 = some ((rd (Pg.ax 5) 816).fst, (rd
    (Pg.ax 5) 816).snd) ∧ a4.carriesBad (Pg.ax 5) (rd (Pg.ax 5) 816).fst (rd (Pg.ax 5) 816).snd (202608 : Word) = false ∧ 768 ≤
    816 ∧ 816 ≤ 944 ∧ a4.axes[5].gov.staged = [] ∧ a4.reaches Req.bar0 (Pg.ae 1) true = true ∧ a4.flag (Pg.ae 1) HDR.LOCK.LOCK =
    false ∧ 1 ≤ fld (202608 : Word) 20 16 ∧ fld (202608 : Word) 20 16 ≤ 16 ∧ 3000 ≤ fld (202608 : Word) 15 0 ∧ fld (202608 :
    Word) 15 0 ≤ 37500 ∧ 9375 ≤ fld (202608 : Word) 20 16 * fld (202608 : Word) 15 0 ∧ fld (202608 : Word) 20 16 * fld (202608 :
    Word) 15 0 ≤ 75000 ∧ (∃ m, m ∈ axesOf 1 ∧ a4.axState m ≠ 0) ∧ fld (202608 : Word) 20 16 ≠ a4.get (Pg.ae 1)
    AE.LOOP_RATE.SRV_N) := by
  and_intros <;> decide +kernel

theorem witness_AxisCommands_2 :
    (a1.opens Req.bar0 (Pg.ax 5) = true ∧ 7 < 1024 ∧ (a1.axState 5 ≠ 1 ∧ a1.axState 5 ≠ 2 ∨ a1.axType 5 = 0 ∨ a1.axType 5 = 4)) ∧
    (w11.opens Req.bar0 (Pg.ax 5) = true ∧ 7 < 1024 ∧ w11.crossBad (Pg.ax 5) 1000 0 (1 : Word) = false ∧ (w11.axState 5 = 1 ∨
    w11.axState 5 = 2) ∧ (w11.axType 5 = 1 ∨ w11.axType 5 = 2 ∨ w11.axType 5 = 3) ∧ w11.flag (Pg.ax 5) AX.PROF_CFG.SRC = true ∧
    w11.axes[5].hwq.length < 32 ∧ fld (w11.word (Pg.ax 5) 144) 31 0 ≠ 0 ∧ (BitVec.getLsbD (5 : Word) 0 = true → w11.word (Pg.ax
    5) 160 = (0 : Word)) ∧ w11.axes[5].gov.staged = []) := by
  and_intros <;> decide +kernel

theorem witness_AxisEventsAndFaults_1 :
    (w13.axState 5 = 1 ∨ w13.axState 5 = 2) ∧ w13.axes[5].sup.starveDue = true ∧ w13.axes[5].sup.curMissDue = true ∧
    w13.axes[5].sup.fbLossDue = true ∧ w13.axes[5].sup.overDue = true ∧ w13.axes[5].sup.forceDue = true ∧ w13.axes[5].sup.feDue
    = true ∧ w13.axes[5].sup.vsatDue = true := by
  decide +kernel

end Axes

namespace Cycles

def b1 : State := ((((boot.put (.ax 5) AX.AX_CFG.TYPE 1).put (.dp 5) DP.DP_STAT.OSTATE 2).put (.ax 5) AX.AX_STATE.STATE 1).put (.ax 5) AX.LIM_CFG.POS_EN 1).putI (.ax 5) AX.SETP_POS.VALUE 777
def cc : Cmd := ⟨.move,1,0,false,none,0⟩
def b2 : State := b1.updAx 5 (fun a => {a with cmds := [cc], sol := 1, held := ⟨777,65536,0⟩, gov := {a.gov with rec_ := some [0x1000000, 0x2000000, 0x800000000]}})
def b3 : State := { b2 with refillQ := [(true,5),(false,7)] }
def d1 := b1.updAx 5 (fun a => { a with dice := {a.dice with run := true, capRun := true, buf := [(7,3),(8,4),(7,5)]}})
def e1 : State := ((b1.put (.ax 4) HDR.CTRL.EN 0).put (.ax 6) HDR.CTRL.EN 0).put (.ax 7) HDR.CTRL.EN 0
def gg : QSeg := ⟨300, 5, 6, 0, 0, 3⟩
def e2 : State := e1.updAx 5 (fun a => {a with cmds := [⟨.move,1,0,true,none,0⟩], hwq := [gg, gg], next := some ⟨8,9,10⟩, held := ⟨777,0,0⟩})
def w4 : State := ({(b3.updAx 5 (fun a => {a with tabs := [⟨0,100,3,0,false⟩]})) with refillQ := []})
def w6 : State := ((d1.put (.ax 5) AX.DICE_T.DUR 5).put (.ax 5) AX.CAP_STAT.COUNT 16384)
def w7 : State := (((d1.put (.ax 5) AX.DICE_T.DUR 5).put (.ax 5) AX.CAP_STAT.COUNT 16384).put (.ax 5) AX.DICE_CFG.REPEAT 1)
def w9 : State := ((e2.updAx 5 (fun a => {a with cmds := []})).put (.ax 17) AX.GEAR_CFG.MSRC 2 |>.put (.ax 17) AX.GEAR_CFG.MIDX
  5)
def w10 : State := (fr ((List.range 8).foldl (fun s _ => (s.qPush (.pq 5) [1,2,3,4]).2) e2))

theorem witness_AxisEventsAndFaults_2 :
    (b3.runs (Pg.ax 5) = true ∧ (b3.flag (Pg.ax 5) (if true = true then AX.LIM_CFG.POS_EN else AX.LIM_CFG.NEG_EN) = true) ∧
    b3.limLevel 5 true ≠ true ∧ b3.axes[5].cmds = [cc] ∧ cc.kind = CmdKind.move ∧ (cc.op = 1 ∨ cc.op = 2 ∨ cc.op = 3) ∧ cc.src1
    = false ∧ cc.entry = none ∧ cc.table < 1024 ∧ worldAllows (b3.storeWorld (261120 + cc.table)) (b3.pageSecure (Pg.ax 5))
    false = true ∧ b3.rst.periRel = true ∧ b3.rst.storeRdy = true ∧ b3.refillQ = [(true, 5), (false, 7)] ∧ (∀ (i : Nat), i < 3 →
    worldAllows (b3.storeWorld (recordBase 5 + i)) (b3.pageSecure (Pg.ax 5)) false = true) ∧ b3.axes[5].sol = 1) ∧
    (b3.runs (Pg.ax 5) = true ∧ (b3.flag (Pg.ax 5) (if true = true then AX.LIM_CFG.POS_EN else AX.LIM_CFG.NEG_EN) = true) ∧
    b3.limLevel 5 true = false ∧ ({ b3 with axes := b3.axes.set (5 : Fin 48).val { b3.axes[5] with holdPos := b3.axes[5].holdPos && (!true || false), holdNeg := b3.axes[5].holdNeg && (true || false), limPos := if true = true then false else b3.axes[5].limPos, limNeg := if true = true then b3.axes[5].limNeg else false : Axis } (by decide) : State }.limitHit
    5 (b3.axes[5].next.getD b3.axes[5].held).v = false ∨ b3.get (Pg.ax 5) AX.LIM_CFG.ACTION ≠ 0)) ∧
    (w4.rst.periRel = true ∧ w4.rst.storeRdy = true ∧ w4.refillQ = [] ∧ w4.refillPick = some 5 ∧ (∀ (e : Nat × TblRef), e ∈ (openTab
    w4.axes[5].tabs).toList → w4.storeOpen (w4.pageSecure (Pg.ax 5)) false (e.snd.base + 4 * e.snd.next) 16)) := by
  and_intros <;> decide +kernel

theorem witness_DiceAndCapture :
    (w6.axes[5].dice.run = true ∧ (w6.get (Pg.ax 5) AX.DICE_T.DUR ≠ 0 ∨ w6.get (Pg.ax 5) AX.DICE_CFG.WAVE = 0) ∧ w6.flag (Pg.ax 5)
    AX.DICE_CFG.REPEAT = false ∧ w6.get (Pg.ax 5) AX.CAP_STAT.COUNT = 16384 ∧ w6.axes[5].dice.capRun = true ∧ (List.find? (fun m
    => !w6.axes[m].dice.buf.isEmpty) (axesOf 1) = some 5) ∧ (∀ (x : Nat × Word), x ∈ List.take 16 w6.axes[5].dice.buf → x.fst <
    4194304 ∧ worldAllows (w6.storeWorld x.fst) false true = true)) ∧
    (w7.axes[5].dice.run = true ∧ (w7.get (Pg.ax 5) AX.DICE_T.DUR ≠ 0 ∨ w7.get (Pg.ax 5) AX.DICE_CFG.WAVE = 0) ∧ w7.flag (Pg.ax 5)
    AX.DICE_CFG.REPEAT = true) := by
  and_intros <;> decide +kernel

theorem witness_ServoCycle :
    (e2.rst.periRel = true ∧ e2.flag Pg.dbg DBG.DBG_STAT.HALTED = false ∧ (∀ (m : Fin 48), m ∈ axesOf 1 → (e2.runs (Pg.ax m) = true ↔
    m = axOf 1 1)) ∧ (e2.axType (axOf 1 1) = 1 ∨ e2.axType (axOf 1 1) = 3) ∧ e2.axState (axOf 1 1) = 1 ∧ e2.axes[axOf 1 1].gear
    = none ∧ e2.get (Pg.ax (axOf 1 1)) AX.GEAR_STAT.GSTATE = 0 ∧ e2.get (Pg.ax (axOf 1 1)) AX.GEAR_CFG.MSRC = 0 ∧ e2.axes[axOf 1
    1].mot = Motion.idle ∧ e2.axes[axOf 1 1].doneDue = false ∧ (∀ (m : Fin 48), m ∈ axesOf 1 → e2.axes[m].params = [] ∧
    e2.axes[m].kern.passOld = []) ∧ e2.get (Pg.ax (axOf 1 1)) AX.PROF_STAT.PSTATE = 0 ∧ e2.axes[axOf 1 1].gov.staged = [] ∧
    e2.axes[axOf 1 1].gov.lower = none ∧ e2.axes[axOf 1 1].gov.rec_ = none ∧ e2.axes[axOf 1 1].sup.rampDue = false ∧ e2.qGet
    (QId.mq (axOf 1 1)) = [] ∧ (∀ (pos : Bool), e2.limOn (axOf 1 1) pos = false) ∧ e2.axes[axOf 1 1].held = { p := (777 : Int), v := (0 : Int), a := (0 : Int) : Setp }
    ∧ -(2 : Int) ^ 35 ≤ (777 : Int)) ∧
    ((777 : Int) < (2 : Int) ^ 35 ∧ e2.axes[axOf 1 1].cmds = [{ kind := CmdKind.move, op := 1, table := 0, src1 := true, entry := none, have_ := 0 : Cmd }]
    ∧ { kind := CmdKind.move, op := 1, table := 0, src1 := true, entry := none, have_ := 0 : Cmd }.kind = CmdKind.move ∧ { kind := CmdKind.move, op := 1, table := 0, src1 := true, entry := none, have_ := 0 : Cmd }.op
    = 1 ∧ ({ kind := CmdKind.move, op := 1, table := 0, src1 := true, entry := none, have_ := 0 : Cmd }.src1 = true ∨ { kind := CmdKind.move, op := 1, table := 0, src1 := true, entry := none, have_ := 0 : Cmd }.entry.isSome
    = true ∧ entryOk ({ kind := CmdKind.move, op := 1, table := 0, src1 := true, entry := none, have_ := 0 : Cmd }.entry.getD (0
    : Word)) = true ∧ e2.hasLoaded (axOf 1 1) { kind := CmdKind.move, op := 1, table := 0, src1 := true, entry := none, have_ := 0 : Cmd }
    = true) ∧ e2.axes[axOf 1 1].hwq = [gg, gg] ∧ gg.invalid = false ∧ (e2.ovl.request = none ∨ e2.ovlGroup ≠ 1) ∧ e2.queuesFresh
    ∧ e2.axes[axOf 1 1].next = some { p := (8 : Int), v := (9 : Int), a := (10 : Int) : Setp } ∧ -(2 : Int) ^ 35 ≤ { p := (8 : Int), v := (9 : Int), a := (10 : Int) : Setp }.p
    ∧ { p := (8 : Int), v := (9 : Int), a := (10 : Int) : Setp }.p < (2 : Int) ^ 35 ∧ -(2 : Int) ^ 35 ≤ { p := (8 : Int), v := (9 : Int), a := (10 : Int) : Setp }.v
    ∧ { p := (8 : Int), v := (9 : Int), a := (10 : Int) : Setp }.v < (2 : Int) ^ 35 ∧ -(2 : Int) ^ 35 ≤ { p := (8 : Int), v := (9 : Int), a := (10 : Int) : Setp }.a
    ∧ { p := (8 : Int), v := (9 : Int), a := (10 : Int) : Setp }.a < (2 : Int) ^ 35 ∧ (e2.qGet (QId.pq (axOf 1 1))).length < 8) ∧
    (w9.rst.periRel = true ∧ w9.flag Pg.dbg DBG.DBG_STAT.HALTED = false ∧ (∀ (m : Fin 48), m ∈ axesOf 1 → (w9.runs (Pg.ax m) = true ↔
    m = axOf 1 1)) ∧ (w9.axType (axOf 1 1) = 1 ∨ w9.axType (axOf 1 1) = 3) ∧ w9.axState (axOf 1 1) = 1 ∧ w9.axes[axOf 1 1].gear
    = none ∧ w9.get (Pg.ax (axOf 1 1)) AX.GEAR_STAT.GSTATE = 0 ∧ w9.get (Pg.ax (axOf 1 1)) AX.GEAR_CFG.MSRC = 0 ∧ w9.axes[axOf 1
    1].mot = Motion.idle ∧ w9.axes[axOf 1 1].doneDue = false ∧ (∀ (m : Fin 48), m ∈ axesOf 1 → w9.axes[m].params = [] ∧
    w9.axes[m].kern.passOld = []) ∧ w9.get (Pg.ax (axOf 1 1)) AX.PROF_STAT.PSTATE = 0 ∧ w9.axes[axOf 1 1].gov.staged = [] ∧
    w9.axes[axOf 1 1].gov.lower = none ∧ w9.axes[axOf 1 1].gov.rec_ = none ∧ w9.axes[axOf 1 1].sup.rampDue = false ∧ w9.qGet
    (QId.mq (axOf 1 1)) = [] ∧ (∀ (pos : Bool), w9.limOn (axOf 1 1) pos = false) ∧ w9.axes[axOf 1 1].held = { p := (777 : Int), v := (0 : Int), a := (0 : Int) : Setp }
    ∧ -(2 : Int) ^ 35 ≤ (777 : Int)) ∧
    ((777 : Int) < (2 : Int) ^ 35 ∧ w9.axes[axOf 1 1].cmds = [] ∧ (w9.ovl.request = none ∨ w9.ovlGroup ≠ 1)) ∧
    (w10.rst.periRel = true ∧ w10.flag Pg.dbg DBG.DBG_STAT.HALTED = false ∧ (∀ (m : Fin 48), m ∈ axesOf 1 → (w10.runs (Pg.ax m) =
    true ↔ m = axOf 1 1)) ∧ (w10.axType (axOf 1 1) = 1 ∨ w10.axType (axOf 1 1) = 3) ∧ w10.axState (axOf 1 1) = 1 ∧ w10.axes[axOf
    1 1].gear = none ∧ w10.get (Pg.ax (axOf 1 1)) AX.GEAR_STAT.GSTATE = 0 ∧ w10.get (Pg.ax (axOf 1 1)) AX.GEAR_CFG.MSRC = 0 ∧
    w10.axes[axOf 1 1].mot = Motion.idle ∧ w10.axes[axOf 1 1].doneDue = false ∧ (∀ (m : Fin 48), m ∈ axesOf 1 →
    w10.axes[m].params = [] ∧ w10.axes[m].kern.passOld = []) ∧ w10.queuesFresh ∧ w10.axes[axOf 1 1].next = some { p := (8 : Int), v := (9 : Int), a := (10 : Int) : Setp }
    ∧ -(2 : Int) ^ 35 ≤ { p := (8 : Int), v := (9 : Int), a := (10 : Int) : Setp }.p ∧ { p := (8 : Int), v := (9 : Int), a := (10 : Int) : Setp }.p
    < (2 : Int) ^ 35 ∧ -(2 : Int) ^ 35 ≤ { p := (8 : Int), v := (9 : Int), a := (10 : Int) : Setp }.v ∧ { p := (8 : Int), v := (9 : Int), a := (10 : Int) : Setp }.v
    < (2 : Int) ^ 35 ∧ -(2 : Int) ^ 35 ≤ { p := (8 : Int), v := (9 : Int), a := (10 : Int) : Setp }.a ∧ { p := (8 : Int), v := (9 : Int), a := (10 : Int) : Setp }.a
    < (2 : Int) ^ 35 ∧ (w10.qGet (QId.pq (axOf 1 1))).length = 8) := by
  and_intros <;> decide +kernel

end Cycles

namespace Currents

def k1 : State := ((((boot.put (.ax 5) AX.AX_CFG.TYPE 1).put (.dp 5) DP.DP_STAT.OSTATE 2).put (.ax 5) AX.AX_STATE.STATE 1).put (.ae 1) AE.ENG_STAT.STATE 1)
def push (q : QId) (e : List Word) (s : State) : State := fr (s.qPush q e).2
def k2 := (((k1.setWord (.ax 5) 0x318 0x10000000).setWord (.ax 5) 0x310 0x4000000).setWord (.ax 5) 0x320 0x1234567) |> push (.pq 5) [5,6,7,8] |> push (.pq 5) [50000,600,70,0x7FF000000] |> push (.fq 5) [40000,500,0]
def k6 (t : Nat) := (k2.put (.ax 5) AX.AX_CFG.TYPE t).updAx 5 (fun a => {a with kern := {a.kern with cqWait := true, sampled := [(0,0x70000000),(1,0x30000000)]}})
def w0 : State := (k6 1)

theorem witness_RomKernels_1 :
    w0.axes[5].dice.run = false ∧ w0.axes[5].dice.capRun = false ∧ w0.queuesFresh ∧ w0.engineLive 5 = true ∧ (w0.axType 5 = 1 ∨
    w0.axType 5 = 3 ∨ w0.axType 5 = 4) ∧ w0.axes[5].kern.cqWait = true ∧ resultsOf (w0.axType 5) ≤
    w0.axes[5].kern.sampled.length ∧ w0.axes[5].sol ≠ 3 ∧ (w0.qGet (QId.dq 5)).length < 4 ∧ w0.axKernel 5 = true ∧ w0.get (Pg.ax
    5) AX.CHAIN_STAT.CUR_MISS_RUN < 15 := by
  decide +kernel

end Currents

namespace Kernels

def k1 : State := ((((boot.put (.ax 5) AX.AX_CFG.TYPE 1).put (.dp 5) DP.DP_STAT.OSTATE 2).put (.ax 5) AX.AX_STATE.STATE 1).put (.ae 1) AE.ENG_STAT.STATE 1)
def push (q : QId) (e : List Word) (s : State) : State := fr (s.qPush q e).2
def k2 := (((k1.setWord (.ax 5) 0x318 0x10000000).setWord (.ax 5) 0x310 0x4000000).setWord (.ax 5) 0x320 0x1234567) |> push (.pq 5) [5,6,7,8] |> push (.pq 5) [50000,600,70,0x7FF000000] |> push (.fq 5) [40000,500,0]
def k3 := (((k2.setWord (.ax 5) 0x328 0x10000000).setWord (.ax 5) 0x340 0x4000000).setWord (.ax 5) 0x348 0x1234567)
def k4 := ((k2.put (.ax 5) AX.AX_CFG.TYPE 2).put (.ax 5) AX.AX_CFG.FB_MODE 0)
def k5 := ((k2.put (.ax 5) AX.AX_CFG.TYPE 3).qFlush (.fq 5)).setWord (.ax 5) 0x360 0x40000000
def vf : VmFrame := { ident := 0x123, ide := false, data := [0,0,1,0,0,0,0,0], stamp := 640000000 }
def vring (s : State) : State := (((s.put (.can 2) CAN.RX_STAT.WIDX 1).put (.can 2) CAN.RX_STAT.SEQ 1).storePut 0x74000 0x808).storePut 0x74001 0x123 |>.storePut 0x74002 640000000 |>.storePut 0x74003 0 |>.storePut 0x74005 256 |>.storePut 0x74006 0
def v1 := boot.setWord .pe 0x840 0xA00000123
def v2 := vring (v1.put .pe (PE.VM_STAT.STATE.nth 1) 1)
def v3 := (((v2.put .pe (PE.VM_STAT.STATE.nth 1) 2).put (.ax 7) AX.GEAR_CFG.MSRC 3).put (.ax 7) AX.GEAR_CFG.MIDX 1).updVm 1 (fun _ => ⟨5,6,7,800000000,9,0,0⟩)
def w4 : State := (push (.cq 1) [10,0x70000000,0x60000000] k5)
def w10 : State := (v3.put .pe (PE.VM_TO.GATE.nth 1) 0)
def w11 : State := (v3.updVm 1 (fun v => {v with nOut := 3}))
def w12 : State := (((k5 |> push (.oq 5) [1,2,3,4]).updAx 5 (fun a => {a with plans := [⟨4,⟨1,2,3⟩,⟨1,2,3⟩,5,false⟩]})).put (.ax
  5) AX.GOV_CFG.OBS_THR 0)
def w14 : State := (v2.put .pe (PE.VM_FMT.POS_OFS.nth 1) 60)
def w15 : State := (v2.put .pe (PE.VM_SRC.MATCH.nth 1) 60)

theorem witness_RomKernels_2 :
    (k4.axes[5].dice.run = false ∧ k4.axes[5].dice.capRun = false ∧ k4.queuesFresh ∧ k4.engineLive 5 = true ∧ k4.get (Pg.ae (aeOf 5))
    AE.ENG_STAT.STATE = 1 ∧ k4.axType 5 = 2 ∧ k4.fbPort 5 = none ∧ k4.axes[5].kern.engRamp = none ∧ k4.qGet (QId.pq 5) = [[(5 :
    Word), (6 : Word), (7 : Word), (8 : Word)]] ++ [[(50000 : Word), (600 : Word), (70 : Word), (34342961152 : Word)]] ∧
    (k4.qGet (QId.dq 5)).length < 4) ∧
    (w4.axes[5].dice.run = false ∧ w4.axes[5].dice.capRun = false ∧ w4.queuesFresh ∧ w4.engineLive 5 = true ∧ w4.axType 5 = 3 ∧
    w4.axes[5].kern.cqWait = false ∧ w4.axes[5].kern.sampled = [] ∧ w4.qGet (QId.fq 5) = [] ∧ w4.qGet (QId.cq (aeOf 5)) = [[(10
    : Word), (1879048192 : Word), (1610612736 : Word)]] ∧ w4.get (Pg.adc (adcOf 5)) (ADC.SEQ.INPUT.nth (BitVec.toNat (10 : Word)
    % 32)) = 2 * ((5 : Fin 48).val % 8) ∧ (w4.qGet (QId.dq 5)).length < 4) ∧
    (w12.axes[5].dice.run = false ∧ w12.axes[5].dice.capRun = false ∧ w12.queuesFresh ∧ w12.engineLive 5 = true ∧ w12.axType 5 = 3 ∧
    w12.axes[5].kern.cqWait = false ∧ w12.axes[5].kern.sampled = [] ∧ w12.qGet (QId.fq 5) = [] ∧ w12.qGet (QId.cq (aeOf 5)) = []
    ∧ w12.peLive = true ∧ (List.find? (fun c => c.cyc == fld (4 : Word) 15 0) w12.axes[5].plans = some { cyc := 4, plan := { p := (1 : Int), v := (2 : Int), a := (3 : Int) : Setp }, out := { p := (1 : Int), v := (2 : Int), a := (3 : Int) : Setp }, fLim := (5 : Int), zone := false : CycPlan })
    ∧ w12.qGet (QId.oq 5) = [[(1 : Word), (2 : Word), (3 : Word), (4 : Word)]] ∧ BitVec.msb (4 : Word) = false ∧ w12.get (Pg.ax
    5) AX.GOV_CFG.OBS_THR = 0) := by
  and_intros <;> decide +kernel

theorem witness_RomKernels_3 :
    (k3.engineLive 5 = true ∧ k3.get (Pg.ae (aeOf 5)) AE.ENG_STAT.STATE = 1 ∧ (k3.axType 5 = 1 ∨ k3.axType 5 = 3) ∧ k3.axKernel 5 =
    true ∧ k3.axes[5].kern.engRamp = none ∧ k3.axes[5].dice.run = false ∧ k3.axes[5].dice.capRun = false ∧ (k3.fbPort 5).isSome
    = true ∧ k3.queuesFresh ∧ k3.qGet (QId.pq 5) = [[(5 : Word), (6 : Word), (7 : Word), (8 : Word)]] ++ [[(50000 : Word), (600
    : Word), (70 : Word), (34342961152 : Word)]] ∧ k3.qGet (QId.fq 5) = [] ++ [[(40000 : Word), (500 : Word), (0 : Word)]] ∧
    BitVec.msb (0 : Word) = false) ∧
    (k1.engineLive 5 = true ∧ k1.get (Pg.ae (aeOf 5)) AE.ENG_STAT.STATE = 1 ∧ (k1.axType 5 = 1 ∨ k1.axType 5 = 3) ∧ k1.axKernel 5 =
    true ∧ k1.axes[5].kern.engRamp = none ∧ k1.axes[5].dice.run = false ∧ k1.axes[5].dice.capRun = false ∧ (k1.fbPort 5).isSome
    = true ∧ k1.queuesFresh ∧ k1.qGet (QId.pq 5) = [] ∧ k1.axes[5].kern.starvedOnce = false ∧ k1.get (Pg.ax 5)
    AX.CHAIN_STAT.STARVE_RUN < 15) := by
  and_intros <;> decide +kernel

theorem witness_VirtualMasters :
    (v2.peLive = true ∧ v2.flag Pg.pe (PE.VM_SRC.EN.nth (1 : Fin 8).val) = true ∧ (v2.vmLook 1).fst = some vf ∧ v2.vms[1].nOut < 3 ∧
    v2.vmInstant 1 vf = some (640000000 : Int) ∧ v2.vmState 1 = 1 ∧ v2.vms[1].nAcq = 0) ∧
    (w10.reaches Req.bar0 Pg.pe true = true ∧ fld (8589934883 : Word) 34 32 < 6 ∧ (if fld (8589934883 : Word) 34 32 < 4 then fld
    (8589934883 : Word) 29 29 = 1 ∨ fld (8589934883 : Word) 28 0 < 2048 else fld (8589934883 : Word) 29 29 = 0 ∧ fld (8589934883
    : Word) 28 24 = 0) ∧ w10.flag Pg.pe (PE.VM_SRC.EN.nth (1 : Fin 8).val) ≠ BitVec.msb (8589934883 : Word) ∧ w10.peLive = true
    ∧ w10.flag Pg.pe (PE.VM_SRC.EN.nth (1 : Fin 8).val) = true ∧ (w10.vmLook 1).fst = some vf ∧ w10.vms[1].nOut < 3 ∧
    w10.vmInstant 1 vf = some (640000000 : Int) ∧ w10.vmState 1 = 2 ∧ w10.vms[1].tLast < (640000000 : Int) ∧ w10.get Pg.pe
    (PE.VM_TO.GATE.nth (1 : Fin 8).val) = 0 ∧ w10.runs (Pg.ax 7) = true ∧ w10.get (Pg.ax 7) AX.GEAR_CFG.MSRC = 3 ∧ w10.get
    (Pg.ax 7) AX.GEAR_CFG.MIDX = (1 : Fin 8).val ∧ w10.timeAt (w10.timeC + 8) - w10.vms[1].rxLast ≤ ↑(w10.get Pg.pe
    (PE.VM_TO.TO_MS.nth (1 : Fin 8).val) * 64000000) ∧ (w10.qGet (QId.mq 7)).length < 4 ∧ w10.queuesFresh) ∧
    (w11.peLive = true ∧ 3 ≤ w11.vms[1].nOut ∧ w11.vmState 1 = 2) ∧
    (w14.peLive = true ∧ w14.flag Pg.pe (PE.VM_SRC.EN.nth (1 : Fin 8).val) = true ∧ (w14.vmLook 1).fst = some vf ∧ w14.vms[1].nOut <
    3 ∧ w14.vmInstant 1 vf = none ∧ w14.get Pg.pe (PE.VM_STAT.BAD.nth (1 : Fin 8).val) < 255) ∧
    (w15.peLive = true ∧ w15.flag Pg.pe (PE.VM_SRC.EN.nth (1 : Fin 8).val) = true ∧ (w15.vmLook 1).fst = none) := by
  and_intros <;> decide +kernel

end Kernels

namespace Doors

def ent' : List Word := [0x9AFE6FF80, 0x0B4B5B6B7, 1, 0x00340D436, 0x003700000, 0x00087D000, 0x67D001F48,0,0,0,0,0,0x32140A000,0x00025812C,0,0]
def so : State := boot.put .ovl OVL.BASE_STAT.DONE 1
def typed (s : State) : State := (s.put (.ax 26) AX.AX_CFG.TYPE 1).put (.ax 27) AX.AX_CFG.TYPE 2
def door (st : Nat) (p : Option (Nat × Bool)) : State :=
  let s := typed so
  let s := (List.range 16).foldl (fun s i => s.storePut (0x3F800 + 16*13 + i) (ent'.getD i 0)) s
  let s := s.updDoor 13 (fun x => { x with entry := ent', pend := p })
  s.put .pe (PE.DW_STAT.STATE.nth 13) st
def tab (s : State) : State := (((((s.storePut (0x3FC00+52) ((1<<<18) + 0x10000)).storePut 0x10000 1000).storePut 0x10001 0x12345).storePut 0x10002 0).storePut 0x10003 1)
def chans (s : State) (v : Nat) : State := s.put (.fiob 1) FIOB.IN.IN v
def ax1 (s : State) : State := (s.put (.ax 26) AX.AX_STATE.STATE 1).put (.ax 27) AX.AX_STATE.STATE 1
def obs (s : State) : State := (tab s).updDoor 13 (fun x => {x with obs := true})
def w0 : State := (door 5 none)
def w1 : State := (door 5 (some (3,false)))
def w2 : State := (door 2 (some (1,true)))
def w3 : State := ((door 2 (some (1,true))).updDoor 13 (fun x => {x with entry := x.entry.set 6 0}))
def w4 : State := (door 5 (some (2,true)))
def w5 : State := ((door 5 (some (3,true))).put (.ax 26) AX.AX_STATE.STATE 2)
def w6 : State := (door 0 (some (4,true)))
def w9 : State := (door 0 (some (7,true)))
def w10 : State := (door 11 (some (6,true)))
def w11 : State := (door 11 (some (5,true)))
def w12 : State := (door 11 (some (8,true)))
def w13 : State := (door 1 (some (5,true)))
def w14 : State := (chans (ax1 (door 1 none)) 0x300000)
def w15 : State := (chans (ax1 (door 3 none)) 0)
def w16 : State := (chans (ax1 (door 4 none)) 0)
def w17 : State := (chans (ax1 (door 6 none)) 0)
def w19 : State := ((chans (ax1 (door 7 none)) 0x300000).updDoor 13 (fun x => {x with tcl := some 500, obst := 3}))
def w20 : State := (chans (ax1 (door 8 none)) 0x300000)
def w21 : State := ((obs (door 6 none)).updAx 26 (fun a => {a with sup := {a.sup with obsDue := true}}))
def w22 : State := ((obs (door 6 none)).put .pe (PE.DW_STAT.NOBS.nth 13) 7)
def w24 : State := ((obs (door 4 none)).put (.ax 27) AX.AX_STATE.STATE 3)
def w25 : State := ((obs (door 9 none)).put (.ax 26) AX.AX_STATE.STATE 3)

theorem witness_DoorCommands_1 :
    (w0.opens Req.bar0 Pg.pe = true ∧ Option.map Prod.fst w0.doors[13].pend ≠ some 3 ∧ 1 ≤ 5 ∧ 5 ≤ 8) ∧
    (w1.opens Req.bar0 Pg.pe = true ∧ Option.map Prod.fst w1.doors[13].pend = some 3) := by
  and_intros <;> decide +kernel

theorem witness_DoorCommands_2 :
    (w2.sequencerOn = true ∧ w2.doors[13].pend = some (1, true) ∧ (∀ (e : Fin 32), e ≠ 13 → w2.doors[e].pend = none) ∧
    w2.doors[13].staged = none ∧ (w2.dwAxes 13).Nodup ∧ 1 ≤ 1 ∧ 1 ≤ 8 ∧ 1 = 1 ∧ w2.dwState 13 = 2 ∧ (true = true → fld
    (w2.dwWord 13 6) 3 3 = 1)) ∧
    (w3.sequencerOn = true ∧ w3.doors[13].pend = some (1, true) ∧ (∀ (e : Fin 32), e ≠ 13 → w3.doors[e].pend = none) ∧
    w3.doors[13].staged = none ∧ (w3.dwAxes 13).Nodup ∧ 1 ≤ 1 ∧ 1 ≤ 8 ∧ 1 = 1 ∧ w3.dwState 13 ∈ [2, 4, 5, 6, 7, 8, 9, 10] ∧ true
    = true ∧ fld (w3.dwWord 13 6) 3 3 = 0) ∧
    (w4.sequencerOn = true ∧ w4.doors[13].pend = some (2, true) ∧ (∀ (e : Fin 32), e ≠ 13 → w4.doors[e].pend = none) ∧
    w4.doors[13].staged = none ∧ (w4.dwAxes 13).Nodup ∧ 1 ≤ 2 ∧ 2 ≤ 8 ∧ 2 = 2 ∧ w4.dwState 13 = 5) ∧
    (w5.sequencerOn = true ∧ w5.doors[13].pend = some (3, true) ∧ (∀ (e : Fin 32), e ≠ 13 → w5.doors[e].pend = none) ∧
    w5.doors[13].staged = none ∧ (w5.dwAxes 13).Nodup ∧ 1 ≤ 3 ∧ 3 ≤ 8 ∧ 3 = 3 ∧ (w5.dwState 13 = 1 ∨ 3 ≤ w5.dwState 13 ∧
    w5.dwState 13 ≤ 9)) ∧
    (w6.sequencerOn = true ∧ w6.doors[13].pend = some (4, true) ∧ (∀ (e : Fin 32), e ≠ 13 → w6.doors[e].pend = none) ∧
    w6.doors[13].staged = none ∧ (w6.dwAxes 13).Nodup ∧ 1 ≤ 4 ∧ 4 ≤ 8 ∧ 4 = 4 ∧ w6.dwState 13 = 0) ∧
    (w9.sequencerOn = true ∧ w9.doors[13].pend = some (7, true) ∧ (∀ (e : Fin 32), e ≠ 13 → w9.doors[e].pend = none) ∧
    w9.doors[13].staged = none ∧ (w9.dwAxes 13).Nodup ∧ 1 ≤ 7 ∧ 7 ≤ 8 ∧ 7 = 7 ∧ w9.dwState 13 = 0) ∧
    (w10.sequencerOn = true ∧ w10.doors[13].pend = some (6, true) ∧ (∀ (e : Fin 32), e ≠ 13 → w10.doors[e].pend = none) ∧
    w10.doors[13].staged = none ∧ (w10.dwAxes 13).Nodup ∧ 1 ≤ 6 ∧ 6 ≤ 8 ∧ 6 = 6 ∧ w10.dwState 13 = 11) ∧
    (w11.sequencerOn = true ∧ w11.doors[13].pend = some (5, true) ∧ (∀ (e : Fin 32), e ≠ 13 → w11.doors[e].pend = none) ∧
    w11.doors[13].staged = none ∧ (w11.dwAxes 13).Nodup ∧ 1 ≤ 5 ∧ 5 ≤ 8 ∧ 5 = 5 ∧ w11.dwState 13 ∈ [2, 5, 10, 11, 12]) ∧
    (w12.sequencerOn = true ∧ w12.doors[13].pend = some (8, true) ∧ (∀ (e : Fin 32), e ≠ 13 → w12.doors[e].pend = none) ∧
    w12.doors[13].staged = none ∧ (w12.dwAxes 13).Nodup ∧ 1 ≤ 8 ∧ 8 ≤ 8 ∧ 8 = 8) ∧
    (w13.sequencerOn = true ∧ w13.doors[13].pend = some (5, true) ∧ (∀ (e : Fin 32), e ≠ 13 → w13.doors[e].pend = none) ∧
    w13.doors[13].staged = none ∧ (w13.dwAxes 13).Nodup ∧ 1 ≤ 5 ∧ 5 ≤ 8 ∧ ((5, w13.dwState 13) ∈ [(1, 0), (1, 1), (1, 3), (1,
    11), (1, 12), (2, 0), (2, 1), (2, 3), (2, 11), (2, 12), (3, 0), (3, 2), (3, 10), (3, 11), (3, 12), (5, 0), (5, 1), (5, 3),
    (5, 4), (5, 6), (5, 7), (5, 8), (5, 9)] ∨ 5 = 4 ∧ w13.dwState 13 ≠ 0 ∨ 5 = 6 ∧ w13.dwState 13 ≠ 11 ∧ w13.dwState 13 ≠ 12 ∨ 5
    = 7 ∧ w13.dwState 13 ≠ 0)) := by
  and_intros <;> decide +kernel

theorem witness_DoorMotion_1 :
    (w14.sequencerOn = true ∧ (w14.dwAxes 13).Nodup ∧ w14.dwState 13 = 1 ∧ (∀ (n : Fin 48), n ∈ w14.dwAxes 13 → w14.axState n = 1) ∧
    w14.dwAdmitted 13 = true ∧ w14.dwClosed 13 = true ∧ w14.dwLocked 13 = true ∧ w14.doors[13].nT < 255 ∧ fld (w14.dwWord 13 13)
    9 0 < 1000 ∧ w14.doors[13].legs = []) ∧
    (w15.sequencerOn = true ∧ (w15.dwAxes 13).Nodup ∧ w15.dwState 13 = 3 ∧ w15.doors[13].legs = [] ∧ w15.dwUnlocked 13 = true ∧
    w15.doors[13].how = 0) ∧
    (w16.sequencerOn = true ∧ (w16.dwAxes 13).Nodup ∧ w16.dwState 13 = 4 ∧ w16.doors[13].how ≠ 1 ∧ w16.doors[13].legs = []) ∧
    (w17.sequencerOn = true ∧ (w17.dwAxes 13).Nodup ∧ w17.dwState 13 = 6 ∧ w17.doors[13].legs = []) ∧
    (w19.sequencerOn = true ∧ (w19.dwAxes 13).Nodup ∧ w19.dwState 13 = 7 ∧ w19.doors[13].legs = [] ∧ w19.dwLocked 13 = true ∧
    w19.doors[13].nT < 255 ∧ fld (w19.dwWord 13 13) 9 0 < 1000 ∧ w19.doors[13].tcl = some 500) ∧
    (w20.sequencerOn = true ∧ (w20.dwAxes 13).Nodup ∧ w20.dwState 13 = 8 ∧ w20.doors[13].legs = []) := by
  and_intros <;> decide +kernel

theorem witness_DoorMotion_2 :
    ((w21.dwAxes 13).Nodup ∧ w21.doors[13].staged = none ∧ w21.axes[26].sup.obsDue = true ∧ w21.sequencerOn = true ∧
    w21.doors[13].obs = true ∧ w21.dwState 13 = 6 ∧ w21.get Pg.pe (PE.DW_STAT.NOBS.nth (13 : Fin 32).val) + 1 ≤ fld (w21.dwWord
    13 6) 35 33) ∧
    ((w22.dwAxes 13).Nodup ∧ w22.doors[13].staged = none ∧ w22.sequencerOn = true ∧ w22.doors[13].obs = true ∧ w22.dwState 13 = 6 ∧
    fld (w22.dwWord 13 6) 35 33 < w22.get Pg.pe (PE.DW_STAT.NOBS.nth (13 : Fin 32).val) + 1) ∧
    ((w24.dwAxes 13).Nodup ∧ w24.doors[13].staged = none ∧ w24.sequencerOn = true ∧ w24.doors[13].obs = true ∧ w24.dwState 13 = 4 ∧
    w24.dwState 13 ≠ 0 ∧ w24.dwState 13 ≠ 12 ∧ 27 ∈ w24.dwAxes 13 ∧ (w24.axState 27 = 3 ∨ w24.axState 27 = 4)) ∧
    ((w25.dwAxes 13).Nodup ∧ w25.doors[13].staged = none ∧ w25.sequencerOn = true ∧ w25.dwState 13 = 9) := by
  and_intros <;> decide +kernel

end Doors

namespace Overlays

def rec1 (s : State) (a n m v : Nat) : State := ((s.storePut a (BitVec.ofNat 36 (slotAddr (.fb ⟨n % 48, Nat.mod_lt _ (by decide)⟩) 0x60))).storePut (a+1) (BitVec.ofNat 36 m)).storePut (a+2) (BitVec.ofNat 36 v)
def o1 : State := (rec1 boot 0x100 5 0xFF 0x12).put .ovl OVL.OVL_CNT.COUNT 1
def o2 (v : Nat) (b : Option Nat) : State := let s := (rec1 o1 0x100 5 0xFF v).setWord (.fb 5) 0x60 0x111111111; {s with ovl := {s.ovl with load := some (0x100, 1, b)}}
def cutNow (s : State) : State := {s with cars := s.cars.set (Fin.ofNat 12 (s.get .ovl OVL.OVL_SYNC.GRP)) {s.cars[Fin.ofNat 12 (s.get .ovl OVL.OVL_SYNC.GRP)] with cutAt := some s.now}}
def o3 (v : Nat) (b : Option (Nat × Nat)) : State := cutNow (let s := (rec1 o1 (slotBase 3) 5 0xFF v).setWord (.fb 5) 0x60 0x111111111; {s.put .ovl OVL.OVL_STAT.PEND 1 with ovl := {s.ovl with count := s.ovl.count.set 3 1, request := some 19, bad := b}})
def o4 : State := let s := (o3 0x12 none).put .ovl OVL.OVL_STAT.ACTIVE 19; {s with ovl := {s.ovl with request := some 0}}
def w2 : State := {o1 with ovl := {o1.ovl with request := some 0x13}}
def w5 : State := (o2 0x12 none)
def w6 : State := (o2 0x312 none)
def w7 : State := (o2 0x312 (some 0))
def w8 : State := (o3 0x12 none)
def w9 : State := (o3 0x312 none)
def w10 : State := (o3 0x312 (some (0,0)))

theorem witness_Overlay_1 :
    (o1.opens Req.spi Pg.ovl = true ∧ 256 < 262144 ∧ (stackHas o1.activeStack 3 || stackHas (o1.ovl.request.getD 0) 3) = false ∧ 256
    + 3 * o1.get Pg.ovl OVL.OVL_CNT.COUNT ≤ 262144 ∧ o1.get Pg.ovl OVL.OVL_CNT.COUNT ≤ 2048 ∧ o1.storeOpen (o1.pageSecure
    Pg.ovl) false 256 (3 * o1.get Pg.ovl OVL.OVL_CNT.COUNT) ∧ o1.storeOpen (o1.pageSecure Pg.ovl) true (slotBase (3 : Fin
    16).val) (3 * o1.get Pg.ovl OVL.OVL_CNT.COUNT) ∧ o1.secure Req.spi = true ∧ (∀ (x : Fin 48), o1.axState x = 0) ∧
    o1.ovl.request = none ∧ o1.ovl.load = none ∧ (∀ (k : Fin 4), bit (BitVec.toNat (21 : Word)) (5 * ↑k + 4) = true ∨ fld (21 :
    Word) (5 * ↑k + 3) (5 * ↑k) = 0)) ∧
    (w2.opens Req.spi Pg.ovl = true ∧ 256 < 262144 ∧ ((stackHas w2.activeStack 3 || stackHas (w2.ovl.request.getD 0) 3) = true ∨
    262144 < 256 + 3 * w2.get Pg.ovl OVL.OVL_CNT.COUNT ∨ 2048 < w2.get Pg.ovl OVL.OVL_CNT.COUNT) ∧ w2.secure Req.spi = true ∧
    ((∃ x, w2.axState x ≠ 0) ∨ w2.ovl.request ≠ none)) := by
  and_intros <;> decide +kernel

theorem witness_Overlay_2 :
    (w5.ovl.load = some (256, 1, none) ∧ w5.softResetting (Pg.fb 5) = false ∧ 256 + 3 ≤ 262144 ∧ w5.storeGet 256 = BitVec.ofNat 36
    (slotAddr (Pg.fb 5) 96) ∧ w5.storeGet (256 + 1) = (255 : Word) ∧ w5.storeGet (256 + 2) = (18 : Word) ∧ (18 : Word) &&&
    ~~~(255 : Word) = (0 : Word) ∧ w5.storeOpen (w5.pageSecure Pg.ovl) false 256 3 ∧ w5.storeOpen (w5.pageSecure Pg.ovl) true
    imageBase 3 ∧ w5.cars[Fin.ofNat 12 (w5.get Pg.ovl OVL.OVL_SYNC.GRP)].cutAt ≠ some w5.now) ∧
    (w6.ovl.load = some (256, 1, none) ∧ 256 + 3 * 1 ≤ 262144 ∧ 1 < 16384 ∧ 0 < 1 ∧ w6.storeGet (256 + 3 * 0 + 2) &&& ~~~w6.storeGet
    (256 + 3 * 0 + 1) ≠ (0 : Word) ∧ w6.storeOpen (w6.pageSecure Pg.ovl) false 256 (3 * 1)) ∧
    (w7.ovl.load = some (256, 1, some 0) ∧ 0 < 16384) ∧
    (w8.rst.periRel = true ∧ w8.flag Pg.dbg DBG.DBG_STAT.HALTED = false ∧ w8.cars[Fin.ofNat 12 (w8.get Pg.ovl
    OVL.OVL_SYNC.GRP)].cutAt = some w8.now ∧ w8.softResetting (Pg.fb 5) = false ∧ w8.ovl.baseCount = 0 ∧ w8.ovl.count[3] = 1 ∧
    w8.storeGet (slotBase (3 : Fin 16).val) = BitVec.ofNat 36 (slotAddr (Pg.fb 5) 96) ∧ w8.storeGet (slotBase (3 : Fin 16).val +
    1) = (255 : Word) ∧ w8.storeGet (slotBase (3 : Fin 16).val + 2) = (18 : Word) ∧ w8.storeOpen (w8.pageSecure Pg.ovl) false
    (slotBase (3 : Fin 16).val) 3 ∧ w8.ovl.request = some (16 + (3 : Fin 16).val) ∧ w8.activeStack = 0 ∧ w8.ovl.bad = none ∧ (18
    : Word) &&& ~~~(255 : Word) = (0 : Word)) ∧
    (w9.rst.periRel = true ∧ w9.flag Pg.dbg DBG.DBG_STAT.HALTED = false ∧ w9.cars[Fin.ofNat 12 (w9.get Pg.ovl
    OVL.OVL_SYNC.GRP)].cutAt = some w9.now ∧ w9.softResetting (Pg.fb 5) = false ∧ w9.ovl.baseCount = 0 ∧ w9.ovl.count[3] = 1 ∧
    w9.storeGet (slotBase (3 : Fin 16).val) = BitVec.ofNat 36 (slotAddr (Pg.fb 5) 96) ∧ w9.storeGet (slotBase (3 : Fin 16).val +
    1) = (255 : Word) ∧ w9.storeGet (slotBase (3 : Fin 16).val + 2) = (786 : Word) ∧ w9.storeOpen (w9.pageSecure Pg.ovl) false
    (slotBase (3 : Fin 16).val) 3 ∧ w9.ovl.request = some (16 + (3 : Fin 16).val) ∧ w9.activeStack = 0 ∧ w9.ovl.bad = none ∧
    (786 : Word) &&& ~~~(255 : Word) ≠ (0 : Word)) ∧
    (w10.rst.periRel = true ∧ w10.flag Pg.dbg DBG.DBG_STAT.HALTED = false ∧ w10.cars[Fin.ofNat 12 (w10.get Pg.ovl
    OVL.OVL_SYNC.GRP)].cutAt = some w10.now ∧ w10.softResetting (Pg.fb 5) = false ∧ w10.ovl.baseCount = 0 ∧ w10.ovl.count[3] = 1
    ∧ w10.storeGet (slotBase (3 : Fin 16).val) = BitVec.ofNat 36 (slotAddr (Pg.fb 5) 96) ∧ w10.storeGet (slotBase (3 : Fin
    16).val + 1) = (255 : Word) ∧ w10.storeGet (slotBase (3 : Fin 16).val + 2) = (786 : Word) ∧ w10.storeOpen (w10.pageSecure
    Pg.ovl) false (slotBase (3 : Fin 16).val) 3 ∧ w10.ovl.request = some (16 + (3 : Fin 16).val) ∧ w10.activeStack = 0 ∧
    w10.ovl.bad ≠ none) ∧
    (o4.rst.periRel = true ∧ o4.flag Pg.dbg DBG.DBG_STAT.HALTED = false ∧ o4.cars[Fin.ofNat 12 (o4.get Pg.ovl
    OVL.OVL_SYNC.GRP)].cutAt = some o4.now ∧ o4.softResetting (Pg.fb 5) = false ∧ o4.ovl.baseCount = 0 ∧ o4.ovl.count[3] = 1 ∧
    o4.storeGet (slotBase (3 : Fin 16).val) = BitVec.ofNat 36 (slotAddr (Pg.fb 5) 96) ∧ o4.storeGet (slotBase (3 : Fin 16).val +
    1) = (255 : Word) ∧ o4.storeGet (slotBase (3 : Fin 16).val + 2) = (18 : Word) ∧ o4.storeOpen (o4.pageSecure Pg.ovl) false
    (slotBase (3 : Fin 16).val) 3 ∧ o4.ovl.request = some 0 ∧ o4.activeStack = 16 + (3 : Fin 16).val ∧ o4.ovl.bad = none ∧ (18 :
    Word) &&& ~~~(255 : Word) = (0 : Word)) := by
  and_intros <;> decide +kernel

end Overlays

namespace Engines

def r1 : State := (boot.put (.ae 3) AE.ENG_STAT.STATE 1).updEng 3 (fun x => {x with ready := [⟨700,3⟩,⟨500,2⟩,⟨500,4⟩], pc := 77})
def r2 : State := (boot.setWord .pe 0x1D8 0xE00000055).updEng 12 (fun x => {x with ready := [⟨700,27⟩], pc := 77, running := some ⟨5,3⟩})
def f1 : State := (((r1.put (.ae 3) AE.ENG_STAT.STATE 2).updEng 3 (fun x => {x with trapDue := true, failed := true, hbDue := true})).put (.ax 13) AX.AX_STATE.STATE 1).put (.ax 14) AX.AX_STATE.STATE 3
def g1 : State := ((((boot.put (.ae 3) AE.ENG_STAT.STATE 2).updEng 3 (fun x => {x with trapDue := true, failed := true, hbGood := 16})).put (.ax 14) AX.AX_STATE.STATE 4).put (.ax 14) AX.AX_STATE.HOLD 1).setWord (.ae 3) 0x70 0x0000C0100
def w1 : State := (boot.put (.ae 3) AE.ENG_CFG.CUSTOM 1)
def w2 : State := ((boot.put (.ae 3) AE.ENG_STAT.STATE 1).updEng 3 (fun x => {x with haltReq := true}))
def w4 : State := (boot.put (.ax 13) AX.AX_STATE.STATE 1)
def w6 : State := ((r1.updEng 3 (fun x => {x with running := some ⟨4,5⟩})).put (.ae 3) AE.ENG_STAT.STATE 2)
def w16 : State := ((g1.put (.ae 3) AE.ENG_STAT.STATE 1).put .ovl OVL.BASE_STAT.DONE 1)

theorem witness_EngineControl :
    (w1.opens Req.pe (Pg.ae 3) = true ∧ (Req.pe = Req.pe ∨ Req.pe = Req.spi ∨ Req.pe = Req.bar2) ∧ w1.peLive = true ∧ w1.engState 3 =
    0 ∧ w1.flag (Pg.ae 3) AE.ENG_CFG.CUSTOM = true) ∧
    (w2.opens Req.spi (Pg.ae 3) = true ∧ (Req.spi = Req.pe ∨ Req.spi = Req.spi ∨ Req.spi = Req.bar2) ∧ w2.peLive = true ∧
    w2.axesStill 3 = true ∧ (Req.spi ≠ Req.pe ∧ Req.spi ≠ Req.spi ∧ Req.spi ≠ Req.bar2 ∨ w2.engState 3 ≠ 0) ∧ w2.engs[engOf
    3].haltReq = true ∧ w2.engs[engOf 3].running = none ∧ w2.reaches Req.spi (Pg.ae 3) true = true ∧ fld (0 : Word) 34 33 < 3 ∧
    taskBad false (0 : Word) = false ∧ w2.engState 3 ≠ 0 ∧ w2.reaches Req.spi Pg.pe true = true ∧ taskBad true (0 : Word) =
    false ∧ 8 ≤ (9 : Fin 16).val ∧ BitVec.msb (w2.word Pg.pe (384 + 8 * (9 : Fin 16).val)) = false) ∧
    (w4.opens Req.spi (Pg.ae 3) = true ∧ (Req.spi = Req.pe ∨ Req.spi = Req.spi ∨ Req.spi = Req.bar2) ∧ w4.peLive = true ∧ w4.engState
    3 = 0 ∧ w4.flag (Pg.ae 3) AE.ENG_CFG.CUSTOM = false ∧ (Req.spi ≠ Req.pe ∧ Req.spi ≠ Req.spi ∧ Req.spi ≠ Req.bar2 ∨
    w4.axesStill 3 = false) ∧ w4.reaches Req.spi (Pg.ae 3) true = true ∧ fld (0 : Word) 34 33 < 3 ∧ taskBad false (0 : Word) =
    false) := by
  and_intros <;> decide +kernel

theorem witness_TasksAndTraps :
    (r1.engRuns 3 = true ∧ r1.engs[3].running = none ∧ r1.engs[3].haltReq = false ∧ { deadline := 500, task := 2 : Ready } ∈
    r1.engs[3].ready ∧ (∀ (y : Ready), y ∈ r1.engs[3].ready → { deadline := 500, task := 2 : Ready }.deadline < y.deadline ∨ { deadline := 500, task := 2 : Ready }.deadline
    = y.deadline ∧ { deadline := 500, task := 2 : Ready }.task ≤ y.task) ∧ r1.engRuns (engOf 3) = true ∧ 5 ≠ 0 ∧ 5 ≠ 7 ∧
    r1.engRuns peIx = true) ∧
    (w6.engRuns (engOf 3) = true ∧ w6.engs[engOf 3].running.isSome = true) ∧
    (r2.engRuns peIx = true ∧ r2.urgent (27 : Fin 32).val = true ∧ r2.engs[peIx].saved = none ∧ r2.engs[peIx].waiting = none ∧
    r2.engs[peIx].running = some { deadline := 5, task := 3 : Ready } ∧ (∀ (y : Ready), some { deadline := 5, task := 3 : Ready }
    = some y → r2.urgent y.task = false) ∧ r2.engs[peIx].ready = [{ deadline := 700, task := 27 : Ready }] ∧ { deadline := 700, task := 27 : Ready }.task
    = (27 : Fin 32).val ∧ r2.engs[peIx].running.isSome = true) := by
  and_intros <;> decide +kernel

theorem witness_EngineRecovery_1 :
    f1.peLive = true ∧ f1.engs[engOf 3].trapDue = true ∧ f1.engs[engOf (aeOf 14)].failed = true ∧ (f1.engState (aeOf 14) = 2 ∨
    f1.engState (aeOf 14) = 3) ∧ f1.axState 14 ≠ 4 ∧ f1.engs[engOf 3].hbDue = true := by
  decide +kernel

theorem witness_EngineRecovery_2 :
    w16.peLive = true ∧ w16.engs[engOf 3].failed = true ∧ w16.axesStill 3 = true ∧ 16 ≤ w16.engs[engOf 3].hbGood ∧ (∀ (n : Fin 48),
    n ∈ axesOf 3 → w16.standsStill n = true) ∧ w16.seqAccepts 3 = true ∧ w16.engState 3 = 1 ∧ w16.rst.dpRel = true ∧ w16.flag
    Pg.ovl OVL.BASE_STAT.DONE = true := by
  decide +kernel

end Engines

namespace Drives

def dq (s : State) (n : Fin 48) (l : List (List Word)) : State := fr (s.qSet (.dq n) l)
def wv : Vector Wave 4 := #v[⟨0,100,3000,false,none⟩,⟨0,200,4000,false,none⟩,⟨0,300,5000,false,none⟩,⟨0,0,0,false,none⟩]
def p1 (ty os ax : Nat) : State := let s := ((boot.put (.ax 13) AX.AX_CFG.TYPE ty).put (.dp 13) DP.DP_STAT.OSTATE os).put (.ax 13) AX.AX_STATE.STATE ax
  let s := ((s.put (.dp 13) HDR.CTRL.EN 1).put (.dp 13) DP.DP_STAT.PEN 1).setWord (.dp 13) 0x40 0x5006
  dq (s.updDp 13 (fun d => {d with popped := true, shadow := #v[0x200000000,0x700000000,0x123456789,5], carLen := 3000, cfgW := 0x5006, waves := wv})) 13 [[0x400000000,1,2,3],[5]]
def hi (s : State) : State := ticks 1000 s
def hh (s : State) : State := ticks 2000000 s
def w0 : State := (p1 1 1 1)
def w2 : State := (p1 2 2 1)
def w10 : State := (hi (p1 1 3 0))
def w11 : State := ((hi (p1 1 2 2)).updDp 13 (fun d => {d with tripW := 0x259035, cbcDue := true, calNew := some 50, carStart := 1000 + boot.now, tripPin := false}))
def w13 : State := ((hh (p1 2 2 4)).updDp 13 (fun d => d.updCoil true (fun c => {c with phase := .on, openRun := 15, openDue := true})))
def w14 : State := ((hh (p1 2 2 5)).updDp 13 (fun d => d.updCoil true (fun c => {c with phase := .off, openRun := 15, ref := -3})))
def w15 : State := ((hh (p1 2 2 4)).updDp 13 (fun d => d.updCoil true (fun c => {c with phase := .on, ref := 0})))

theorem witness_DrivePorts_1 :
    (w0.dpOn = true ∧ (∀ (m : Fin 48), m ∈ axesOf 3 → w0.axes[m].dice.capRun = false ∧ w0.ports[m].tripAt ≠ some w0.now ∧ (fld
    (w0.word (Pg.dp m) 80) 0 0 = 0 ∨ w0.ports[m].tripPin ≠ (fld (w0.word (Pg.dp m) 80) 1 1 == 1))) ∧ w0.ostate 13 ≠ 0 ∧
    w0.queuesFresh ∧ w0.qGet (QId.dq 13) = [[(17179869184 : Word), (1 : Word), (2 : Word), (3 : Word)], [(5 : Word)]] ∧
    w0.axType 13 ≠ 0 ∧ w0.axType 13 ≠ 2) ∧
    (w2.dpOn = true ∧ w2.ostate 13 ≠ 0 ∧ w2.queuesFresh ∧ w2.qGet (QId.dq 13) = [[(17179869184 : Word), (1 : Word), (2 : Word), (3 :
    Word)], [(5 : Word)]] ∧ w2.axType 13 ≠ 0 ∧ w2.axType 13 = 2) := by
  and_intros <;> decide +kernel

theorem witness_DrivePorts_2 :
    (w10.reaches Req.bar0 (Pg.dp 13) true = true ∧ w10.rst.dpRel = true ∧ w10.ostate 13 = 3 ∧ w10.ports[13].tripActive = false ∧
    (w10.axState 13 = 0 ∨ w10.axState 13 = 4)) ∧
    (w11.penBall 13 = false ∧ w11.ports[13].tripAt ≠ some w11.now ∧ w11.rst.dpRel = true ∧ (((if w11.ports[13].tripPin = false then
    w11.ports[13] else { w11.ports[13] with tripPin := false, tripSince := w11.now, tripDone := false : DrivePort }).tripActive
    && fld w11.ports[13].tripW 0 0 == 1 && w11.ostate 13 != 0) = true) ∧ ((if w11.ports[13].tripPin = false then w11.ports[13]
    else { w11.ports[13] with tripPin := false, tripSince := w11.now, tripDone := false : DrivePort }).tripDone = false) ∧ ((if
    w11.ports[13].tripPin = false then w11.ports[13] else { w11.ports[13] with tripPin := false, tripSince := w11.now, tripDone := false : DrivePort }).tripSince
    + fld w11.ports[13].tripW 7 4 ≤ w11.now) ∧ ({ w11 with ports := w11.ports.set ((13 : Fin 48).val) (if w11.ports[13].tripPin = false then w11.ports[13] else { w11.ports[13] with tripPin := false, tripSince := w11.now, tripDone := false : DrivePort }) (by decide) : State }.blanking
    13 = false) ∧ w11.ports[13].rearmAt ≠ some w11.now ∧ w11.ports[13].penAt ≠ some w11.now ∧ w11.ports[13].cbcDue = true ∧
    (w11.ostate 13 = 1 ∨ w11.ostate 13 = 2) ∧ w11.reaches Req.bar0 (Pg.dp 13) true = true ∧ (w11.ostate 13 ≠ 3 ∨
    w11.ports[13].tripActive = true ∨ w11.axState 13 ≠ 0 ∧ w11.axState 13 ≠ 4) ∧ w11.dpOn = true ∧ 50 < 256 ∧ w11.ostate 13 ≠ 0
    ∧ w11.ports[13].calNew.isSome = true ∧ w11.ports[13].carStart = w11.now ∧ w11.edgeFree 13 = true ∧ w11.cmpReached 13 false 7
    = false) ∧
    (w13.rst.dpRel = true ∧ (((if w13.ports[13].tripPin = true then w13.ports[13] else { w13.ports[13] with tripPin := true, tripSince := w13.now, tripDone := false : DrivePort }).tripActive
    && fld w13.ports[13].tripW 0 0 == 1 && w13.ostate 13 != 0) = false) ∧ w13.chops 13 = true ∧ (w13.ports[13].coil true).phase
    = Phase.on ∧ (w13.ports[13].coil true).since + w13.get (Pg.dp 13) DP.CHOP_REF.TON_MAX_US * 300 ≤ w13.now ∧
    (w13.ports[13].coil true).openDue = true) ∧
    (w14.chops 13 = true ∧ (w14.ports[13].coil true).phase = Phase.off ∧ (w14.ports[13].coil true).since + fld w14.ports[13].chopW 33
    20 ≤ w14.now) ∧
    (w15.chops 13 = true ∧ w15.cmpReached 13 true 20000 = true ∧ (w15.ports[13].coil true).phase = Phase.on ∧ (w15.ports[13].coil
    true).blank + fld w15.ports[13].chopW 9 0 ≤ w15.now) := by
  and_intros <;> decide +kernel

end Drives

namespace Feedback

def m (k : Nat) : State := let s := ((boot.put (.fb 5) FB.FB_CFG.MODE k).put (.fb 5) HDR.CTRL.EN 1).put (.ax 7) AX.AX_CFG.FB_MODE 2
  (s.put (.ax 7) AX.AX_CFG.FB_IDX 5).put (.ax 9) AX.GEAR_CFG.MSRC 1 |>.put (.ax 9) AX.GEAR_CFG.MIDX 5 |>.updFb 5 (fun b => {b with pos := 100, prev := some (50, 0)})
def q (st : Nat) (w : Nat) : State := (((m 4).put (.fb 5) FB.SEQ_STAT.SSTATE st).setWord (.fb 5) 0x418 (BitVec.ofNat 36 w)).put (.fb 5) FB.SEQ_STAT.PC 3 |>.updFb 5 (fun b => {b with sr := 0xABCDEF012345, tx := 0x87654321, crc := 0x1D}) |>.put (.fb 5) FB.SEQ_CRC.WIDTH 8 |>.put (.fb 5) FB.SEQ_CRC.POLY 0x2F
def qe (st e : Nat) : State := (q st 0).updFb 5 (fun b => {b with ended := some e, raw := some (77,12,false), mark := (55,66)})
def w3 : State := ((m 1).put (.fb 5) FB.FB_CFG.DIR 1 |>.updFb 5 (fun b => {b with inp := #v[true,false,false], pos := 2^23-1}))
def w11 : State := ((m 3).put (.fb 5) HDR.EV_RAW.RAW 0xFFFF |>.put (.fb 5) FB.LAT_CFG.SRC 2)
def w12 : State := ((m 3).put (.fb 5) FB.FB_STAT.STILL 1 |>.put (.ax 7) AX.AX_STATE.STATE 1)
def w13 : State := (q 2 0)
def w14 : State := (q 2 0x1A0000005)
def w15 : State := (q 2 0x20C000005)
def w17 : State := (q 2 0x380000005)
def w18 : State := (q 2 0x410400045)
def w19 : State := (q 2 0x500001234)
def w20 : State := (q 3 0x600000000)
def w21 : State := (q 3 0x720900000)
def w22 : State := (q 3 0x820980000)
def w24 : State := (q 3 0x9BCDE0123)
def w25 : State := (q 3 0xA20000013)
def w27 : State := ((q 3 0xB00000000).put (.fb 5) FB.SEQ_STAT.PC 31 |>.setWord (.fb 5) (0x400+31*8) 0xB00000000)
def w28 : State := (q 0 0)
def w30 : State := (qe 2 0)
def w31 : State := (qe 3 4)
def w35 : State := ((m 1).put (.fiob 0) FIOB.IN_INDET.INDET 0xFFFFFFFF)

theorem witness_FeedbackCounts :
    w3.released (Pg.fb 5) = true ∧ w3.softResetting (Pg.fb 5) = false ∧ w3.fbs[5].preset = none ∧ w3.fbs[5].loaded ≠ some w3.now ∧
    w3.fbs[5].zeroDue = none ∧ w3.get (Pg.fb 5) FB.FB_CFG.IDX_MODE = 0 ∧ (∀ (u : FbUndo), w3.fbs[5].undo = some u → u.tick ≠
    w3.now) ∧ w3.fbs[5].inp[0] ≠ w3.fbs[5].acc[0] := by
  decide +kernel

theorem witness_FeedbackSamples :
    (w11.fbs[5].preset = none ∧ w11.fbs[5].zeroDue = none ∧ w11.runs (Pg.fb 5) = true ∧ 1 ≤ w11.fbMode 5 ∧ w11.fbMode 5 ≤ 3 ∧
    w11.queuesFresh ∧ w11.fbs[5].prev = some ((50 : Int), 0) ∧ w11.released (Pg.fb 5) = true ∧ w11.opens Req.bar0 (Pg.fb 5) =
    true ∧ w11.fieldIndet (w11.get (Pg.fb 5) FB.LAT_CFG.CH) = false ∧ (w11.get (Pg.fb 5) FB.LAT_CFG.SRC = 1 ∧ w11.fieldOn
    (w11.get (Pg.fb 5) FB.LAT_CFG.CH) = true ∨ w11.get (Pg.fb 5) FB.LAT_CFG.SRC = 2 ∧ w11.fieldOn (w11.get (Pg.fb 5)
    FB.LAT_CFG.CH) = false) ∧ w11.reaches Req.bar0 (Pg.fb 5) true = true ∧ w11.flag (Pg.fb 5) HDR.LOCK.LOCK = false ∧ fld (69634
    : Word) 15 12 ≠ 0 ∧ fld (69634 : Word) 11 8 < 12 ∧ fld (69634 : Word) 6 5 ≠ 3 ∧ fld (69634 : Word) 2 0 < 5 ∧ w11.fbBusy 5 =
    false ∧ w11.seqState 5 = 0 ∧ w11.reaches Req.bar0 Pg.ec true = true) ∧
    (fld (69634 : Word) 5 0 < 48) ∧
    (w12.fbs[5].preset = none ∧ w12.fbs[5].zeroDue = none ∧ w12.reaches Req.bar0 (Pg.fb 5) true = true ∧ w12.flag (Pg.fb 5)
    HDR.LOCK.LOCK = false ∧ fld (4882239522 : Word) 15 12 ≠ 0 ∧ fld (4882239522 : Word) 11 8 < 12 ∧ fld (4882239522 : Word) 6 5
    ≠ 3 ∧ fld (4882239522 : Word) 2 0 < 5 ∧ w12.fbBusy 5 = true ∧ fld (4882239522 : Word) 2 0 ≠ w12.fbMode 5) ∧
    (w35.fbs[5].preset = none ∧ w35.fbs[5].zeroDue = none ∧ w35.fieldIndet (w35.get (Pg.fb 5) FB.LAT_CFG.CH) = true) := by
  and_intros <;> decide +kernel

theorem witness_Sequencer_1 :
    (w13.runs (Pg.fb 5) = true ∧ w13.fbMode 5 = 4 ∧ (w13.seqState 5 = 2 ∨ w13.seqState 5 = 3) ∧ w13.fbs[5].ended = none ∧ fld
    (w13.seqWord 5) 35 32 = 0) ∧
    (w14.runs (Pg.fb 5) = true ∧ w14.fbMode 5 = 4 ∧ (w14.seqState 5 = 2 ∨ w14.seqState 5 = 3) ∧ w14.fbs[5].ended = none ∧ fld
    (w14.seqWord 5) 35 32 = 1) ∧
    (w15.runs (Pg.fb 5) = true ∧ w15.fbMode 5 = 4 ∧ (w15.seqState 5 = 2 ∨ w15.seqState 5 = 3) ∧ w15.fbs[5].ended = none ∧ fld
    (w15.seqWord 5) 35 32 = 2 ∧ [true, true, false].length = fld (w15.seqWord 5) 31 26) ∧
    (w17.runs (Pg.fb 5) = true ∧ w17.fbMode 5 = 4 ∧ (w17.seqState 5 = 2 ∨ w17.seqState 5 = 3) ∧ w17.fbs[5].ended = none ∧ fld
    (w17.seqWord 5) 35 32 = 3) ∧
    (w18.runs (Pg.fb 5) = true ∧ w18.fbMode 5 = 4 ∧ (w18.seqState 5 = 2 ∨ w18.seqState 5 = 3) ∧ w18.fbs[5].ended = none ∧ fld
    (w18.seqWord 5) 35 32 = 4) ∧
    (w19.runs (Pg.fb 5) = true ∧ w19.fbMode 5 = 4 ∧ (w19.seqState 5 = 2 ∨ w19.seqState 5 = 3) ∧ w19.fbs[5].ended = none ∧ fld
    (w19.seqWord 5) 35 32 = 5) ∧
    (w20.runs (Pg.fb 5) = true ∧ w20.fbMode 5 = 4 ∧ (w20.seqState 5 = 2 ∨ w20.seqState 5 = 3) ∧ w20.fbs[5].ended = none ∧ fld
    (w20.seqWord 5) 35 32 = 6) ∧
    (w21.runs (Pg.fb 5) = true ∧ w21.fbMode 5 = 4 ∧ (w21.seqState 5 = 2 ∨ w21.seqState 5 = 3) ∧ w21.fbs[5].ended = none ∧ fld
    (w21.seqWord 5) 35 32 = 7) ∧
    (w22.runs (Pg.fb 5) = true ∧ w22.fbMode 5 = 4 ∧ (w22.seqState 5 = 2 ∨ w22.seqState 5 = 3) ∧ w22.fbs[5].ended = none ∧ fld
    (w22.seqWord 5) 35 32 = 8) ∧
    (w24.runs (Pg.fb 5) = true ∧ w24.fbMode 5 = 4 ∧ (w24.seqState 5 = 2 ∨ w24.seqState 5 = 3) ∧ w24.fbs[5].ended = none ∧ fld
    (w24.seqWord 5) 35 32 = 9) ∧
    (w25.runs (Pg.fb 5) = true ∧ w25.fbMode 5 = 4 ∧ (w25.seqState 5 = 2 ∨ w25.seqState 5 = 3) ∧ w25.fbs[5].ended = none ∧ fld
    (w25.seqWord 5) 35 32 = 10) ∧
    (w27.runs (Pg.fb 5) = true ∧ w27.fbMode 5 = 4 ∧ (w27.seqState 5 = 2 ∨ w27.seqState 5 = 3) ∧ w27.fbs[5].ended = none ∧ fld
    (w27.seqWord 5) 35 32 = 11) := by
  and_intros <;> decide +kernel

theorem witness_Sequencer_2 :
    (w28.fbMode 5 = 4 ∧ w28.fbs[5].preset = none ∧ w28.fbs[5].zeroDue = none ∧ w28.runs (Pg.fb 5) = true ∧ w28.fbs[5].ended = none ∧
    w28.queuesFresh ∧ w28.opens Req.bar0 (Pg.fb 5) = true ∧ w28.reaches Req.bar0 (Pg.fb 5) true = true ∧ w28.seqState 5 = 0 ∧
    seqInsnBad (21474841140 : Word) = false) ∧
    (w30.fbMode 5 = 4 ∧ w30.fbs[5].preset = none ∧ w30.fbs[5].zeroDue = none ∧ w30.runs (Pg.fb 5) = true ∧ w30.fbs[5].ended = some 0
    ∧ 0 < 16 ∧ w30.queuesFresh ∧ 0 = 0 ∧ w30.fbs[5].raw = some (77, 12, false) ∧ w30.fbs[5].valid = none ∧ w30.reaches Req.bar0
    (Pg.fb 5) true = true ∧ w30.seqState 5 ≠ 0) ∧
    (w31.fbMode 5 = 4 ∧ w31.fbs[5].preset = none ∧ w31.fbs[5].zeroDue = none ∧ w31.runs (Pg.fb 5) = true ∧ w31.fbs[5].ended = some 4
    ∧ 4 < 16 ∧ w31.queuesFresh ∧ 4 ≠ 0) := by
  and_intros <;> decide +kernel

end Feedback

namespace Converters

def a0 : State := {(boot.put (.adc 2) (ADC.IN_CAL.GAIN.nth 4) 0x100123 |>.put (.adc 2) (ADC.IN_CAL.NEG.nth 5) 1 |>.put (.adc 2) (ADC.IN_CAL.OFS.nth 5) 0x7FF) with recd := boot.recd}
def a1 : State := ((a0.put (.adc 2) (ADC.SEQ.PUSH.nth 5) 1).put (.adc 2) (ADC.SEQ.INPUT.nth 5) 9 |>.put .ec HDR.CTRL.EN 1 |>.updAdc 2 (fun a => {a with next := 37, seq := a.seq.set 5 0x109 }))
def fb0 : State := (boot.updFiob 1 (fun f => {f with rel := true, on := 0xF0, off := 0x50})).setWord (.fiob 1) 0x50 0xFF |>.put (.fiob 1) (FIOB.CH_CFG.DIR.nth 5) 1 |>.put (.fiob 1) (FIOB.CH_CFG.DIR.nth 6) 1 |>.put (.fiob 1) (FIOB.CH_CFG.DIR.nth 1) 1 |>.put (.fiob 1) (FIOB.CH_CFG.ARST.nth 6) 1 |>.put (.fiob 1) (FIOB.CH_CFG.WB_EN.nth 9) 1 |>.put (.fiob 1) (FIOB.CH_CFG.PUV.nth 9) 1
def w4 : State := ((a1.put (.ax 18) AX.AX_STATE.STATE 1).put (.adc 2) ADC.ADC_STAT.CAL_BUSY 1 |>.updAdc 2 (fun a => {a with cal := [(3, 5000, 1024), (5,-2000000,1024)]}))
def w6 : State := (fb0.updFiob 1 (fun f => {f with scanned := true, kickAt := some 3}))
def w7 : State := ((fb0.updFiob 1 (fun f => {f with scanned := true, kickAt := some 3})).put (.fiob 1) FIOB.BANK_STAT.SAFE 1)
def w8 : State := (fb0.updFiob 1 (fun f => {f with rel := false}))
def w9 : State := (ticks 300000000 (fb0.updFiob 1 (fun f => {f with cur := Vector.replicate 32 300})))

theorem witness_Converters :
    (a1.runs (Pg.adc 2) = true ∧ a1.queuesFresh ∧ a1.opens Req.bar0 (Pg.adc 2) = true ∧
    (((List.filter (fun j => (List.range 32).any fun i => a1.adcInput 2 i == j) (List.range 20)).any fun j =>
    match nthPg Pg.ax (8 * (2 : Fin 6).val + j / 2) with
    | some (Pg.ax n) => decide (j < 16) && (decide (1 < a1.ostate n) || a1.axState n != 0)
    | _ => false) =
  false)) ∧
    (w4.runs (Pg.adc 2) = true ∧ w4.queuesFresh ∧ (w4.adcs[2].restart = none ∧ a1.adcs[2].seq = w4.adcs[2].seq ∧ 5 = w4.adcs[2].next
    % 32 ∧ fld w4.adcs[2].cfg 6 5 ≠ 2 ∨ Option.map (fun x => (decide (x.fst + 50 ≤ w4.now), x.snd)) w4.adcs[2].restart = some
    (true, a1.adcs[2].seq) ∧ 5 = fld w4.adcs[2].cfg 4 0 ∧ fld w4.adcs[2].cfg 6 5 ≠ 2) ∧ fld w4.adcs[2].cfg 6 5 ≠ 2 ∧ (∀ (e : Nat
    × Word × Nat), e ∈ w4.adcs[2].prior → e.snd.snd ≤ w4.now) ∧ w4.opens Req.bar0 (Pg.adc 2) = true ∧
    (((List.filter (fun j => (List.range 32).any fun i => w4.adcInput 2 i == j) (List.range 20)).any fun j =>
    match nthPg Pg.ax (8 * (2 : Fin 6).val + j / 2) with
    | some (Pg.ax n) => decide (j < 16) && (decide (1 < w4.ostate n) || w4.axState n != 0)
    | _ => false) =
  true)
    ∧ w4.flag (Pg.adc 2) ADC.ADC_STAT.CAL_BUSY = true ∧ (∀ (e : Nat × Int × Nat), e ∈ w4.adcs[2].cal → e.snd.snd = 1024 ∧ e.fst
    < 20) ∧ (List.map Prod.fst w4.adcs[2].cal).Nodup) := by
  and_intros <;> decide +kernel

theorem witness_FieldBanks_1 :
    (w6.linkOn 1 = true ∧ w6.flag (Pg.fiob 1) (FIOB.CH_CFG.ARST.nth (6 : Fin 32).val) = true) ∧
    (w7.linkOn 1 = true ∧ w7.fiobs[1].cur[9] < 250 ∧ w7.flag (Pg.fiob 1) (FIOB.CH_CFG.DIR.nth (9 : Fin 32).val) = false ∧ w7.flag
    (Pg.fiob 1) (FIOB.CH_CFG.WB_EN.nth (9 : Fin 32).val) = true ∧ w7.chan 1 120 9 = false ∧ w7.opens Req.bar0 (Pg.fiob 1) = true
    ∧ w7.fiobs[1].rel = true ∧ w7.linkRuns 1 = true ∧ w7.flag (Pg.fiob 1) FIOB.BANK_STAT.SAFE = true) ∧
    (w8.linkOn 1 = false) ∧
    (w9.linkOn 1 = true ∧ 250 ≤ w9.fiobs[1].cur[5] ∧ w9.fiobs[1].on.getLsbD (5 : Fin 32).val = true ∧ w9.flag (Pg.fiob 1)
    FIOB.BANK_STAT.VF_LOW = false ∧ w9.fiobs[1].rel = true ∧ w9.flag (Pg.fiob 1) FIOB.BANK_STAT.SAFE = false ∧ w9.wdDue 1 = true
    ∧ w9.opens Req.bar0 (Pg.fiob 1) = true ∧ (w9.linkRuns 1 = false ∨ w9.flag (Pg.fiob 1) FIOB.BANK_STAT.SAFE = false) ∧
    w9.reaches Req.bar0 (Pg.fiob 1) true = true ∧ w9.flag (Pg.fiob 1) HDR.LOCK.LOCK = false ∧ fld (131089 : Word) 7 6 ≠ 3 ∧ fld
    (131089 : Word) 19 8 ≤ 4000) := by
  and_intros <;> decide +kernel

end Converters

namespace Store

def rq (wr : Bool) : StoreReq := {own := 0, wr := wr, addr := 0x1234, len := 4, data := [1,2,3,4], done := 1, raised := 3}
def ar (f : ArbPart → ArbPart) : State := boot.updArb (fun a => f { a with cycle := 70, ttAt := 60, reqs := (a.reqs.set 5 (some (rq true))).set 9 (some (rq false)), dwell := a.dwell.set 9 256})
def e0 : State := ((boot.put (.eth 1) ETH.ETH_STAT.LINK 1).put (.eth 0) ETH.ETH_STAT.LINK 1).put (.eth 1) HDR.CTRL.EN 1 |>.put .ptp PTP.PTP_CFG.EN 1 |>.put .ptp PTP.PTP_CFG.L2 1 |>.put (.eth 1) ETH.TX_PROD.PROD 3
def efr (ok : Bool) (d : Nat) : EthFrame := {ok := ok, ago := 55, fwdAgo := 5, bytes := (List.replicate 6 (BitVec.ofNat 8 d)) ++ [1,2,3,4,5,6,0x88,0xF7,0x02,0x02] ++ (List.range 60).map (BitVec.ofNat 8)}
def ef (l : List (Nat × Nat)) : State := (e0.put (.eth 1) ETH.ETH_CFG.FWD 1).updEth 1 (fun x => {x with fwd := l})
def eh : State := ({e0 with host := {e0.host with linkUp := true, busMaster := true}}.put .sys (SYS.DMA_STAT.STATE.nth 7) 1).storePut (0x80000+0x30000) 100
def w4 : State := (ar (fun a => {a with cur := some 9, tt := a.tt.set 1 0x145145145, cycle := 64, ttAt := 60, ttPend := some a.tt, flight := [(9,0x55,7)]}))
def w5 : State := ((ar (fun a => {a with cur := some 9, dwell := a.dwell.set 5 999, tt := a.tt.set 1 0x145145145, cycle := 64, ttAt := 60, ttPend := some a.tt, flight := [(9,0x55,7)]})).fire
  .arb 0)
def w6 : State := ((ar (fun a => {a with flight := [(3,0x55,7)]})).fire .arb 0)
def w8 : State := (ticks 10000000000 ((boot.setWord .time 0x88 0x7FFFFFF00).put .time TIME.TIME_STAT.STATE 1))
def w11 : State := (e0.storePut (0x80000+0x30000) 100)
def w12 : State := {e0 with arb := {e0.arb with refresh := true}}
def w13 : State := (ef [(1,999999),(2,5)])
def w14 : State := (ef [(1,999999),(2,999999)])
def w16 : State := (eh.put (.eth 1) ETH.ETH_STAT.LINK 0)

theorem witness_Arbiter :
    (w4.rst.mgmtRel = true ∧ w4.rst.storeRdy = true ∧ w4.arb.refresh = false ∧ w4.arb.reqs[9] = some (rq false) ∧ w4.arb.cur = some 9
    ∧ worldAllows (w4.storeWorld (((rq false).addr + (rq false).done) % 4194304)) (w4.arbSecure 9 (rq false).own) (rq false).wr
    = true ∧ w4.arb.flight = [((9 : Fin 29).val, 85, (7 : Word))] ∧ 85 < 4194304 ∧ w4.arb.cur = some 9 ∧ (w4.arb.cur.isSome =
    true ∨ ∀ (p : Fin 2), w4.eths[p].held = []) ∧ w4.opens Req.bar0 Pg.arb = true) ∧
    (w5.arb.urgent = none ∧ w5.arb.reqs[5].isSome = true ∧ ¬(5 : Fin 29).val ∈ w5.arb.claims ∧ w5.arb.cur ≠ some 5 ∧ w5.get Pg.arb
    ARB.ARB_CFG.DWELL_LIMIT ≤ w5.arb.dwell[5] ∧ (∀ (x : Fin 29), w5.arb.reqs[x].isSome = true ∧ ¬↑x ∈ w5.arb.claims ∧ w5.arb.cur
    ≠ some x ∧ w5.get Pg.arb ARB.ARB_CFG.DWELL_LIMIT ≤ w5.arb.dwell[x] → w5.arb.lastUrg[5] < w5.arb.lastUrg[x] ∨
    w5.arb.lastUrg[5] = w5.arb.lastUrg[x] ∧ 5 ≤ x)) ∧
    (w6.arbMasked 3 = false ∧ w6.arb.reqs[3] = none ∧ 0 < 5 ∧ w6.rst.mgmtRel = true ∧ w6.arb.cur = none) := by
  and_intros <;> decide +kernel

theorem witness_PlatformTime_1 :
    w8.opens Req.spi Pg.time = true ∧ w8.secure Req.spi = true ∧ w8.crossBad Pg.time 160 0 (1 : Word) = false ∧ (0 : Int) ≤ roundQ
    (↑↑(BitVec.toNat (w8.word Pg.time 144) * 64000000000 + BitVec.toNat (w8.word Pg.time 136)) + (640 / 3 : Rat) * ((1 : Rat) +
    ↑(BitVec.toInt (w8.word Pg.time 128)) / (2 : Rat) ^ 40)) ∧ (0 : Int) ≤ ↑(BitVec.toNat (w8.word Pg.time 144) * 64000000000 +
    BitVec.toNat (w8.word Pg.time 136)) ∧ roundQ (↑↑(BitVec.toNat (w8.word Pg.time 144) * 64000000000 + BitVec.toNat (w8.word
    Pg.time 136)) + (640 / 3 : Rat) * ((1 : Rat) + ↑(BitVec.toInt (w8.word Pg.time 128)) / (2 : Rat) ^ 40)) < (2 : Int) ^ 36 *
    (64000000000 : Int) ∧ (0 : Int) ≤ roundQ (↑(w8.timeAt w8.timeC + BitVec.toInt (w8.word Pg.time 136)) + (640 / 3 : Rat) * ((1
    : Rat) + ↑(BitVec.toInt (w8.word Pg.time 128)) / (2 : Rat) ^ 40)) ∧ (0 : Int) ≤ w8.timeAt w8.timeC + BitVec.toInt (w8.word
    Pg.time 136) ∧ roundQ (↑(w8.timeAt w8.timeC + BitVec.toInt (w8.word Pg.time 136)) + (640 / 3 : Rat) * ((1 : Rat) +
    ↑(BitVec.toInt (w8.word Pg.time 128)) / (2 : Rat) ^ 40)) < (2 : Int) ^ 36 * (64000000000 : Int) ∧ (0 : Int) ≤ roundQ
    (↑(w8.timeAt w8.timeC) + (640 / 3 : Rat) * ((1 : Rat) + ↑(BitVec.toInt (w8.word Pg.time 152)) / (2 : Rat) ^ 40)) ∧ (0 : Int)
    ≤ w8.timeAt w8.timeC ∧ roundQ (↑(w8.timeAt w8.timeC) + (640 / 3 : Rat) * ((1 : Rat) + ↑(BitVec.toInt (w8.word Pg.time 152))
    / (2 : Rat) ^ 40)) < (2 : Int) ^ 36 * (64000000000 : Int) ∧ (0 : Int) ≤ roundQ (↑(w8.timeAt w8.timeC + BitVec.toInt (w8.word
    Pg.time 136)) + (640 / 3 : Rat) * ((1 : Rat) + ↑(BitVec.toInt (w8.word Pg.time 152)) / (2 : Rat) ^ 40)) ∧ roundQ
    (↑(w8.timeAt w8.timeC + BitVec.toInt (w8.word Pg.time 136)) + (640 / 3 : Rat) * ((1 : Rat) + ↑(BitVec.toInt (w8.word Pg.time
    152)) / (2 : Rat) ^ 40)) < (2 : Int) ^ 36 * (64000000000 : Int) ∧ w8.get Pg.time TIME.TIME_STAT.STATE = 1 ∧ w8.lastCor +
    300000 * w8.get Pg.time TIME.HOLD_CFG.HOLD_MS ≤ w8.timeC ∧ w8.reaches Req.bar0 Pg.time false = true := by
  decide +kernel

theorem witness_EthernetPorts :
    (e0.runs (Pg.eth 1) = true ∧ e0.flag (Pg.eth 1) ETH.ETH_CFG.EN = true ∧ e0.ethUp 1 = true ∧ e0.ethForwards 1 (efr true 255).bytes
    = false ∧ ((efr true 255).ok = true ∧ 60 ≤ (efr true 255).bytes.length ∧ ((efr true 255).bytes.length ≤ if beAt (efr true
    255).bytes 12 2 = 33024 then 1522 else 1518) ∧ (e0.flag (Pg.eth 1) ETH.ETH_CFG.PROMISC = true ∨ beAt (efr true 255).bytes 0
    6 = e0.macAddr 1 ∨ beAt (efr true 255).bytes 0 6 = 2 ^ 48 - 1 ∨ beAt (efr true 255).bytes 0 1 % 2 = 1 ∧ e0.flag (Pg.eth 1)
    ETH.ETH_CFG.MCAST = true)) ∧ e0.storeBusy = false ∧ e0.eths[1].held = [] ∧ e0.storeOpen (e0.pageSecure (Pg.eth 1)) true
    (524288 + 131072 * (1 : Fin 2).val + 512 * e0.get (Pg.eth 1) ETH.RX_STAT.WIDX) 512 ∧ e0.opens Req.bar0 (Pg.eth 1) = true ∧
    (e0.ethUp 1 = true ∨ true = true) ∧ e0.get (Pg.eth 1) ETH.TX_CONS.CONS ≠ e0.get (Pg.eth 1) ETH.TX_PROD.PROD ∧ e0.ethMayBegin
    1 (e0.now - 3) = true ∧ (∀ (wr : Bool), e0.storeOpen (e0.pageSecure (Pg.eth 1)) wr (524288 + 131072 * (1 : Fin 2).val +
    65536 + 512 * e0.get (Pg.eth 1) ETH.TX_CONS.CONS) 512) ∧ e0.storeOpen (e0.secure Req.dma) false (524288 + 131072 * (1 : Fin
    2).val + 65536 + 512 * e0.get (Pg.eth 1) ETH.TX_CONS.CONS) 3 ∧ e0.host.txBack = []) ∧
    (w11.runs (Pg.eth 1) = true ∧ w11.flag (Pg.eth 1) ETH.ETH_CFG.EN = true ∧ w11.ethUp 1 = true ∧ w11.ethForwards 1 (efr true
    2).bytes = false ∧ (¬((efr true 2).ok = true ∧ 60 ≤ (efr true 2).bytes.length ∧ ((efr true 2).bytes.length ≤ if beAt (efr
    true 2).bytes 12 2 = 33024 then 1522 else 1518) ∧ (w11.flag (Pg.eth 1) ETH.ETH_CFG.PROMISC = true ∨ beAt (efr true 2).bytes
    0 6 = w11.macAddr 1 ∨ beAt (efr true 2).bytes 0 6 = 2 ^ 48 - 1 ∨ beAt (efr true 2).bytes 0 1 % 2 = 1 ∧ w11.flag (Pg.eth 1)
    ETH.ETH_CFG.MCAST = true)))) ∧
    (w12.runs (Pg.eth 1) = true ∧ w12.flag (Pg.eth 1) ETH.ETH_CFG.EN = true ∧ w12.ethUp 1 = true ∧ w12.ethForwards 1 (efr true
    255).bytes = false ∧ ((efr true 255).ok = true ∧ 60 ≤ (efr true 255).bytes.length ∧ ((efr true 255).bytes.length ≤ if beAt
    (efr true 255).bytes 12 2 = 33024 then 1522 else 1518) ∧ (w12.flag (Pg.eth 1) ETH.ETH_CFG.PROMISC = true ∨ beAt (efr true
    255).bytes 0 6 = w12.macAddr 1 ∨ beAt (efr true 255).bytes 0 6 = 2 ^ 48 - 1 ∨ beAt (efr true 255).bytes 0 1 % 2 = 1 ∧
    w12.flag (Pg.eth 1) ETH.ETH_CFG.MCAST = true)) ∧ w12.storeBusy = true) ∧
    (w13.runs (Pg.eth 1) = true ∧ w13.flag (Pg.eth 1) ETH.ETH_CFG.EN = true ∧ w13.ethUp 1 = true ∧ w13.ethForwards 1 (efr false
    255).bytes = true ∧ (¬((efr false 255).ok = true ∧ 60 ≤ (efr false 255).bytes.length ∧ ((efr false 255).bytes.length ≤ if
    beAt (efr false 255).bytes 12 2 = 33024 then 1522 else 1518) ∧ (w13.flag (Pg.eth 1) ETH.ETH_CFG.PROMISC = true ∨ beAt (efr
    false 255).bytes 0 6 = w13.macAddr 1 ∨ beAt (efr false 255).bytes 0 6 = 2 ^ 48 - 1 ∨ beAt (efr false 255).bytes 0 1 % 2 = 1
    ∧ w13.flag (Pg.eth 1) ETH.ETH_CFG.MCAST = true))) ∧ ((List.filter (fun e => decide (w13.now < e.snd + (efr false 255).ago))
    w13.eths[1].fwd).length < 2)) ∧
    (w14.runs (Pg.eth 1) = true ∧ w14.flag (Pg.eth 1) ETH.ETH_CFG.EN = true ∧ w14.ethUp 1 = true ∧ w14.ethForwards 1 (efr false
    255).bytes = true ∧ (¬((efr false 255).ok = true ∧ 60 ≤ (efr false 255).bytes.length ∧ ((efr false 255).bytes.length ≤ if
    beAt (efr false 255).bytes 12 2 = 33024 then 1522 else 1518) ∧ (w14.flag (Pg.eth 1) ETH.ETH_CFG.PROMISC = true ∨ beAt (efr
    false 255).bytes 0 6 = w14.macAddr 1 ∨ beAt (efr false 255).bytes 0 6 = 2 ^ 48 - 1 ∨ beAt (efr false 255).bytes 0 1 % 2 = 1
    ∧ w14.flag (Pg.eth 1) ETH.ETH_CFG.MCAST = true))) ∧ (2 ≤ (List.filter (fun e => decide (w14.now < e.snd + (efr false
    255).ago)) w14.eths[1].fwd).length)) ∧
    (w16.runs (Pg.eth 1) = true ∧ w16.flag (Pg.eth 1) ETH.ETH_CFG.EN = true ∧ w16.ethUp 1 = false) := by
  and_intros <;> decide +kernel

end Store

namespace Recorder

def at4 (s : State) : State := {s with timeC := 4096, now := 4096}
def b0 : State := at4 <| ((boot.put (.recorder 1) (REC1.PROBE.GROUP.nth 4) 5).put (.recorder 1) (REC1.PROBE.GROUP.nth 5) 5) |>.put (.recorder 0) REC0.REC_STAT.STATE 1
def b1 (m : Nat) : State := (((b0.put (.recorder 1) REC1.MEAS_CFG.MODE m).put (.recorder 1) REC1.MEAS_CFG.CH 4).updRec (fun r => {r with lastChg := Vector.replicate 32 (some 3), rise := Vector.replicate 32 (some 2), period := Vector.replicate 32 (some 77), chgCnt := 4, chg := 0x10}))
def en (k c n : Nat) : RecEnt := {key := k, cls := c, words := List.replicate n 5, prim := false, at_ := 0}
def c0 (st : Nat) : State := ((b0.put (.recorder 0) REC0.REC_POST.POST_T 10).put (.recorder 0) REC0.REC_STAT.STATE st).put .arb ARB.STORE_CFG.CAP_BASE 0x300 |>.put (.recorder 1) (REC1.AP.EN.nth 2) 1 |>.put (.recorder 1) (REC1.AP.UNIT.nth 2) 3 |>.setWord (.adc 3) 0x400 0x77
def rd (p : Pg) (off : Nat) : RegD × Nat := (pgReg p off).getD (⟨0,0,0,0,false,[]⟩,0)
def rl (l : List RecEnt) (s : State) : State := s.updRec (fun r => {r with fifo := l, wptr := 0x3FFFFC, base := 0x2FFFF0, prim := some (1, 9, 5), winStart := 4, lossCnt := 0})
def g0 : State := ((c0 1).put (.recorder 3) REC3.BAON_CFG.ROLE 2).setWord (.recorder 2) 0xC0 0xE00000000 |>.setWord (.recorder 3) 0x58 0x45 |> rl [en 2 1 2]
def bg (m : Nat) : State := ((b1 m).put (.recorder 1) (REC1.PROBE.GROUP.nth 4) 8).updRec (fun r => {r with lvlTick := 7})
def w7 : State := ((b1 0).updRec (fun r => {r with fifo := [en 3 1 959]}))
def w9 : State := (c0 0)
def w11 : State := (c0 1)
def w13 : State := (rl [en 2 1 2, en 3 1 4, en 90 3 3] (c0 2) |> fun s => {s with timeC := 5000, now := 5000})
def w14 : State := (rl [en 2 1 2, en 3 1 4, en 90 3 3] (c0 2) |> fun s => {s with timeC := 5000, now := 5000, recd := {s.recd with taddr := some 0x3FFFFC}})
def w15 : State := {g0 with timeC := 512, now := 512}
def w17 : State := {(g0.setWord (.recorder 2) 0xC0 0) with timeC := 512, now := 512}
def w22 : State := {bg 3 with timeC := 2^33}
def w23 : State := (rl [en 2 1 2, en 3 1 4, en 90 3 3] (c0 2) |> fun s => {s with timeC := 5000, now := 5000, recd := {s.recd with prim := some (1,9,5000)}})
def w24 : State := {(g0.put (.recorder 0) REC0.REC_STAT.STATE 2).updRec (fun r => {r with prim := none}) with timeC := 512, now := 512}
def w25 : State := {((g0.put (.recorder 3) REC3.BAON_CFG.ROLE 1).put (.recorder 3) REC3.BAON_CFG.TX 1 |>.updRec (fun r => {r with emit := true, measuring := true, pulseC := some 3, prim := some (5, 777, 3)})) with timeC := 1008, now := 1008}

theorem witness_RecorderWindows :
    (w7.capturing = true ∧ w7.timeC % 2 ^ w7.get (Pg.recorder 0) REC0.REC_STAT.K_NOW = 0 ∧ w7.recd.chg ≠ (0 : BitVec 32) ∧ 959 ≤
    fifoWords w7.recd.fifo ∧ (∀ (j : Fin 4), w7.recd.aps[j].cur = none)) ∧
    (w22.runs (Pg.recorder 0) = true ∧ (∀ (l : Bool), w22.probeSource 4 ((w22.timeC * 64 + if w22.get (Pg.recorder 1)
    (REC1.PROBE.GROUP.nth (4 : Fin 32).val) ∈ [1, 2, 3, 4, 8, 11] then 7 % 64 else 0) % 64) = some l → l = true) ∧
    w22.recd.lvl.getLsbD (4 : Fin 32).val ≠ true ∧ w22.capturing = true ∧ w22.timeC % 2 ^ w22.get (Pg.recorder 0)
    REC0.REC_STAT.K_NOW = 0 ∧ fifoWords w22.recd.fifo + 14 ≤ 960 ∧ w22.get (Pg.recorder 0) REC0.REC_STAT.K_NOW < 16 ∧ w22.get
    (.recorder 0) REC0.REC_STAT.K_NOW + 1 < 16 ∧ (w22.timeC % 2 ^ 32 = 0 ∨ w22.get Pg.time TIME.TIME_STAT.STATE ≠ 0 ∧ (w22.timeC
    = w22.lastCor ∨ w22.timeC = w22.lastCor + 1))) := by
  and_intros <;> decide +kernel

theorem witness_RecorderCaptures_1 :
    (w9.opens Req.bar0 (Pg.recorder 0) = true ∧ (w9.recState = 0 ∨ w9.recState = 3) ∧ w9.storeOpen (w9.pageSecure (Pg.recorder 0))
    true (w9.get Pg.arb ARB.STORE_CFG.CAP_BASE * 4096) 4 ∧ (∀ (j : Fin 4), fld (w9.word (Pg.recorder 1) (512 + 8 * ↑j)) 34 32 <
    6) ∧ 0 < w9.get Pg.arb ARB.STORE_CFG.CAP_BASE ∧ w9.reaches Req.bar0 (Pg.recorder 1) true = true ∧ fld (564 : Word) 11 8 = 2
    ∧ fld (564 : Word) 7 0 < 192 ∧ w9.reaches Req.bar0 (Pg.recorder 2) true = true) ∧
    (w11.opens Req.bar0 (Pg.recorder 0) = true ∧ w11.recState = 1) ∧
    (w13.opens Req.bar0 (Pg.recorder 0) = true ∧ (w13.recState = 1 ∨ w13.recState = 2) ∧ w13.recState ≠ 1 ∧ w13.recUnitNow = false ∧
    (∀ (p : Nat × Nat × Nat), w13.recd.prim = some p → p.snd.snd ≠ w13.now) ∧ (w13.recd.base + 4 ≤ w13.recd.wptr ∧ w13.recd.wptr
    < 4194304 ∧ w13.recd.base + 4 + (List.flatMap (fun (e : RecEnt) => e.words) (if w13.recd.lossCnt = 0 then w13.recd.fifo else
    fifoIns { key := w13.timeC, cls := 1, words := [BitVec.ofNat 36 (6 * 2 ^ 32 + w13.timeC % 2 ^ 32), BitVec.ofNat 36 (min w13.recd.lossCnt (2 ^ 36 - 1))], prim := false, at_ := w13.now : RecEnt }
    w13.recd.fifo)).length ≤ 4194304 ∧ ∀ (j : Nat), j < (List.flatMap (fun (e : RecEnt) => e.words) (if w13.recd.lossCnt = 0
    then w13.recd.fifo else fifoIns { key := w13.timeC, cls := 1, words := [BitVec.ofNat 36 (6 * 2 ^ 32 + w13.timeC % 2 ^ 32), BitVec.ofNat 36 (min w13.recd.lossCnt (2 ^ 36 - 1))], prim := false, at_ := w13.now : RecEnt }
    w13.recd.fifo)).length → w13.recd.taddr ≠ some (if w13.recd.wptr + j < 4194304 then w13.recd.wptr + j else w13.recd.wptr + j
    - 4194304 + w13.recd.base + 4)) ∧ (∀ (e : RecEnt), (e ∈ if w13.recd.lossCnt = 0 then w13.recd.fifo else fifoIns { key := w13.timeC, cls := 1, words := [BitVec.ofNat 36 (6 * 2 ^ 32 + w13.timeC % 2 ^ 32), BitVec.ofNat 36 (min w13.recd.lossCnt (2 ^ 36 - 1))], prim := false, at_ := w13.now : RecEnt }
    w13.recd.fifo) → e.prim = false) ∧ (w13.storeOpen (w13.pageSecure (Pg.recorder 0)) true w13.recd.base 2 ∧ ∀ (j : Nat), j <
    (List.flatMap (fun (e : RecEnt) => e.words) (if w13.recd.lossCnt = 0 then w13.recd.fifo else fifoIns { key := w13.timeC, cls := 1, words := [BitVec.ofNat 36 (6 * 2 ^ 32 + w13.timeC % 2 ^ 32), BitVec.ofNat 36 (min w13.recd.lossCnt (2 ^ 36 - 1))], prim := false, at_ := w13.now : RecEnt }
    w13.recd.fifo)).length → worldAllows (w13.storeWorld (if w13.recd.wptr + j < 4194304 then w13.recd.wptr + j else
    w13.recd.wptr + j - 4194304 + w13.recd.base + 4)) (w13.pageSecure (Pg.recorder 0)) true = true) ∧ w13.runs (Pg.recorder 0) =
    true ∧ w13.recState = 2 ∧ w13.recd.prim = some (1, 9, 5) ∧ 9 + 64 * w13.get (Pg.recorder 0) REC0.REC_POST.POST_T ≤ 64 *
    w13.timeC ∧ w13.capturing = true ∧ w13.recWants = true ∧ takeTablet w13.recLimit 14 w13.recd.fifo ≠ [] ∧ (w13.recd.base + 4
    ≤ w13.recd.wptr ∧ w13.recd.wptr < 4194304 ∧ w13.recd.base + 4 + (List.flatMap (fun (e : RecEnt) => e.words) (takeTablet
    w13.recLimit 14 w13.recd.fifo)).length ≤ 4194304 ∧ ∀ (j : Nat), j < (List.flatMap (fun (e : RecEnt) => e.words) (takeTablet
    w13.recLimit 14 w13.recd.fifo)).length → w13.recd.taddr ≠ some (if w13.recd.wptr + j < 4194304 then w13.recd.wptr + j else
    w13.recd.wptr + j - 4194304 + w13.recd.base + 4)) ∧ (∀ (e : RecEnt), e ∈ takeTablet w13.recLimit 14 w13.recd.fifo → e.prim =
    false) ∧ w13.recd.lossCnt = 0 ∧ (w13.storeOpen (w13.pageSecure (Pg.recorder 0)) true w13.recd.base 2 ∧ ∀ (j : Nat), j <
    (List.flatMap (fun (e : RecEnt) => e.words) (takeTablet w13.recLimit 14 w13.recd.fifo)).length → worldAllows (w13.storeWorld
    (if w13.recd.wptr + j < 4194304 then w13.recd.wptr + j else w13.recd.wptr + j - 4194304 + w13.recd.base + 4))
    (w13.pageSecure (Pg.recorder 0)) true = true) ∧ w13.reaches Req.bar0 (Pg.recorder 0) false = true) ∧
    (w13.storeOpen (w13.pageSecure (Pg.recorder 0)) false (w13.get (Pg.recorder 0) REC0.RD_ADDR.ADDR) 1 ∧ (w13.reaches Req.bar0
    (Pg.recorder (if false = true then 2 else 1)) true = true) ∧ 152 % 8 = 0 ∧ 152 < 4096 ∧ 64 ≤ 152 ∧ (pgReg (Pg.recorder (if
    false = true then 2 else 1)) 152 = some ((rd (Pg.recorder (if false = true then 2 else 1)) 152).fst, (rd (Pg.recorder (if
    false = true then 2 else 1)) 152).snd)) ∧ (w13.carriesBad (Pg.recorder (if false = true then 2 else 1)) (rd (Pg.recorder (if
    false = true then 2 else 1)) 152).fst (rd (Pg.recorder (if false = true then 2 else 1)) 152).snd (564 : Word) = false)) ∧
    (w14.runs (Pg.recorder 0) = true ∧ w14.recState = 2 ∧ w14.recd.prim = some (1, 9, 5) ∧ 9 + 64 * w14.get (Pg.recorder 0)
    REC0.REC_POST.POST_T ≤ 64 * w14.timeC ∧ w14.recd.lossCnt = 0 ∧ w14.recd.taddr = some w14.recd.wptr ∧ w14.recd.base + 1 <
    w14.recd.wptr ∧ w14.recd.wptr < 4194304 ∧ (∀ (e : RecEnt), e ∈ w14.recd.fifo.head? → e.words ≠ []) ∧ w14.recd.fifo ≠ [] ∧
    (w14.storeOpen (w14.pageSecure (Pg.recorder 0)) true w14.recd.base 2 ∧ ∀ (j : Nat), j < (List.flatMap (fun (e : RecEnt) =>
    e.words) []).length → worldAllows (w14.storeWorld (if w14.recd.wptr + j < 4194304 then w14.recd.wptr + j else w14.recd.wptr
    + j - 4194304 + w14.recd.base + 4)) (w14.pageSecure (Pg.recorder 0)) true = true)) ∧
    (w23.opens Req.bar0 (Pg.recorder 0) = true ∧ w23.recState = 2 ∧ w23.recd.prim = some (1, 9, 5000) ∧ 1 < 4 ∧ 5000 = w23.now ∧
    w23.flag (Pg.recorder 0) REC0.REC_CFG.SEQ = false) := by
  and_intros <;> decide +kernel

theorem witness_RecorderCaptures_2 :
    (w15.capturing = true ∧ w15.runs (Pg.recorder 3) = true ∧ w15.get (Pg.recorder 3) REC3.BAON_CFG.ROLE = 2 ∧ w15.flag (Pg.recorder
    3) REC3.BAON_CFG.LOOP_EN = false ∧ w15.recd.clkLost = false ∧ (∀ (j : Fin 4), fld (w15.word (Pg.recorder 2) (64 + 64 * ↑j))
    35 35 = 1 ∧ fld (w15.word (Pg.recorder 2) (64 + 64 * ↑j)) 34 32 = 6 ↔ j = 2) ∧ w15.recd.fired[2] = none ∧ w15.flag
    (Pg.recorder 0) REC0.REC_CFG.SEQ = false ∧ w15.recState = 1 ∧ w15.runs (Pg.recorder 0) = true) ∧
    (w17.runs (Pg.recorder 3) = true ∧ w17.get (Pg.recorder 3) REC3.BAON_CFG.ROLE = 2 ∧ (w17.flag (Pg.recorder 3)
    REC3.BAON_CFG.LOOP_EN = true ∨ w17.recd.clkLost = true ∨ ∀ (j : Fin 4), ¬(fld (w17.word (Pg.recorder 2) (64 + 64 * ↑j)) 35
    35 = 1 ∧ fld (w17.word (Pg.recorder 2) (64 + 64 * ↑j)) 34 32 = 6))) ∧
    (w24.capturing = true ∧ w24.runs (Pg.recorder 3) = true ∧ w24.get (Pg.recorder 3) REC3.BAON_CFG.ROLE = 2 ∧ w24.flag (Pg.recorder
    3) REC3.BAON_CFG.LOOP_EN = false ∧ w24.recd.clkLost = false ∧ (∀ (j : Fin 4), fld (w24.word (Pg.recorder 2) (64 + 64 * ↑j))
    35 35 = 1 ∧ fld (w24.word (Pg.recorder 2) (64 + 64 * ↑j)) 34 32 = 6 ↔ j = 2) ∧ w24.recd.fired[2] = none ∧ w24.flag
    (Pg.recorder 0) REC0.REC_CFG.SEQ = false ∧ w24.recState = 2 ∧ w24.recd.prim = none) ∧
    (w25.recd.emit = true ∧ baonEdge w25.timeC = true ∧ w25.recd.prim = some (5, 777, 3) ∧ 3 + 2 ≤ w25.now ∧ w25.get (Pg.recorder 3)
    REC3.BAON_CFG.ROLE = 1 ∧ w25.flag (Pg.recorder 3) REC3.BAON_CFG.TX = true ∧ w25.opens Req.bar0 (Pg.recorder 3) = true ∧
    w25.recd.measuring = true ∧ 777 ≤ 64000 ∧ w25.recd.pulseC = some 3 ∧ 3 + 1000 ≤ w25.timeC) := by
  and_intros <;> decide +kernel

end Recorder

namespace Can

def cf (ide fdf : Bool) (id dlc : Nat) (d : List (BitVec 8)) : CanFrame := {ide := ide, fdf := fdf, brs := fdf, esi := false, rtr := false, id := id, dlc := dlc, data := d, ago := 5}
def c0 : State := {((boot.put (.can 2) CAN.CAN_MODE.MODE 1).setWord (.can 2) 0x98 0x800000123 |>.setWord (.can 2) 0xC8 0x800000124).updCan 2 (fun x => {x with onBus := true, restart := true}) with timeC := 50000}
def h1 : CanRec := ⟨0x105, [4,5,6,7,8]⟩
def t1 : State := (((c0.txPut 2 3 1).txPut 2 5 1).setWord (.can 2) (0x700) 0x55).setWord (.can 2) 0x900 0x54
def w2 : State := ((c0.put (.can 2) CAN.TT_CFG.ROLE 1).put (.can 2) CAN.ERR_STAT.RX_ERR 128 |>.put (.can 2) CAN.RX_STAT.WIDX 255
  |>.updCan 2 (fun x => {x with held := [h1,h1,h1,h1]}))
def w6 : State := ((c0.put (.can 2) CAN.ERR_STAT.STATE 2).put (.can 2) CAN.CAN_MODE.BOFF_AUTO 0 |>.updCan 2 (fun x => {x with recovering := true}))
def w7 : State := ((c0.put (.can 2) CAN.ERR_STAT.TX_ERR 256).put (.can 2) CAN.SLP_STAT.SSTATE 1)
def w8 : State := ((c0.put (.can 2) CAN.CAN_MODE.MODE 0).put (.can 2) CAN.SLP_STAT.SSTATE 2)
def w9 : State := ((c0.put (.can 2) CAN.CAN_MODE.MODE 0).put (.can 2) CAN.SLP_STAT.SSTATE 2 |>.updCan 2 (fun x => {x with settled := true}))
def w10 : State := ((c0.put (.can 2) CAN.CAN_MODE.MODE 0).put (.can 2) CAN.SLP_STAT.SSTATE 3 |>.updCan 2 (fun x => {x with settled := true}))
def w15 : State := ((t1.txPut 2 5 2).updCan 2 (fun x => {x with active := some (5,7,8000)}))
def w19 : State := (t1.updCan 2 (fun x => {x with sleepPend := true, toConfig := true, active := some (8,7,8000)}))
def w20 : State := ((t1.put (.can 2) CAN.TT_STAT.TSTATE 2).put (.can 2) CAN.TT_CYC.CC_MAX 3 |>.updCan 2 (fun x => {x with refJ := 7}))
def w21 : State := ((t1.put (.can 2) CAN.TT_CFG.ROLE 1).put (.can 2) CAN.TT_CYC.CC_MAX 3 |>.updCan 2 (fun x => {x with refJ := 7}))
def w23 : State := (ticks 1000000000 ((t1.put (.can 2) CAN.TT_CFG.ROLE 1).txPut 2 7 2 |>.updCan 2 (fun x => {x with refJ := 7, ref0 := some 100})))
def w27 : State := (((t1.put (.can 2) CAN.CAN_MODE.MODE 2).txPut 2 5 2).put (.can 2) CAN.TDC_CFG.EN 1 |>.updCan 2 (fun x => {x with active := some (5,7,8000)}))
def w29 : State := ((t1.txPut 2 7 2).updCan 2 (fun x => {x with refNext := true, refJ := 5, active := some (7,7,8000)}))

theorem witness_CanReception_1 :
    w2.runs (Pg.can 2) = true ∧ ((w2.canMode 2 = 1 ∨ w2.canMode 2 = 2) ∧ w2.cans[2].onBus = true ∨ w2.canMode 2 = 0 ∧
    w2.cans[2].left = some (60000, 1) ∧ w2.timeC - (cf false false 291 1 [(92 : BitVec 8)]).ago < 60000) ∧ w2.slp 2 = 0 ∧
    w2.canErr 2 ≠ 2 ∧ (cf false false 291 1 [(92 : BitVec 8)]).dlc ≤ 15 ∧ (cf false false 291 1 [(92 : BitVec 8)]).data.length =
    canLen (cf false false 291 1 [(92 : BitVec 8)]).fdf (cf false false 291 1 [(92 : BitVec 8)]).rtr (cf false false 291 1 [(92
    : BitVec 8)]).dlc ∧ ((cf false false 291 1 [(92 : BitVec 8)]).id < if (cf false false 291 1 [(92 : BitVec 8)]).ide = true
    then 2 ^ 29 else 2 ^ 11) ∧ ((cf false false 291 1 [(92 : BitVec 8)]).fdf = false ∨ w2.flag (Pg.can 2) CAN.CAN_MODE.FD_EN =
    true) ∧ w2.cans[2].held = [h1, h1, h1, h1] ∧ h1.rest.length ≤ 31 ∧ w2.storeOpen (w2.pageSecure (Pg.can 2)) true (458752 +
    8192 * (2 : Fin 4).val + 32 * w2.get (Pg.can 2) CAN.RX_STAT.WIDX) 32 ∧ w2.reaches Req.bar0 (Pg.can 2) false = true ∧
    w2.storeOpen (w2.pageSecure (Pg.can 2)) false (458752 + 8192 * (2 : Fin 4).val + w2.get (Pg.can 2) CAN.RD_ADDR.ADDR) 1 ∧
    w2.canMode 2 ≠ 0 ∧ w2.cans[2].onBus = true ∧ 1 ≤ (3 : Fin 8).val ∧ (3 : Fin 8).val ≤ 6 := by
  decide +kernel

theorem witness_CanModes :
    (w6.runs (Pg.can 2) = true ∧ w6.canErr 2 = 2 ∧ w6.cans[2].recovering = true ∧ w6.opens Req.bar0 (Pg.can 2) = true ∧ w6.slp 2 = 0
    ∧ w6.flag (Pg.can 2) CAN.SLP_CFG.EN = true) ∧
    (w7.reaches Req.bar0 (Pg.can 2) true = true ∧ fld (4658 : Word) 1 0 < 3 ∧ w7.runs (Pg.can 2) = true ∧ w7.canMode 2 ≠ 0 ∧
    w7.canErr 2 ≠ 2 ∧ w7.slp 2 ≤ 1 ∧ w7.get (Pg.can 2) CAN.ERR_STAT.TX_ERR = 256 ∧ w7.opens Req.bar0 (Pg.can 2) = true ∧ (w7.slp
    2 ≠ 0 ∨ w7.flag (Pg.can 2) CAN.SLP_CFG.EN = false) ∧ w7.slp 2 ≠ 2 ∧ w7.slp 2 = 1) ∧
    (w8.opens Req.bar0 (Pg.can 2) = true ∧ w8.slp 2 = 2 ∧ (true = false ∨ w8.cans[2].settled = false)) ∧
    (w9.slp 2 = 2 ∧ true = true ∧ w9.cans[2].settled = true) ∧
    (w10.slp 2 = 3) := by
  and_intros <;> decide +kernel

theorem witness_CanTransmission_1 :
    (t1.runs (Pg.can 2) = true ∧ t1.canMode 2 = 1 ∧ t1.cans[2].onBus = true ∧ t1.canErr 2 ≠ 2 ∧ t1.slp 2 = 0 ∧ t1.cans[2].active =
    none ∧ ((5 : Fin 9).val < 8 ∧ t1.txState 2 (5 : Fin 9).val = 1 ∨ 5 = 8 ∧ t1.cans[2].sleepPend = true) ∧ (∀ (k : Fin 9), ↑k <
    8 ∧ t1.txState 2 ↑k = 1 ∨ k = 8 ∧ t1.cans[2].sleepPend = true → arbKey (t1.txFrame 2 (5 : Fin 9).val) < arbKey (t1.txFrame 2
    ↑k) ∨ arbKey (t1.txFrame 2 (5 : Fin 9).val) = arbKey (t1.txFrame 2 ↑k) ∧ 5 ≤ k)) ∧
    (w15.opens Req.bar0 (Pg.can 2) = true ∧ w15.cans[2].active = some ((5 : Fin 9).val, 7, 8000) ∧ w15.cans[2].toConfig = false ∧ (5
    ≠ 7 ∨ w15.cans[2].refNext = false) ∧ 1 ≤ 3 ∧ 3 ≤ 6 ∧ w15.canErr 2 ≠ 2 ∧ w15.canMode 2 ≠ 2 ∧ w15.canIsRef 2 (w15.txFrame 2 (5
    : Fin 9).val) = false ∧ (w15.canIsCommit 2 (w15.txFrame 2 (5 : Fin 9).val) = false ∨ w15.slp 2 ≠ 0) ∧ w15.flag (Pg.can 2)
    CAN.CAN_MODE.ECHO_OWN = true ∧ w15.cans[2].held.length < 4) ∧
    (w19.cans[2].active = some ((8 : Fin 9).val, 7, 8000) ∧ w19.cans[2].toConfig = true ∧ (8 ≠ 7 ∨ w19.cans[2].refNext = false)) ∧
    (w20.get (Pg.can 2) CAN.TT_CFG.ROLE = 2 ∧ w20.get (Pg.can 2) CAN.TT_STAT.TSTATE = 2 ∧ w20.cans[2].refMark + 3 * w20.get (Pg.can
    2) CAN.TT_CYC.CYCLE ≤ w20.timeC) ∧
    (w21.runs (Pg.can 2) = true ∧ w21.get (Pg.can 2) CAN.TT_CFG.ROLE = 1 ∧ (w21.cans[2].ref0 = none ∧ w21.txState 2 7 ≠ 1 ∨
    w21.cans[2].ref0 = some 100 ∧ 100 + w21.cans[2].refJ * w21.get (Pg.can 2) CAN.TT_CYC.CYCLE ≤ w21.timeC) ∧ w21.txState 2 7 ≠
    2) ∧
    (w23.runs (Pg.can 2) = true ∧ w23.get (Pg.can 2) CAN.TT_CFG.ROLE = 1 ∧ w23.cans[2].ref0 = some 100 ∧ 100 + w23.cans[2].refJ *
    w23.get (Pg.can 2) CAN.TT_CYC.CYCLE ≤ w23.timeC ∧ w23.txState 2 7 = 2) ∧
    (w27.cans[2].active = some ((5 : Fin 9).val, 7, 8000) ∧ w27.cans[2].toConfig = false ∧ (5 ≠ 7 ∨ w27.cans[2].refNext = false) ∧
    w27.canMode 2 = 2) ∧
    (w29.cans[2].active = some (7, 7, 8000) ∧ 7 = 7 ∧ w29.cans[2].toConfig = false ∧ w29.cans[2].refNext = true) := by
  and_intros <;> decide +kernel

end Can

namespace Arithmetic

def up (e : Fin 13) (f : Engine → Engine) (s : State) : State := s.updEng e f
def base : State := (boot.put (.ae 3) AE.ENG_STAT.STATE 1).put (.ae 3) AE.ENG_STAT.ROT 5
def wd (v : Int) : Word := BitVec.ofInt 36 v
def eg (e : Fin 13) (a b c : Int) : State := base |> up e (fun x => {x with pc := 0x100, acc := (x.acc.set 2 (BitVec.ofInt 88 (a * b * 77))).set 3 (BitVec.ofInt 88 (-a * 5)), flags := {z := true, n := false, c := true, v := true, s := false}}) |> fun s => (((s.gSet e 17 (wd a)).gSet e 18 (wd b)).gSet e 19 (wd c)).gSet e 3 (wd c)
def w28 : State := (up 3 (fun x => {x with sbuf := [⟨true, 5, [9]⟩], stack := [.loop 0xF0 0x101 3 false]}) (eg 3 (77) (-8) 3))

theorem witness_EngineArithmetic :
    w28.engIdle 3 = true ∧ w28.cachedWord 3 w28.engs[3].pc = none ∧ progOk 3 w28.engs[3].pc = true ∧ w28.bodyEnd 3 w28.engs[3].pc =
    false ∧ w28.gateShut 3 w28.engs[3].pc (w28.engs[3].pc + 1) = false ∧ 3 < gCount 3 ∧ 2 < gCount 3 ∧ (if false = true then 0 <
    gCount 3 else 0 < 36) ∧ 3 < accCount 3 ∧ 0 < 64 ∧ 2 < 4 ∧ 3 + 1 < gCount 3 := by
  decide +kernel

end Arithmetic

namespace Memory

def up (e : Fin 13) (f : Engine → Engine) (s : State) : State := s.updEng e f
def base : State := (boot.put (.ae 3) AE.ENG_STAT.STATE 1).put (.ae 3) AE.ENG_STAT.ROT 5
def wd (v : Int) : Word := BitVec.ofInt 36 v
def eg (e : Fin 13) (a b c : Int) : State := base |> up e (fun x => {x with pc := 0x100, acc := (x.acc.set 2 (BitVec.ofInt 88 (a * b * 77))).set 3 (BitVec.ofInt 88 (-a * 5)), flags := {z := true, n := false, c := true, v := true, s := false}}) |> fun s => (((s.gSet e 17 (wd a)).gSet e 18 (wd b)).gSet e 19 (wd c)).gSet e 3 (wd c)
def P0 : Ptr := ⟨0x123, .modulo, 0x7FE, 4⟩
def P1 : Ptr := ⟨0x123, .bitrev, 0x010, 5⟩
def P2 : Ptr := ⟨0x0, .linear, 0x7FE, 0⟩
def ptrs (s : State) (e : Fin 13) (xa ya ka : Nat) : State := up e (fun x => {x with ptr := ((x.ptr.set 2 ⟨BitVec.ofNat 24 xa, .linear, 3, 0⟩).set 11 ⟨BitVec.ofNat 24 ya, .modulo, 0x7FF, 6⟩).set 16 ⟨BitVec.ofNat 24 ka, .linear, 1, 0⟩}) s
def mm (e : Fin 13) (a b c : Int) (xa ya : Nat) : State := ptrs (eg e a b c) e xa ya 0x44 |>.ramPut e 0 0x44 0x7654 |>.ramPut e 1 xa 0x11 |>.ramPut e 2 ya 0x22 |>.ramPut e 1 (xa+1) 0x12 |>.ramPut e 2 (ya+2) 0x23
def w7 : State := (up 3 (fun x => {x with stack := [.loop 4 5 6 false], sbuf := [⟨true,5,[6]⟩,⟨false,0x54,[8]⟩]}) (mm 3
  34359738367 34359738367 5 0x55 0x77))
def w9 : State := (mm 3 34359738367 34359738367 5 0x40055 0x77)
def w10 : State := (mm 3 34359738367 34359738367 5 0x40055 0x400F0C)
def w19 : State := (mm 12 34359738367 34359738367 5 0x55 0x77)

theorem witness_EngineMemory :
    (P0.mode = PtrMode.modulo ∧ P0.len.toNat + 1 ≤ 2 ^ (3 : Fin 13).val ∧ 2 ^ (3 : Fin 13).val < 2 * (P0.len.toNat + 1)) ∧
    (w7.engIdle 3 = true ∧ w7.cachedWord 3 w7.engs[3].pc = none ∧ progOk 3 w7.engs[3].pc = true ∧ w7.bodyEnd 3 w7.engs[3].pc = false
    ∧ w7.gateShut 3 w7.engs[3].pc (w7.engs[3].pc + 1) = false ∧ 17 < gCount 3 ∧ w7.engs[3].stack = [LoopEnt.loop 4 5 6 false]) ∧
    (w9.engIdle 3 = true ∧ w9.cachedWord 3 w9.engs[3].pc = none ∧ progOk 3 w9.engs[3].pc = true ∧ w9.bodyEnd 3 w9.engs[3].pc = false
    ∧ w9.gateShut 3 w9.engs[3].pc (w9.engs[3].pc + 1) = false ∧ 17 < gCount 3 ∧ 2 < 8 ∧ 1 < 4 ∧ (1 < 2 → (0 : BitVec 18) = (0 :
    BitVec 18)) ∧ (1 = 3 → 2 = 0) ∧ false = false) ∧
    ((262144 ≤ if 1 ≤ 1 then w9.pAddr 3 (2 + 8 * b2n false) else if 1 = 2 then ((Int.ofNat (w9.pAddr 3 (2 + 8 * b2n false)) +
    BitVec.toInt (0 : BitVec 18)) % (2 : Int) ^ 24).toNat else BitVec.toNat (0 : BitVec 18)) ∧ ((if 1 ≤ 1 then w9.pAddr 3 (2 + 8
    * b2n false) else if 1 = 2 then ((Int.ofNat (w9.pAddr 3 (2 + 8 * b2n false)) + BitVec.toInt (0 : BitVec 18)) % (2 : Int) ^
    24).toNat else BitVec.toNat (0 : BitVec 18)) < 524288) ∧ (worldAllows (w9.storeWorld ((if 1 ≤ 1 then w9.pAddr 3 (2 + 8 * b2n
    false) else if 1 = 2 then ((Int.ofNat (w9.pAddr 3 (2 + 8 * b2n false)) + BitVec.toInt (0 : BitVec 18)) % (2 : Int) ^
    24).toNat else BitVec.toNat (0 : BitVec 18)) - 262144)) (w9.secure (engReq 3)) false = true) ∧ (worldAllows (w9.storeWorld
    ((if 1 ≤ 1 then w9.pAddr 3 (2 + 8 * b2n false) else if 1 = 2 then ((Int.ofNat (w9.pAddr 3 (2 + 8 * b2n false)) +
    BitVec.toInt (0 : BitVec 18)) % (2 : Int) ^ 24).toNat else BitVec.toNat (0 : BitVec 18)) - 262144)) (w9.secure (engReq 3))
    true = true) ∧ w9.engs[3].sbuf.length ≤ 1 ∧ 7 < 18 ∧ isPe 3 = false) ∧
    (P2.mode = PtrMode.linear) ∧
    (w10.engIdle 3 = true ∧ w10.cachedWord 3 w10.engs[3].pc = none ∧ progOk 3 w10.engs[3].pc = true ∧ w10.bodyEnd 3 w10.engs[3].pc =
    false ∧ w10.gateShut 3 w10.engs[3].pc (w10.engs[3].pc + 1) = false ∧ 17 < gCount 3 ∧ 3 < 8 ∧ 1 < 4 ∧ (1 < 2 → (0 : BitVec
    18) = (0 : BitVec 18)) ∧ (1 = 3 → 3 = 0) ∧ true = true) ∧
    ((4194304 ≤ if 1 ≤ 1 then w10.pAddr 3 (3 + 8 * b2n true) else if 1 = 2 then ((Int.ofNat (w10.pAddr 3 (3 + 8 * b2n true)) +
    BitVec.toInt (0 : BitVec 18)) % (2 : Int) ^ 24).toNat else BitVec.toNat (0 : BitVec 18)) ∧ (engReach 3 (8 * ((if 1 ≤ 1 then
    w10.pAddr 3 (3 + 8 * b2n true) else if 1 = 2 then ((Int.ofNat (w10.pAddr 3 (3 + 8 * b2n true)) + BitVec.toInt (0 : BitVec
    18)) % (2 : Int) ^ 24).toNat else BitVec.toNat (0 : BitVec 18)) - 4194304)) = true) ∧ 1 ≠ 0 ∧ w10.engs[3].sbuf.length ≤ 1) ∧
    (w19.engIdle 12 = true ∧ w19.cachedWord 12 w19.engs[12].pc = none ∧ progOk 12 w19.engs[12].pc = true ∧ w19.bodyEnd 12
    w19.engs[12].pc = false ∧ w19.gateShut 12 w19.engs[12].pc (w19.engs[12].pc + 1) = false ∧ 1 < 4 ∧ 17 < 32 ∧ 18 < 32 ∧ 0 < 3
    ∧ (0 = 0 ∨ 18 = 0) ∧ (false = true → isPe 12 = true)) ∧
    ((81 = 0 ∨ 64 ≤ 81 ∧ 81 < 256 ∧ (false = true → 192 ≤ 81 → bit 81 1 = false)) ∧ (154 = 0 ∨ 64 ≤ 154 ∧ 154 < 256 ∧ (false = true →
    192 ≤ 154 → bit 154 1 = false)) ∧ w19.engs[12].sbuf = [] ∧ ((81 / 64 : Nat) ≠ 0 → ∀ (i : Nat), (i < if false = true then 4
    else 1) → (w19.pAddr 12 ((81 / 8 : Nat) % 8) + i < if isPe 12 = true then 32768 else 8192) ∧ w19.dataTrap 12 false
    (w19.pAddr 12 ((81 / 8 : Nat) % 8) + i) = none) ∧ ((154 / 64 : Nat) ≠ 0 → ∀ (i : Nat), (i < if false = true then 4 else 1) →
    (w19.pAddr 12 (8 + (154 / 8 : Nat) % 8) + i < if isPe 12 = true then 32768 else 8192) ∧ w19.dataTrap 12 true (w19.pAddr 12
    (8 + (154 / 8 : Nat) % 8) + i) = none) ∧ (0 ≠ 0 → progOk 12 (w19.pAddr 12 (15 + 0)) = true) ∧ 1 < 2) ∧
    ((true = true → isPe 12 = true) ∧ (81 = 0 ∨ 64 ≤ 81 ∧ 81 < 256 ∧ (true = true → 192 ≤ 81 → bit 81 1 = false)) ∧ (154 = 0 ∨ 64 ≤
    154 ∧ 154 < 256 ∧ (true = true → 192 ≤ 154 → bit 154 1 = false)) ∧ ((81 / 64 : Nat) ≠ 0 → ∀ (i : Nat), (i < if true = true
    then 4 else 1) → (w19.pAddr 12 ((81 / 8 : Nat) % 8) + i < if isPe 12 = true then 32768 else 8192) ∧ w19.dataTrap 12 false
    (w19.pAddr 12 ((81 / 8 : Nat) % 8) + i) = none) ∧ ((154 / 64 : Nat) ≠ 0 → ∀ (i : Nat), (i < if true = true then 4 else 1) →
    (w19.pAddr 12 (8 + (154 / 8 : Nat) % 8) + i < if isPe 12 = true then 32768 else 8192) ∧ w19.dataTrap 12 true (w19.pAddr 12
    (8 + (154 / 8 : Nat) % 8) + i) = none) ∧ 0 = 0 ∧ 17 < gCount 12) ∧
    (2 < 8 ∧ 2 < 4 ∧ (2 < 2 → (262143 : BitVec 18) = (0 : BitVec 18)) ∧ (2 = 3 → 2 = 0) ∧ (∀ (i : Nat), i < 1 → ((if 2 ≤ 1 then
    w19.pAddr 12 (2 + 8 * b2n false) else if 2 = 2 then ((Int.ofNat (w19.pAddr 12 (2 + 8 * b2n false)) + BitVec.toInt (262143 :
    BitVec 18)) % (2 : Int) ^ 24).toNat else BitVec.toNat (262143 : BitVec 18)) + i < if isPe 12 = true then 32768 else 8192) ∧
    w19.dataTrap 12 false ((if 2 ≤ 1 then w19.pAddr 12 (2 + 8 * b2n false) else if 2 = 2 then ((Int.ofNat (w19.pAddr 12 (2 + 8 *
    b2n false)) + BitVec.toInt (262143 : BitVec 18)) % (2 : Int) ^ 24).toNat else BitVec.toNat (262143 : BitVec 18)) + i) =
    none) ∧ w19.engs[12].stack = [] ∧ 24 ≤ 32) ∧
    (32 < 24 + 4 * accCount 12 ∧ 32 % 4 ≠ 3 ∧ 2 < 18 ∧ (2 = 0 ∧ (7 : BitVec 12) = (0 : BitVec 12) ∨ 2 = 1 ∨ 2 = 2 ∧ 1 ≤ BitVec.toNat
    (7 : BitVec 12) ∧ BitVec.toNat (7 : BitVec 12) ≤ 12) ∧ (progOk 12 (w19.pAddr 12 (if false = true then 17 else 16)) = true) ∧
    (progRam 12 (w19.pAddr 12 (if false = true then 17 else 16)) = true) ∧ P1.mode = PtrMode.bitrev) ∧
    (1 ≤ P1.len.toNat ∧ P1.len.toNat ≤ 12) := by
  and_intros <;> decide +kernel

end Memory

namespace Flow

def up (e : Fin 13) (f : Engine → Engine) (s : State) : State := s.updEng e f
def base : State := (boot.put (.ae 3) AE.ENG_STAT.STATE 1).put (.ae 3) AE.ENG_STAT.ROT 5
def wd (v : Int) : Word := BitVec.ofInt 36 v
def eg (e : Fin 13) (a b c : Int) : State := base |> up e (fun x => {x with pc := 0x100, acc := (x.acc.set 2 (BitVec.ofInt 88 (a * b * 77))).set 3 (BitVec.ofInt 88 (-a * 5)), flags := {z := true, n := false, c := true, v := true, s := false}}) |> fun s => (((s.gSet e 17 (wd a)).gSet e 18 (wd b)).gSet e 19 (wd c)).gSet e 3 (wd c)
def sv : Saved := ⟨0x55, ⟨true,false,true,false,true⟩, [.ret 5], none⟩
def lp (a b n : Nat) (r : Bool) : LoopEnt := .loop a b n r
def prog (e : Fin 13) (a : Nat) (w : Word) (s : State) : State := s.ramPut e 0 a w
def qs (q : QId) (l : List (List Word)) (s : State) : State := fr (s.qSet q l)
def w0 : State := (qs (.pq 13) [[1,2,3,4],[5,6,7,8]] (eg 3 77 (-8) 3))
def w1 : State := ((eg 3 77 (-8) 3))
def w3 : State := (qs (.dq 13) [[1,2,3,4],[5,6,7,8]] (eg 3 77 (-8) 3))
def w4 : State := (qs (.dq 13) [[1,2,3,4],[5,6,7,8],[1,2,3,4],[5,6,7,8]] (eg 3 77 (-8) 3))
def w5 : State := (qs (.dq 13) [[1,2,3,4],[5,6,7,8],[1,2,3,4],[5,6,7,8]] (eg 3 77 (-8) 3))
def w6 : State := (up 3 (fun x => {x with waiting := some (true,1)}) (eg 3 77 (-8) 3))
def w10 : State := (eg 3 77 (-8) 3)
def w28 : State := (up 3 (fun x => {x with stack := [lp 0xF0 0x100 3 true], sbuf := [⟨true,5,[7]⟩] }) (eg 3 77 (-8) 3))
def w30 : State := (up 3 (fun x => {x with stack := [lp 0xF0 0x100 1 true], sbuf := [⟨true,5,[7]⟩] }) (eg 3 77 (-8) 3))
def w34 : State := (up 3 (fun x => {x with stack := (List.replicate 16 (.ret 0x300)), sbuf := [⟨true,5,[7]⟩] }) (eg 3 77 (-8)
  3))
def w36 : State := (eg 3 77 (-8) 3)
def w40 : State := (up 3 (fun x => {x with running := some ⟨500, 3⟩, saved := some sv, pc := 0x70000}) (eg 3 77 (-8) 3))
def w83 : State := (up 12 (fun x => {x with running := some ⟨50000000, 3⟩, saved := some sv}) (eg 12 77 (-8) 3))
def w84 : State := (prog 12 0x101 0x414512000 (eg 12 77 (-8) 3))
def w87 : State := (prog 12 0x101 0xA40000000 (eg 12 77 (-8) 3))
def w88 : State := (up 3 (fun x => {x with running := some ⟨9, 2⟩}) ((((eg 3 77 (-8) 3).put (.ax 14) AX.AX_CFG.TYPE 1).put (.ax
  14) AX.AX_STATE.STATE 1).qSet (.pq 14) [[9,8,7,6]]))
def w89 : State := (up 3 (fun x => {x with running := some ⟨9, 2⟩}) ((((eg 3 77 (-8) 3).put (.ax 14) AX.AX_CFG.TYPE 2).put (.ax
  14) AX.AX_STATE.STATE 1).qSet (.pq 14) [[9,8,7,6]]))

theorem witness_EngineFlow_1 :
    ((w0.engIdle 3 = true ∧ w0.cachedWord 3 w0.engs[3].pc = none ∧ progOk 3 w0.engs[3].pc = true) ∧ w0.bodyEnd 3 w0.engs[3].pc =
    false ∧ w0.gateShut 3 w0.engs[3].pc (w0.engs[3].pc + 1) = false ∧ w0.queuesFresh ∧ engQueue 3 false 1 = some (QId.pq 13) ∧ 4
    + qWords (QId.pq 13) ≤ gCount 3 ∧ w0.qGet (QId.pq 13) = [[(1 : Word), (2 : Word), (3 : Word), (4 : Word)], [(5 : Word), (6 :
    Word), (7 : Word), (8 : Word)]] ∧ [(1 : Word), (2 : Word), (3 : Word), (4 : Word)].length = qWords (QId.pq 13) ∧ 4 < gCount
    3 ∧ (if false = true then (w0.qGet (QId.pq 13)).length < qDepth (QId.pq 13) else w0.qGet (QId.pq 13) ≠ []) ∧ 0 < 12 ∧ [true,
    w0.engs[3].flags.z, !w0.engs[3].flags.z, w0.engs[3].flags.n, !w0.engs[3].flags.n, !w0.engs[3].flags.n &&
    !w0.engs[3].flags.z, w0.engs[3].flags.n || w0.engs[3].flags.z, w0.engs[3].flags.c, !w0.engs[3].flags.c, w0.engs[3].flags.v,
    !w0.engs[3].flags.v, w0.engs[3].flags.s].getD 0 false = true ∧ (progOk 3 (BitVec.toNat (512 : BitVec 20)) = true ∧
    w0.gateShut 3 w0.engs[3].pc (BitVec.toNat (512 : BitVec 20)) = false ∧ (isPe 3 = true ∨ w0.engs[3].running = none ∨
    BitVec.toNat (512 : BitVec 20) < 32784 ∨ 32789 < BitVec.toNat (512 : BitVec 20))) ∧ (w0.engs[3].stack.length < if isPe 3 =
    true then 16 else 8) ∧ w0.engs[3].stack = [] ∧
    ((match w0.engs[3].stack with
  | LoopEnt.ret _ :: _ => true
  | _ => false) =
  false) ∧ 17 < gCount 3 ∧ (progOk 3
    (BitVec.toNat (w0.gGet 3 17) % 2 ^ 20) = true ∧ w0.gateShut 3 w0.engs[3].pc (BitVec.toNat (w0.gGet 3 17) % 2 ^ 20) = false ∧
    (isPe 3 = true ∨ w0.engs[3].running = none ∨ BitVec.toNat (w0.gGet 3 17) % 2 ^ 20 < 32784 ∨ 32789 < BitVec.toNat (w0.gGet 3
    17) % 2 ^ 20)) ∧ 1 ≤ 6 ∧ 6 < 65536 ∧ (false = true → isPe 3 = false)) ∧
    ((if false = true then 5 < gCount 3 else 1 ≤ 5 ∧ 5 < 4096) ∧ ((0 : Int) < if false = true then BitVec.toInt (w0.gGet 3 5) else
    ↑5) ∧ (Option.any (fun r => decide (r.deadline < 2 * w0.now)) w0.engs[3].running = false) ∧ w0.engs[3].saved = none ∧
    w0.engIdle 3 = true ∧ (fld (0 : Word) 35 30 = 0 ∨ 12 ≤ fld (0 : Word) 35 30 ∧ fld (0 : Word) 35 30 ≤ 15 ∨ 42 ≤ fld (0 :
    Word) 35 30 ∨ isPe 3 = false ∧ (8 ≤ fld (0 : Word) 35 30 ∧ fld (0 : Word) 35 30 ≤ 11 ∨ fld (0 : Word) 35 30 = 38)) ∧
    w0.engIdle 3 = true ∧ w0.cachedWord 3 w0.engs[3].pc = none ∧ progOk 3 w0.engs[3].pc = true ∧ isPe 3 = false) ∧
    ((w1.engIdle 3 = true ∧ w1.cachedWord 3 w1.engs[3].pc = none ∧ progOk 3 w1.engs[3].pc = true) ∧ w1.bodyEnd 3 w1.engs[3].pc =
    false ∧ w1.gateShut 3 w1.engs[3].pc (w1.engs[3].pc + 1) = false ∧ w1.queuesFresh ∧ engQueue 3 false 1 = some (QId.pq 13) ∧ 3
    < gCount 3 ∧ (¬if false = true then (w1.qGet (QId.pq 13)).length < qDepth (QId.pq 13) else w1.qGet (QId.pq 13) ≠ []) ∧ (0 :
    Int) < BitVec.toInt (w1.gGet 3 3)) ∧
    ((w3.engIdle 3 = true ∧ w3.cachedWord 3 w3.engs[3].pc = none ∧ progOk 3 w3.engs[3].pc = true) ∧ w3.bodyEnd 3 w3.engs[3].pc =
    false ∧ w3.gateShut 3 w3.engs[3].pc (w3.engs[3].pc + 1) = false ∧ w3.queuesFresh ∧ engQueue 3 true 1 = some (QId.dq 13) ∧ 4
    + qWords (QId.dq 13) ≤ gCount 3 ∧ (w3.qGet (QId.dq 13)).length < qDepth (QId.dq 13) ∧ 4 < gCount 3 ∧ (if true = true then
    (w3.qGet (QId.dq 13)).length < qDepth (QId.dq 13) else w3.qGet (QId.dq 13) ≠ [])) ∧
    ((w4.engIdle 3 = true ∧ w4.cachedWord 3 w4.engs[3].pc = none ∧ progOk 3 w4.engs[3].pc = true) ∧ w4.bodyEnd 3 w4.engs[3].pc =
    false ∧ w4.gateShut 3 w4.engs[3].pc (w4.engs[3].pc + 1) = false ∧ w4.queuesFresh ∧ engQueue 3 true 1 = some (QId.dq 13) ∧ 3
    + qWords (QId.dq 13) ≤ gCount 3 ∧ qDepth (QId.dq 13) ≤ (w4.qGet (QId.dq 13)).length ∧ (∀ (a : Fin 48), QId.dq 13 = QId.dq a
    → w4.axKernel a = false ∧ w4.dpLive a = false) ∧ 3 < gCount 3 ∧ (¬if true = true then (w4.qGet (QId.dq 13)).length < qDepth
    (QId.dq 13) else w4.qGet (QId.dq 13) ≠ []) ∧ (0 : Int) < BitVec.toInt (w4.gGet 3 3)) ∧
    ((w5.engIdle 3 = true ∧ w5.cachedWord 3 w5.engs[3].pc = none ∧ progOk 3 w5.engs[3].pc = true) ∧ w5.bodyEnd 3 w5.engs[3].pc =
    false ∧ w5.gateShut 3 w5.engs[3].pc (w5.engs[3].pc + 1) = false ∧ w5.queuesFresh ∧ engQueue 3 true 1 = some (QId.dq 13) ∧ 20
    < gCount 3 ∧ (¬if true = true then (w5.qGet (QId.dq 13)).length < qDepth (QId.dq 13) else w5.qGet (QId.dq 13) ≠ []) ∧
    BitVec.toInt (w5.gGet 3 20) ≤ (0 : Int)) ∧
    (w6.engRuns 3 = true ∧ w6.queuesFresh ∧ w6.engs[3].waiting = some (true, 1) ∧ engQueue 3 true 1 = some (QId.dq 13) ∧ w6.bodyEnd 3
    w6.engs[3].pc = false ∧ w6.gateShut 3 w6.engs[3].pc (w6.engs[3].pc + 1) = false) ∧
    ((w10.engIdle 3 = true ∧ w10.cachedWord 3 w10.engs[3].pc = none ∧ progOk 3 w10.engs[3].pc = true) ∧ w10.bodyEnd 3 w10.engs[3].pc
    = false ∧ 2 < 12 ∧ [true, w10.engs[3].flags.z, !w10.engs[3].flags.z, w10.engs[3].flags.n, !w10.engs[3].flags.n,
    !w10.engs[3].flags.n && !w10.engs[3].flags.z, w10.engs[3].flags.n || w10.engs[3].flags.z, w10.engs[3].flags.c,
    !w10.engs[3].flags.c, w10.engs[3].flags.v, !w10.engs[3].flags.v, w10.engs[3].flags.s].getD 2 false = false ∧ w10.gateShut 3
    w10.engs[3].pc (w10.engs[3].pc + 1) = false) ∧
    (w28.engIdle 3 = true ∧ w28.cachedWord 3 w28.engs[3].pc = none ∧ progOk 3 w28.engs[3].pc = true ∧ w28.engs[3].stack =
    [LoopEnt.loop 240 w28.engs[3].pc 3 true] ∧ 1 < 3 ∧ w28.gateShut 3 w28.engs[3].pc 240 = false) ∧
    (w30.engIdle 3 = true ∧ w30.cachedWord 3 w30.engs[3].pc = none ∧ progOk 3 w30.engs[3].pc = true ∧ w30.engs[3].stack =
    [LoopEnt.loop 240 w30.engs[3].pc 1 true] ∧ 1 ≤ 1 ∧ w30.gateShut 3 w30.engs[3].pc (w30.engs[3].pc + 1) = false ∧
    ((match [] with
  | LoopEnt.loop _ b _ _ :: _ => b == w30.engs[3].pc
  | _ => false) =
  false)) ∧
    ((w34.engIdle 3 = true ∧ w34.cachedWord 3 w34.engs[3].pc = none ∧ progOk 3 w34.engs[3].pc = true) ∧ w34.bodyEnd 3 w34.engs[3].pc
    = false ∧ 0 < 12 ∧ [true, w34.engs[3].flags.z, !w34.engs[3].flags.z, w34.engs[3].flags.n, !w34.engs[3].flags.n,
    !w34.engs[3].flags.n && !w34.engs[3].flags.z, w34.engs[3].flags.n || w34.engs[3].flags.z, w34.engs[3].flags.c,
    !w34.engs[3].flags.c, w34.engs[3].flags.v, !w34.engs[3].flags.v, w34.engs[3].flags.s].getD 0 false = true ∧ (progOk 3
    (BitVec.toNat (512 : BitVec 20)) = true ∧ w34.gateShut 3 w34.engs[3].pc (BitVec.toNat (512 : BitVec 20)) = false ∧ (isPe 3 =
    true ∨ w34.engs[3].running = none ∨ BitVec.toNat (512 : BitVec 20) < 32784 ∨ 32789 < BitVec.toNat (512 : BitVec 20))) ∧ ((if
    isPe 3 = true then 16 else 8) ≤ w34.engs[3].stack.length) ∧ w34.engs[3].stack = LoopEnt.ret 768 :: List.replicate 15
    (LoopEnt.ret 768) ∧ (progOk 3 768 = true ∧ w34.gateShut 3 w34.engs[3].pc 768 = false ∧ (isPe 3 = true ∨ w34.engs[3].running
    = none ∨ 768 < 32784 ∨ 32789 < 768)) ∧ w34.gateShut 3 w34.engs[3].pc (w34.engs[3].pc + 1) = false ∧ 1 ≤ 6 ∧ 6 < 65536 ∧
    (false = true → isPe 3 = false) ∧ (if false = true then 5 < gCount 3 else 1 ≤ 5 ∧ 5 < 4096) ∧ ((0 : Int) < if false = true
    then BitVec.toInt (w34.gGet 3 5) else ↑5)) ∧
    ((w36.engIdle 3 = true ∧ w36.cachedWord 3 w36.engs[3].pc = none ∧ progOk 3 w36.engs[3].pc = true) ∧ w36.bodyEnd 3 w36.engs[3].pc
    = false ∧ 0 < 12 ∧ [true, w36.engs[3].flags.z, !w36.engs[3].flags.z, w36.engs[3].flags.n, !w36.engs[3].flags.n,
    !w36.engs[3].flags.n && !w36.engs[3].flags.z, w36.engs[3].flags.n || w36.engs[3].flags.z, w36.engs[3].flags.c,
    !w36.engs[3].flags.c, w36.engs[3].flags.v, !w36.engs[3].flags.v, w36.engs[3].flags.s].getD 0 false = true ∧ progOk 3
    (BitVec.toNat (651264 : BitVec 20)) = false) ∧
    (w40.engIdle 3 = true ∧ progOk 3 w40.engs[3].pc = false ∧ w40.cachedWord 3 w40.engs[3].pc = none) ∧
    ((w83.engIdle 12 = true ∧ w83.cachedWord 12 w83.engs[12].pc = none ∧ progOk 12 w83.engs[12].pc = true) ∧ w83.bodyEnd 12
    w83.engs[12].pc = false ∧ w83.gateShut 12 w83.engs[12].pc (w83.engs[12].pc + 1) = false ∧ 1 ≤ 6 ∧ 6 < 65536 ∧ (false = true
    → isPe 12 = false) ∧ (if true = true then 18 < gCount 12 else 1 ≤ 18 ∧ 18 < 4096) ∧ ((if true = true then BitVec.toInt
    (w83.gGet 12 18) else ↑18) ≤ (0 : Int)) ∧ w83.bodyEnd 12 (w83.engs[12].pc + 6) = false ∧ w83.gateShut 12 w83.engs[12].pc
    (w83.engs[12].pc + 6 + 1) = false ∧ isPe 12 = true ∧ 18 < 64 ∧ BitVec.toInt (w83.gGet 12 18) ≤ (0 : Int) ∧ w83.bodyEnd 12
    (w83.engs[12].pc + 1) = false ∧ w83.gateShut 12 w83.engs[12].pc (w83.engs[12].pc + 2) = false ∧ (Option.any (fun r => decide
    (r.deadline < 2 * w83.now)) w83.engs[12].running = false) ∧ w83.engs[12].saved = some sv ∧ w83.engIdle 12 = true ∧ decodeW
    12 (17179869199 : Word) = EDec.reserved ∧ w83.engIdle 12 = true ∧ w83.cachedWord 12 w83.engs[12].pc = none ∧ progOk 12
    w83.engs[12].pc = true ∧ gCount 12 ≤ 200) ∧
    ((w84.engIdle 12 = true ∧ w84.cachedWord 12 w84.engs[12].pc = none ∧ progOk 12 w84.engs[12].pc = true) ∧ w84.bodyEnd 12
    w84.engs[12].pc = false ∧ isPe 12 = true ∧ w84.engs[12].sbuf = [] ∧ 20 < 64 ∧ 17 < 64 ∧ 18 < 64 ∧ 1 ≤ 1 ∧ 1 < 4096 ∧ (progOk
    12 (w84.engs[12].pc + 1) = true ∧ w84.gateShut 12 w84.engs[12].pc (w84.engs[12].pc + 1) = false ∧ (isPe 12 = true ∨
    w84.engs[12].running = none ∨ w84.engs[12].pc + 1 < 32784 ∨ 32789 < w84.engs[12].pc + 1)) ∧ w84.gateShut 12 (w84.engs[12].pc
    + 1) (w84.engs[12].pc + 2) = false ∧ w84.bodyEnd 12 (w84.engs[12].pc + 1) = false ∧ decodeW 12 (w84.fetch 12
    (w84.engs[12].pc + 1)) = EDec.ins (EIns.alu AluOp.add 20 20 18) ∧ 20 ≠ 18 ∧ (BitVec.toInt (w84.gGet 12 20)).natAbs + 1 *
    (BitVec.toInt (w84.gGet 12 18)).natAbs < 2 ^ 35) ∧
    ((w87.engIdle 12 = true ∧ w87.cachedWord 12 w87.engs[12].pc = none ∧ progOk 12 w87.engs[12].pc = true) ∧ w87.bodyEnd 12
    w87.engs[12].pc = false ∧ isPe 12 = true ∧ w87.engs[12].sbuf = [] ∧ 20 < 64 ∧ 17 < 64 ∧ 18 < 64 ∧ 1 ≤ 3 ∧ 3 < 4096 ∧ (progOk
    12 (w87.engs[12].pc + 1) = true ∧ w87.gateShut 12 w87.engs[12].pc (w87.engs[12].pc + 1) = false ∧ (isPe 12 = true ∨
    w87.engs[12].running = none ∨ w87.engs[12].pc + 1 < 32784 ∨ 32789 < w87.engs[12].pc + 1)) ∧ w87.gateShut 12 (w87.engs[12].pc
    + 1) (w87.engs[12].pc + 2) = false ∧ w87.bodyEnd 12 (w87.engs[12].pc + 1) = false ∧ decodeW 12 (w87.fetch 12
    (w87.engs[12].pc + 1)) = EDec.ins EIns.nop) ∧
    ((w88.engIdle 3 = true ∧ w88.cachedWord 3 w88.engs[3].pc = none ∧ progOk 3 w88.engs[3].pc = true) ∧ w88.bodyEnd 3 w88.engs[3].pc
    = false ∧ 0 < 12 ∧ [true, w88.engs[3].flags.z, !w88.engs[3].flags.z, w88.engs[3].flags.n, !w88.engs[3].flags.n,
    !w88.engs[3].flags.n && !w88.engs[3].flags.z, w88.engs[3].flags.n || w88.engs[3].flags.z, w88.engs[3].flags.c,
    !w88.engs[3].flags.c, w88.engs[3].flags.v, !w88.engs[3].flags.v, w88.engs[3].flags.s].getD 0 false = true ∧ 3 = engOf 3 ∧
    w88.engs[3].running.isSome = true ∧ (w88.engs[3].stack.length < if isPe 3 = true then 16 else 8) ∧ w88.gateShut 3
    w88.engs[3].pc (BitVec.toNat (32786 : BitVec 20)) = false ∧ BitVec.toNat (32786 : BitVec 20) = 32786) ∧
    ((w89.engIdle 3 = true ∧ w89.cachedWord 3 w89.engs[3].pc = none ∧ progOk 3 w89.engs[3].pc = true) ∧ w89.bodyEnd 3 w89.engs[3].pc
    = false ∧ 0 < 12 ∧ [true, w89.engs[3].flags.z, !w89.engs[3].flags.z, w89.engs[3].flags.n, !w89.engs[3].flags.n,
    !w89.engs[3].flags.n && !w89.engs[3].flags.z, w89.engs[3].flags.n || w89.engs[3].flags.z, w89.engs[3].flags.c,
    !w89.engs[3].flags.c, w89.engs[3].flags.v, !w89.engs[3].flags.v, w89.engs[3].flags.s].getD 0 false = true ∧ 3 = engOf 3 ∧
    w89.engs[3].running.isSome = true ∧ (w89.engs[3].stack.length < if isPe 3 = true then 16 else 8) ∧ w89.gateShut 3
    w89.engs[3].pc (BitVec.toNat (32787 : BitVec 20)) = false ∧ BitVec.toNat (32787 : BitVec 20) = 32787) := by
  and_intros <;> decide +kernel

end Flow

namespace Constants

def up (e : Fin 13) (f : Engine → Engine) (s : State) : State := s.updEng e f
def base : State := (boot.put (.ae 3) AE.ENG_STAT.STATE 1).put (.ae 3) AE.ENG_STAT.ROT 5
def wd (v : Int) : Word := BitVec.ofInt 36 v
def eg (e : Fin 13) (a b c : Int) : State := base |> up e (fun x => {x with pc := 0x100, acc := (x.acc.set 2 (BitVec.ofInt 88 (a * b * 77))).set 3 (BitVec.ofInt 88 (-a * 5)), flags := {z := true, n := false, c := true, v := true, s := false}}) |> fun s => (((s.gSet e 17 (wd a)).gSet e 18 (wd b)).gSet e 19 (wd c)).gSet e 3 (wd c)
def lp (a b n : Nat) (r : Bool) : LoopEnt := .loop a b n r
def qs (q : QId) (l : List (List Word)) (s : State) : State := fr (s.qSet q l)
def w0 : State := (eg 3 (5) 6 7)
def w2 : State := (eg 3 (5) 6 7)
def w9 : State := (eg 3 5 6 7)
def w19 : State := (eg 12 5 6 7)
def w20 : State := (qs (.pq 3) (List.replicate 8 [1,2,3,4]) boot)
def w21 : State := (fr boot)
def w22 : State := (up 3 (fun x => {x with stack := [lp 0xFC 0x105 3 true], cache := [(0x100, (EIns.nop).word)]}) (eg 3 5 6 7))

theorem witness_EngineConstants_1 :
    (w0.engIdle 3 = true ∧ w0.cachedWord 3 w0.engs[3].pc = none ∧ progOk 3 w0.engs[3].pc = true ∧ w0.bodyEnd 3 w0.engs[3].pc = false
    ∧ w0.gateShut 3 w0.engs[3].pc (w0.engs[3].pc + 1) = false ∧ 17 < gCount 3 ∧ 4096 ≤ BitVec.toNat (8388607 : BitVec 24) ∧
    progOk 3 (w0.engs[3].pc + 1) = true ∧ w0.bodyEnd 3 (w0.engs[3].pc + 1) = false ∧ w0.gateShut 3 (w0.engs[3].pc + 1)
    (w0.engs[3].pc + 2) = false ∧ w0.cachedWord 3 (w0.engs[3].pc + 1) = none) ∧
    (w2.engIdle 3 = true ∧ w2.cachedWord 3 w2.engs[3].pc = none ∧ progOk 3 w2.engs[3].pc = true ∧ w2.bodyEnd 3 w2.engs[3].pc = false
    ∧ w2.gateShut 3 w2.engs[3].pc (w2.engs[3].pc + 1) = false ∧ 17 < gCount 3 ∧ BitVec.toNat (291 : BitVec 24) < 4096) := by
  and_intros <;> decide +kernel

theorem witness_EngineConstants_2 :
    (w9.engIdle 3 = true ∧ progOk 3 w9.engs[3].pc = true ∧ w9.bodyEnd 3 w9.engs[3].pc = false ∧ w9.gateShut 3 w9.engs[3].pc
    (w9.engs[3].pc + 1) = false ∧ w9.cachedWord 3 w9.engs[3].pc = none ∧ 3 = engOf 3) ∧
    (w19.engIdle 12 = true ∧ progOk 12 w19.engs[12].pc = true ∧ w19.bodyEnd 12 w19.engs[12].pc = false ∧ w19.gateShut 12
    w19.engs[12].pc (w19.engs[12].pc + 1) = false ∧ w19.cachedWord 12 w19.engs[12].pc = none ∧ 12 = peIx) ∧
    (w22.engIdle 3 = true ∧ progOk 3 w22.engs[3].pc = true ∧ w22.bodyEnd 3 w22.engs[3].pc = false ∧ w22.gateShut 3 w22.engs[3].pc
    (w22.engs[3].pc + 1) = false ∧ w22.cachedWord 3 w22.engs[3].pc = some EIns.nop.word ∧ decodeW 3 EIns.nop.word = EDec.ins
    EIns.nop) := by
  and_intros <;> decide +kernel

theorem witness_QueueRefusals :
    (w20.queuesFresh ∧ qDepth (QId.pq 3) ≤ (w20.qGet (QId.pq 3)).length ∧ w20.qGet (QId.pq 3) = [(1 : Word), (2 : Word), (3 : Word),
    (4 : Word)] :: List.replicate 7 [(1 : Word), (2 : Word), (3 : Word), (4 : Word)] ∧ (List.replicate 7 [(1 : Word), (2 :
    Word), (3 : Word), (4 : Word)]).length + 1 = qDepth (QId.pq 3)) ∧
    (w21.queuesFresh ∧ w21.qGet (QId.cq 3) = []) := by
  and_intros <;> decide +kernel

end Constants

namespace More

def db (c st : Word) : State := { boot with regs := [(0x2040, 1), (0xF0040, c), (0xF0048, st)] }
def s5 : State := { boot with regs := [(0x2040, 1), (0x3048, 1)] }
def cn0 : State := {(boot.put (.can 2) CAN.CAN_MODE.MODE 1).updCan 2 (fun x => {x with onBus := true}) with timeC := 50000}
def up (e : Fin 13) (f : Engine → Engine) (s : State) : State := s.updEng e f
def base : State := (boot.put (.ae 3) AE.ENG_STAT.STATE 1).put (.ae 3) AE.ENG_STAT.ROT 5
def sv : Saved := ⟨0x55, ⟨true,false,true,false,true⟩, [.ret 5], none⟩
def capt : State := boot.put (.recorder 0) REC0.REC_STAT.STATE 1
def w1 : State := {s5 with unlockWin := some .spi}
def w3 : State := (db 0x800000000 0)
def w4 : State := (db 0 0)
def w5 : State := (db 0x800000000 0)
def w6 : State := (db 0x800002000 0x800001FFF)
def w7 : State := (db 0x800000020 0x20)
def w8 : State := ((boot.setWord .time 0x88 0xEE6B27FFF).setWord .time 0x90 0xFFFFFFFFF)
def w13 : State := (up 3 (fun x => {x with pc := 0x100, stack := [.loop 240 261 3 false]}) base)
def w19 : State := { boot with bar0 := { boot.bar0 with latch := some (slotAddr (.fb 47) 0x60 / 8, 7) } }
def w20 : State := { boot with bar0 := { boot.bar0 with snap := some (slotAddr (.fb 47) 0x60 / 8, 0xFFFFFFFFF) } }
def w23 : State := { boot with softRst := [(.fb 47, true, false)] }
def w25 : State := { (boot.put .time TIME.REF_T1.T_REF 0xFFFFFFFFF).put .time TIME.REF_T0.T_REF 63999999999 with timeC := 0 }

theorem witness_Unlock_1 :
    (s5.reaches Req.spi Pg.sec true = true ∧ s5.flag Pg.sec SEC.STAT.BAR2_FUSE = true ∧ s5.unlockWin ≠ some Req.spi) ∧
    (w1.reaches Req.spi Pg.sec true = true ∧ w1.flag Pg.sec SEC.STAT.BAR2_FUSE = true ∧ w1.unlockWin = some Req.spi) := by
  and_intros <;> decide +kernel

theorem witness_ReservedEncodingRejected_2 :
    64 % 8 = 0 ∧ 64 < 4096 ∧ Pg.recorder 1 ≠ Pg.sec ∧ pgReg (Pg.recorder 1) 64 = some ({ off := 64, stride := 8, cnt := 32, reset := (0 : Word), stat := false, flds := [{ hi := 11, lo := 8, acc := Acc.rw, bad := [(12, 15)] : FieldD }, { hi := 7, lo := 0, acc := Acc.rw : FieldD }] : RegD },
    0) ∧ capt.reaches Req.bar0 (Pg.recorder 1) true = true ∧ capt.seqShut (Pg.recorder 1) { off := 64, stride := 8, cnt := 32, reset := (0 : Word), stat := false, flds := [{ hi := 11, lo := 8, acc := Acc.rw, bad := [(12, 15)] : FieldD }, { hi := 7, lo := 0, acc := Acc.rw : FieldD }] : RegD }.off
    = false ∧ capt.carriesBad (Pg.recorder 1) { off := 64, stride := 8, cnt := 32, reset := (0 : Word), stat := false, flds := [{ hi := 11, lo := 8, acc := Acc.rw, bad := [(12, 15)] : FieldD }, { hi := 7, lo := 0, acc := Acc.rw : FieldD }] : RegD }
    0 (BitVec.setWidth 36 (3840 : BitVec 64)) = true ∧ capt.recShut (Pg.recorder 1) = true := by
  decide +kernel

theorem witness_Resets_3 :
    100 ≤ 150 ∧ 150 < 1000 := by
  decide +kernel

theorem witness_SerialPorts_2 :
    (w3.jtagOn = true ∧ w3.softResetting (Pg.fb 5) = false) ∧
    (w4.jtagOn = false) := by
  and_intros <;> decide +kernel

theorem witness_DebugHalts :
    (w5.reaches Req.spi Pg.dbg true = true ∧ w5.secure Req.spi = true ∧ w5.get Pg.dbg DBG.DBG_CTRL.RST = 0 ∧ w5.flag Pg.dbg
    DBG.DBG_STAT.HALTED = false ∧ w5.flag Pg.dbg DBG.DBG_CTRL.HALT_ALL = false ∧ w5.get Pg.dbg DBG.DBG_STAT.ENG = w5.get Pg.dbg
    DBG.DBG_CTRL.HALT_ENG ∧ w5.engHalted 5 = false) ∧
    (w6.reaches Req.spi Pg.dbg true = true ∧ w6.secure Req.spi = true ∧ w6.get Pg.dbg DBG.DBG_CTRL.RST = 0 ∧ w6.flag Pg.dbg
    DBG.DBG_STAT.HALTED = true) ∧
    (w7.reaches Req.spi Pg.dbg true = true ∧ w7.secure Req.spi = true ∧ w7.get Pg.dbg DBG.DBG_CTRL.RST = 0 ∧ w7.flag Pg.dbg
    DBG.DBG_CTRL.HALT_ALL = false ∧ w7.flag Pg.dbg DBG.DBG_STAT.HALTED = false ∧ w7.get Pg.dbg DBG.DBG_STAT.ENG = w7.get Pg.dbg
    DBG.DBG_CTRL.HALT_ENG ∧ w7.engHalted 5 = true) := by
  and_intros <;> decide +kernel

theorem witness_PlatformTime_2 :
    (w8.opens Req.spi Pg.time = true ∧ w8.secure Req.spi = true ∧ w8.crossBad Pg.time 160 0 (1 : Word) = false ∧ (roundQ
    (↑↑(BitVec.toNat (w8.word Pg.time 144) * 64000000000 + BitVec.toNat (w8.word Pg.time 136)) + (640 / 3 : Rat) * ((1 : Rat) +
    ↑(BitVec.toInt (w8.word Pg.time 128)) / (2 : Rat) ^ 40)) < (0 : Int) ∨ ↑(BitVec.toNat (w8.word Pg.time 144) * 64000000000 +
    BitVec.toNat (w8.word Pg.time 136)) < (0 : Int) ∨ (2 : Int) ^ 36 * (64000000000 : Int) ≤ roundQ (↑↑(BitVec.toNat (w8.word
    Pg.time 144) * 64000000000 + BitVec.toNat (w8.word Pg.time 136)) + (640 / 3 : Rat) * ((1 : Rat) + ↑(BitVec.toInt (w8.word
    Pg.time 128)) / (2 : Rat) ^ 40))) ∧ (roundQ (↑(w8.timeAt w8.timeC + BitVec.toInt (w8.word Pg.time 136)) + (640 / 3 : Rat) *
    ((1 : Rat) + ↑(BitVec.toInt (w8.word Pg.time 128)) / (2 : Rat) ^ 40)) < (0 : Int) ∨ w8.timeAt w8.timeC + BitVec.toInt
    (w8.word Pg.time 136) < (0 : Int) ∨ (2 : Int) ^ 36 * (64000000000 : Int) ≤ roundQ (↑(w8.timeAt w8.timeC + BitVec.toInt
    (w8.word Pg.time 136)) + (640 / 3 : Rat) * ((1 : Rat) + ↑(BitVec.toInt (w8.word Pg.time 128)) / (2 : Rat) ^ 40))) ∧ (roundQ
    (↑(w8.timeAt w8.timeC + BitVec.toInt (w8.word Pg.time 136)) + (640 / 3 : Rat) * ((1 : Rat) + ↑(BitVec.toInt (w8.word Pg.time
    152)) / (2 : Rat) ^ 40)) < (0 : Int) ∨ w8.timeAt w8.timeC + BitVec.toInt (w8.word Pg.time 136) < (0 : Int) ∨ (2 : Int) ^ 36
    * (64000000000 : Int) ≤ roundQ (↑(w8.timeAt w8.timeC + BitVec.toInt (w8.word Pg.time 136)) + (640 / 3 : Rat) * ((1 : Rat) +
    ↑(BitVec.toInt (w8.word Pg.time 152)) / (2 : Rat) ^ 40)))) ∧
    (w25.opens Req.spi Pg.time = true ∧ w25.secure Req.spi = true ∧ (roundQ (↑(w25.timeAt w25.timeC) + (640 / 3 : Rat) * ((1 : Rat) +
    ↑(BitVec.toInt (w25.word Pg.time 152)) / (2 : Rat) ^ 40)) < (0 : Int) ∨ w25.timeAt w25.timeC < (0 : Int) ∨ (2 : Int) ^ 36 *
    (64000000000 : Int) ≤ roundQ (↑(w25.timeAt w25.timeC) + (640 / 3 : Rat) * ((1 : Rat) + ↑(BitVec.toInt (w25.word Pg.time
    152)) / (2 : Rat) ^ 40)))) := by
  and_intros <;> decide +kernel

theorem witness_CanTransmission_2 :
    cn0.runs (Pg.can 2) = true ∧ cn0.canMode 2 = 1 ∧ cn0.cans[2].onBus = true ∧ cn0.canErr 2 ≠ 2 ∧ cn0.slp 2 = 0 ∧
    cn0.cans[2].active = none ∧ (∀ (k : Fin 9), ¬(↑k < 8 ∧ cn0.txState 2 ↑k = 1 ∨ k = 8 ∧ cn0.cans[2].sleepPend = true)) := by
  decide +kernel

theorem witness_EngineFlow_2 :
    (w13.engIdle 3 = true ∧ w13.cachedWord 3 w13.engs[3].pc = none ∧ progOk 3 w13.engs[3].pc = true) ∧ w13.bodyEnd 3 w13.engs[3].pc
    = false ∧ w13.gateShut 3 w13.engs[3].pc (w13.engs[3].pc + 1) = false ∧ w13.queuesFresh ∧ engQueue 3 false 1 = some (QId.pq
    13) ∧ 4 + qWords (QId.pq 13) ≤ gCount 3 ∧ w13.qGet (QId.pq 13) = [] ∧ 4 < gCount 3 ∧ (¬if false = true then (w13.qGet
    (QId.pq 13)).length < qDepth (QId.pq 13) else w13.qGet (QId.pq 13) ≠ []) ∧ BitVec.toInt (w13.gGet 3 4) ≤ (0 : Int) ∧ 0 < 12
    ∧ [true, w13.engs[3].flags.z, !w13.engs[3].flags.z, w13.engs[3].flags.n, !w13.engs[3].flags.n, !w13.engs[3].flags.n &&
    !w13.engs[3].flags.z, w13.engs[3].flags.n || w13.engs[3].flags.z, w13.engs[3].flags.c, !w13.engs[3].flags.c,
    w13.engs[3].flags.v, !w13.engs[3].flags.v, w13.engs[3].flags.s].getD 0 false = true ∧ w13.engs[3].stack = [LoopEnt.loop 240
    261 3 false] ∧ w13.gateShut 3 w13.engs[3].pc (261 + 1) = false ∧
    ((match [] with
  | LoopEnt.loop _ b _ _ :: _ => b == 261
  | _ => false) =
  false) := by
  decide +kernel

theorem witness_UnassignedSlot :
    4088 % 8 = 0 ∧ 4088 < 4096 ∧ pgReg (Pg.fb 3) 4088 = none ∧ Pg.fb 3 ≠ Pg.sec ∧ boot.reaches Req.bar0 (Pg.fb 3) true = true ∧
    boot.reaches Req.bar0 (Pg.fb 3) false = true := by
  decide +kernel

theorem witness_DeniedAccess :
    0 % 8 = 0 ∧ 0 < 4096 ∧ boot.comes Req.bar0 Pg.sec = true ∧ worldAllows (boot.get Pg.sec HDR.WORLD.WORLD) (boot.secure Req.bar0)
    true = false ∧ worldAllows (boot.get Pg.sec HDR.WORLD.WORLD) (boot.secure Req.bar0) false = false := by
  decide +kernel

theorem witness_AccessHalves_2 :
    w19.reaches Req.bar0 (Pg.fb 47) true = true ∧ w19.bar0.latch = some (slotAddr (Pg.fb 47) 96 / 8, (7 : BitVec 32)) := by
  decide +kernel

theorem witness_HalvesRead :
    w20.reaches Req.bar0 (Pg.fb 47) false = true ∧ w20.bar0.snap = some (slotAddr (Pg.fb 47) 96 / 8, (68719476735 : Word)) := by
  decide +kernel

theorem witness_EventBits_2 :
    (boot.reaches Req.bar0 (Pg.ax 47) true = true ∧ boot.recShut (Pg.ax 47) = false) ∧
    (capt.reaches Req.bar0 (Pg.recorder 1) true = true ∧ capt.recShut (Pg.recorder 1) = true) := by
  and_intros <;> decide +kernel

theorem witness_PageControl_2 :
    (boot.reaches Req.bar0 (Pg.fb 47) true = true ∧ boot.recShut (Pg.fb 47) = false ∧ boot.flag (Pg.fb 47) HDR.LOCK.LOCK = false) ∧
    (Pg.fb 47 ≠ Pg.arb ∧ (List.find? (fun e => e.fst == Pg.fb 47) w23.softRst = some (Pg.fb 47, true, false))) ∧
    (capt.reaches Req.bar0 (Pg.recorder 2) true = true ∧ capt.recShut (Pg.recorder 2) = true) := by
  and_intros <;> decide +kernel

end More

namespace Refill

def cc : Cmd := ⟨.move,1,0,false,none,0⟩
def ae1 : State := boot.updAx 5 (fun a => {a with gov := {a.gov with rec_ := some [0x700000000, 0x100000000, 0x800000000]}})
def w1 : State := ((boot.put (.ax 5) AX.GEAR_STAT.GSTATE 2).put (.ax 5) AX.GEAR_STAT.MISS_RUN 15)

theorem witness_AxisEventsAndFaults_3 :
    ((ae1.groupStill 5 = false ∨ ae1.axes[5].gov.staged = [] ∧ ae1.axes[5].gov.lower = none) ∧ ae1.axes[5].gov.rec_ = some
    [(30064771072 : Word), (4294967296 : Word), (34359738368 : Word)] ∧ ae1.get (Pg.ax 5) AX.GOV_MGOV.VALUE ≤ BitVec.toNat
    (30064771072 : Word) + BitVec.toNat (4294967296 : Word) ∧ BitVec.toNat (30064771072 : Word) + BitVec.toNat (4294967296 :
    Word) < 2 ^ 36 ∧ ae1.get (Pg.ax 5) AX.GOV_MFLOOR.VALUE ≤ BitVec.toNat (30064771072 : Word) + BitVec.toNat (4294967296 :
    Word)) ∧
    (w1.geared 5 = true ∧ w1.get (Pg.ax 5) AX.GEAR_CFG.MISS_LIM ≤ w1.get (Pg.ax 5) AX.GEAR_STAT.MISS_RUN) := by
  and_intros <;> decide +kernel

end Refill

namespace Rings

def at4 (s : State) : State := {s with timeC := 4096, now := 4096}
def b0 : State := at4 <| ((boot.put (.recorder 1) (REC1.PROBE.GROUP.nth 4) 5).put (.recorder 1) (REC1.PROBE.GROUP.nth 5) 5) |>.put (.recorder 0) REC0.REC_STAT.STATE 1
def en (k c n : Nat) : RecEnt := {key := k, cls := c, words := List.replicate n 5, prim := false, at_ := 0}
def c0 (st : Nat) : State := ((b0.put (.recorder 0) REC0.REC_POST.POST_T 10).put (.recorder 0) REC0.REC_STAT.STATE st).put .arb ARB.STORE_CFG.CAP_BASE 0x300 |>.put (.recorder 1) (REC1.AP.EN.nth 2) 1 |>.put (.recorder 1) (REC1.AP.UNIT.nth 2) 3 |>.setWord (.adc 3) 0x400 0x77
def rd (p : Pg) (off : Nat) : RegD × Nat := (pgReg p off).getD (⟨0,0,0,0,false,[]⟩,0)
def rl (l : List RecEnt) (s : State) : State := s.updRec (fun r => {r with fifo := l, wptr := 0x3FFFFC, base := 0x2FFFF0, prim := some (1, 9, 5), winStart := 4, lossCnt := 0})
def w0 : State := (((rl [en 2 1 2, en 3 1 4, en 90 3 3] (c0 2)).setWord .sec 0x100 0).setWord .sec 0x108 0x3FF003)

theorem witness_RecorderCaptures_3 :
    w0.runs (Pg.recorder 0) = true ∧ w0.recState = 2 ∧ w0.recd.prim = some (1, 9, 5) ∧ 9 + 64 * w0.get (Pg.recorder 0)
    REC0.REC_POST.POST_T ≤ 64 * w0.timeC ∧ (∀ (a : Nat), a ∈ [w0.recd.base, w0.recd.base + 1, w0.recd.wptr] → worldAllows
    (w0.storeWorld (a % 4194304)) (w0.pageSecure (Pg.recorder 0)) true = false) := by
  decide +kernel

end Rings

namespace Corners

def f0 : Firing := ⟨116, 5, 1, 2, 7⟩
def g0 : State := ((boot.setWord .evt (0x800+8*58) 0xA80022000).setWord .evt (0x80+8*3) 0x300000)
def g1 : State := { g0 with evt := { g0.evt with fired := [f0] } }
def g2 : State := { g1 with host := { g1.host with linkUp := true, busMaster := true, msiEnable := true } }
def g3 : State := { g2 with evt := { g2.evt with count := g2.evt.count.set 5 3 }, host := {g2.host with msiMask := 32} }
def g6 : State := ((boot.setWord (.ae 3) 0x108 0x8C0018000).setWord (.ae 3) 0x58 0x10).put (.ae 3) AE.ENG_STAT.STATE 1
def g7 : State := { g6 with evt := { g6.evt with pulsed := [0x400+8*24+48] } }
def b1 : State := ((((boot.put (.ax 5) AX.AX_CFG.TYPE 1).put (.dp 5) DP.DP_STAT.OSTATE 2).put (.ax 5) AX.AX_STATE.STATE 1).put (.ax 5) AX.LIM_CFG.POS_EN 1).putI (.ax 5) AX.SETP_POS.VALUE 777
def cc : Cmd := ⟨.move,1,0,false,none,0⟩
def b2 : State := b1.updAx 5 (fun a => {a with cmds := [cc], sol := 1, held := ⟨777,65536,0⟩, gov := {a.gov with rec_ := some [0x1000000, 0x2000000, 0x800000000]}})
def b3 : State := { b2 with refillQ := [(true,5),(false,7)] }
def q1 : State := (boot.put (.ax 5) AX.AX_CFG.TYPE 1).put (.dp 5) DP.DP_STAT.OSTATE 2
def q4 : State := ((q1.put (.ax 5) AX.AX_CFG.TYPE 4).put (.ax 5) AX.AX_STATE.STATE 1).put (.ax 5) AX.PROF_STAT.PSTATE 1
def fa (ty act : Nat) : State := let s := (((q4.put (.ax 5) AX.AX_CFG.TYPE ty).put (.ax 5) AX.CHAIN_LIM.FAULT_ACT act).qPush (.dq 5) [1,2,3,4]).2; s.updAx 5 (fun a => { a with sup := { a.sup with starveDue := true, curMissDue := true, fbLossDue := true, overDue := true, forceDue := true, feDue := true, vsatDue := true } })
def ent' : List Word := [0x9AFE6FF80, 0x0B4B5B6B7, 1, 0x00340D436, 0x003700000, 0x00087D000, 0x67D001F48,0,0,0,0,0,0x32140A000,0x00025812C,0,0]
def so : State := boot.put .ovl OVL.BASE_STAT.DONE 1
def typed (s : State) : State := (s.put (.ax 26) AX.AX_CFG.TYPE 1).put (.ax 27) AX.AX_CFG.TYPE 2
def door (st : Nat) (p : Option (Nat × Bool)) : State :=
  let s := typed so
  let s := (List.range 16).foldl (fun s i => s.storePut (0x3F800 + 16*13 + i) (ent'.getD i 0)) s
  let s := s.updDoor 13 (fun x => { x with entry := ent', pend := p })
  s.put .pe (PE.DW_STAT.STATE.nth 13) st
def fb0 : State := (boot.updFiob 1 (fun f => {f with rel := true, on := 0xF0, off := 0x50})).setWord (.fiob 1) 0x50 0xFF |>.put (.fiob 1) (FIOB.CH_CFG.DIR.nth 5) 1 |>.put (.fiob 1) (FIOB.CH_CFG.DIR.nth 6) 1 |>.put (.fiob 1) (FIOB.CH_CFG.DIR.nth 1) 1 |>.put (.fiob 1) (FIOB.CH_CFG.ARST.nth 6) 1 |>.put (.fiob 1) (FIOB.CH_CFG.WB_EN.nth 9) 1 |>.put (.fiob 1) (FIOB.CH_CFG.PUV.nth 9) 1
def cf (ide fdf : Bool) (id dlc : Nat) (d : List (BitVec 8)) : CanFrame := {ide := ide, fdf := fdf, brs := fdf, esi := false, rtr := false, id := id, dlc := dlc, data := d, ago := 5}
def cn0 : State := {((boot.put (.can 2) CAN.CAN_MODE.MODE 1).setWord (.can 2) 0x98 0x800000123 |>.setWord (.can 2) 0xC8 0x800000124).updCan 2 (fun x => {x with onBus := true, restart := true}) with timeC := 50000}
def ch1 : CanRec := ⟨0x105, [4,5,6,7,8]⟩
def trg (w : Word) : State := (((g7.put (.recorder 0) REC0.REC_STAT.STATE 1).setWord (.recorder 2) 0xC0 w).updRec (fun r => { r with lastChg := r.lastChg.set 0 (some 9), prevChg := r.prevChg.set 0 (some 4), stopAt := some 3 }))
def w0 : State := { boot with regs := [(0x2040, 1), (0x3048, 0)] }
def w1 : State := { boot with rst := { boot.rst with lossHold := true, clkOn := false } }
def w2 : State := { boot with rst := { boot.rst with mgmtRel := false, reach := 2 }, si := { boot.si with rootFault := true } }
def w3 : State := { boot with si := { boot.si with sp := { boot.si.sp with level := boot.si.sp.level.set 3 true } } }
def w4 : State := (g1.put .evt HDR.CTRL.EN 0)
def w5 : State := (ticks 100000 (({g3 with host := {g3.host with msiMask := 0} }).put .evt (EVT.VEC_CFG.COAL_US.nth 5) 100))
def w6 : State := (trg 0xA00000000)
def w7 : State := (trg 0x900000000)
def w8 : State := ((((fa 1 0).put (.ax 5) AX.AX_STATE.STATE 3).put (.ax 5) AX.AX_STATE.CAUSE 7).updAx 5 (fun a => { a with sup := { a.sup with feAt := some a.kern.cycle } }))
def w9 : State := (b3.put (.fiob 0) FIOB.IN.IN 1)
def w11 : State := (door 4 (some (1,true)))
def w14 : State := ((door 12 (some (6,false))).put (.ax 26) AX.AX_STATE.STATE 4)
def w15 : State := (fb0.updFiob 1 (fun f => {f with scanned := true, run := Vector.replicate 32 1000, balls := 0x200 }))
def w16 : State := (fb0.put (.fiob 1) FIOB.BANK_STAT.IBANK_MA 7000)
def w18 : State := (cn0.put (.can 2) CAN.CAN_MODE.FD_EN 0)

theorem witness_Unlock_2 :
    w0.reaches Req.spi Pg.sec true = true ∧ ¬w0.flag Pg.sec SEC.STAT.BAR2_FUSE = true ∧ (5 : Word) ≠ (99355153 : Word) ∧ (5 : Word)
    ≠ (168887788 : Word) := by
  decide +kernel

theorem witness_ClockWatch_3 :
    w1.rst.lossHold = true := by
  decide +kernel

theorem witness_ClockWatch_4 :
    w2.released Pg.clk = false ∧ w2.si.rootFault = true ∧ 2 ≤ w2.rst.reach ∧ (10000 < 4656 ∨ 4944 < 10000) := by
  decide +kernel

theorem witness_SafetyFunctions_3 :
    w3.rst.siRel = true ∧ (w3.si.sp.level[3] ≠ w3.si.laneA.level[3] ∨ w3.si.sp.level[3] ≠ w3.si.laneB.level[3]) := by
  decide +kernel

theorem witness_EventBits_3 :
    (w4.runs Pg.evt = false) ∧
    (w5.evt.count[5] ≠ 0 ∧ fld (w5.vecCfg 5 w5.now) 13 0 ≠ 0 ∧ w5.evt.since[5] + 300 * fld (w5.vecCfg 5 w5.now) 13 0 ≤ w5.now ∧
    w5.msiReady (5 : Fin 16).val = true ∧ (∀ (w : Fin 16), w ≠ 5 → w5.evt.count[w] = 0)) := by
  and_intros <;> decide +kernel

theorem witness_EventDelivery_3 :
    (w6.engRuns 3 = true ∧ (1 : Fin 32).val < taskCount 3 ∧ BitVec.msb (w6.taskW 3 (1 : Fin 32).val) = true ∧ (w6.taskSel 3 (1 : Fin
    32).val = none ∨ ∃ o, o ∈ w6.evt.pulsed ∧ w6.taskSel 3 (1 : Fin 32).val = some o) ∧ w6.engs[3].running = none ∧
    w6.engs[3].saved = none ∧ (∀ (x : Ready), x ∈ w6.engs[3].ready → x.task ≠ (1 : Fin 32).val) ∧ w6.runs (Pg.recorder 0) = true
    ∧ w6.recState = 1 ∧ w6.flag (Pg.recorder 0) REC0.REC_CFG.SEQ = false ∧ fld (w6.word (Pg.recorder 2) (64 + 64 * (2 : Fin
    4).val)) 35 35 = 1 ∧ w6.trgInstant 2 = some 9 ∧ w6.recd.trg[2].done ≠ some 9 ∧ 64 * w6.recd.armC ≤ 9) ∧
    (fld (w7.word (Pg.recorder 2) (64 + 64 * (2 : Fin 4).val)) 34 32 = 1 ∧ w7.recd.lastChg[doorOf (fld (w7.word (Pg.recorder 2) (64 +
    64 * (2 : Fin 4).val)) 28 24)] = some 9 ∧ w7.recd.prevChg[doorOf (fld (w7.word (Pg.recorder 2) (64 + 64 * (2 : Fin 4).val))
    28 24)] = some 4) := by
  and_intros <;> decide +kernel

theorem witness_AxisEventsAndFaults_4 :
    w8.axState 5 = 3 ∧ w8.get (Pg.ax 5) AX.AX_STATE.CAUSE = 7 ∧ w8.axes[5].sup.feAt = some w8.axes[5].kern.cycle ∧
    w8.axes[5].sup.curMissDue = true := by
  decide +kernel

theorem witness_AxisEventsAndFaults_5 :
    w9.runs (Pg.ax 5) = true ∧ (w9.flag (Pg.ax 5) (if true = true then AX.LIM_CFG.POS_EN else AX.LIM_CFG.NEG_EN) = true) ∧
    w9.limLevel 5 true = true ∧ ({ w9 with axes := w9.axes.set (5 : Fin 48).val { w9.axes[5] with holdPos := w9.axes[5].holdPos && (!true || true), holdNeg := w9.axes[5].holdNeg && (true || true), limPos := if true = true then true else w9.axes[5].limPos, limNeg := if true = true then w9.axes[5].limNeg else true : Axis } (by decide) : State }.limitHit
    5 (w9.axes[5].next.getD w9.axes[5].held).v = true) ∧ (w9.axState 5 = 1 ∨ w9.axState 5 = 2) ∧ w9.axes[5].mot.hard = false ∧
    w9.get (Pg.ax 5) AX.LIM_CFG.ACTION = 0 := by
  decide +kernel

theorem witness_DoorCommands_3 :
    (w11.sequencerOn = true ∧ w11.doors[13].pend = some (1, true) ∧ (∀ (e : Fin 32), e ≠ 13 → w11.doors[e].pend = none) ∧
    w11.doors[13].staged = none ∧ (w11.dwAxes 13).Nodup ∧ 1 ≤ 1 ∧ 1 ≤ 8 ∧ (1 = 1 ∧ (w11.dwState 13 = 4 ∨ w11.dwState 13 = 5) ∧
    (true = true → fld (w11.dwWord 13 6) 3 3 = 1) ∨ 1 = 2 ∧ w11.dwState 13 ∈ [2, 6, 7, 8, 9])) ∧
    (w14.sequencerOn = true ∧ w14.doors[13].pend = some (6, false) ∧ (∀ (e : Fin 32), e ≠ 13 → w14.doors[e].pend = none) ∧
    w14.doors[13].staged = none ∧ (w14.dwAxes 13).Nodup ∧ 1 ≤ 6 ∧ 6 ≤ 8 ∧ 6 = 6 ∧ w14.dwState 13 = 12) := by
  and_intros <;> decide +kernel

theorem witness_FieldBanks_2 :
    (w15.linkOn 1 = true ∧ w15.fiobs[1].scanned = true ∧ w15.fiobs[1].balls.getLsbD (9 : Fin 32).val = true ∧ w15.get (Pg.fiob 1)
    (FIOB.CH_CFG.FILT_US.nth (9 : Fin 32).val) ≤ 10 * w15.fiobs[1].run[9] ∧ (w15.chan 1 112 9 = false ∨
    w15.fiobs[1].band.getLsbD (9 : Fin 32).val = false)) ∧
    (w16.linkOn 1 = true ∧ 6000 < w16.get (Pg.fiob 1) FIOB.BANK_STAT.IBANK_MA) := by
  and_intros <;> decide +kernel

theorem witness_CanReception_2 :
    w18.runs (Pg.can 2) = true ∧ w18.canMode 2 ≠ 0 ∧ w18.canMode 2 < 3 ∧ w18.cans[2].onBus = true ∧ w18.slp 2 = 0 ∧ (cf false true
    291 1 [(133 : BitVec 8)]).dlc ≤ 15 ∧ (cf false true 291 1 [(133 : BitVec 8)]).data.length = canLen (cf false true 291 1
    [(133 : BitVec 8)]).fdf (cf false true 291 1 [(133 : BitVec 8)]).rtr (cf false true 291 1 [(133 : BitVec 8)]).dlc ∧ ((cf
    false true 291 1 [(133 : BitVec 8)]).id < if (cf false true 291 1 [(133 : BitVec 8)]).ide = true then 2 ^ 29 else 2 ^ 11) ∧
    (cf false true 291 1 [(133 : BitVec 8)]).fdf = true ∧ w18.flag (Pg.can 2) CAN.CAN_MODE.FD_EN = false := by
  decide +kernel

end Corners

/-! ### ARM with an empty configuration whose hash stands in EXP_HASH and BASE_HASH (R311-R313) -/

namespace Arm

def ready : State := { live with regs := [(0x4078, 0x2F1E9D6B), (0xC6050, 0x2F1E9D6B)] }
def p0 : List Nat :=
  [0, 0, 0, 0, 0, 0, 5, 0, 0, 0, 11, 184, 0, 0, 0, 11, 184, 0, 0, 0, 11, 184, 0, 0, 0, 11, 184, 0, 0, 0, 11, 184, 0, 0,
   0, 11, 184, 0, 0, 0]
def p1 : List Nat :=
  [11, 184, 0, 0, 0, 11, 184, 0, 0, 0, 11, 184, 0, 0, 0, 11, 184, 0, 0, 0, 11, 184, 0, 0, 0, 11, 184, 0, 0, 0, 11, 184,
   0, 0, 0, 11, 184, 0, 0, 0]
def p2 : List Nat :=
  [11, 184, 0, 0, 0, 11, 184, 0, 0, 0, 11, 184, 0, 0, 0, 11, 184, 0, 0, 0, 11, 184, 0, 0, 0, 11, 184, 0, 0, 0, 11, 184,
   0, 0, 0, 11, 184, 0, 0, 0]
def p3 : List Nat :=
  [11, 184, 0, 0, 0, 11, 184, 0, 0, 1, 144, 100, 0, 0, 1, 144, 100, 0, 0, 1, 144, 100, 0, 0, 1, 144, 100, 0, 0, 1, 144,
   100, 0, 0, 1, 144, 100, 0, 0, 1]
def p4 : List Nat :=
  [144, 100, 0, 0, 1, 144, 100, 0, 0, 0, 0, 0, 0, 125, 0, 1, 244, 0, 0, 0, 0, 0, 0, 125, 0, 1, 244, 0, 0, 0, 0, 0, 0,
   125, 0, 1, 244, 0, 0, 0]
def p5 : List Nat :=
  [0, 0, 0, 125, 0, 1, 244, 0, 0, 0, 0, 0, 0, 125, 0, 1, 244, 0, 0, 0, 0, 0, 0, 125, 0, 1, 244, 0, 0, 0, 0, 0, 0, 125,
   0, 1, 244, 0, 0, 0]
def p6 : List Nat :=
  [0, 0, 0, 125, 0, 1, 244, 0, 0, 0, 0, 0, 0, 125, 0, 1, 244, 0, 0, 0, 0, 0, 0, 125, 0, 1, 244, 0, 0, 0, 0, 0, 0, 125,
   0, 1, 244, 0, 0, 0]
def p7 : List Nat :=
  [0, 0, 0, 125, 0, 1, 244, 0, 0, 0, 0, 0, 0, 125, 0, 1, 244, 0, 0, 0, 0, 0, 0, 125, 0, 1, 244, 0, 0, 0, 0, 0, 0, 125,
   0, 1, 244, 0, 0, 0]
def p8 : List Nat :=
  [0, 0, 0, 125, 0, 1, 244, 0, 0, 0, 0, 0, 0, 0, 0, 0, 0, 0, 0, 0, 0, 0, 0, 0, 0, 0, 0, 0, 0, 0, 0, 0, 0, 0, 0, 0, 0, 0,
   0, 0]
def p9 : List Nat :=
  [0, 0, 0, 0, 0, 0, 0, 15, 255, 255, 255, 255, 15, 255, 255, 255, 255, 15, 255, 255, 255, 255, 15, 255, 255, 255, 255,
   15, 255, 255, 255, 255, 15, 255, 255, 255, 255]

theorem bytes_hashed :
    [ready.swState / 256, ready.swState % 256] ++ ready.hashWords.flatMap wordBytes =
      p0 ++ p1 ++ p2 ++ p3 ++ p4 ++ p5 ++ p6 ++ p7 ++ p8 ++ p9 := by
  decide +kernel
theorem crc_0 : p0.foldl crc32Byte 0xffffffff = 0x3d7066b7 := by decide +kernel
theorem crc_1 : p1.foldl crc32Byte 0x3d7066b7 = 0xe9db5eca := by decide +kernel
theorem crc_2 : p2.foldl crc32Byte 0xe9db5eca = 0x1df9ac3d := by decide +kernel
theorem crc_3 : p3.foldl crc32Byte 0x1df9ac3d = 0x7a1f8ef6 := by decide +kernel
theorem crc_4 : p4.foldl crc32Byte 0x7a1f8ef6 = 0xa4b2fa4b := by decide +kernel
theorem crc_5 : p5.foldl crc32Byte 0xa4b2fa4b = 0x31bb848b := by decide +kernel
theorem crc_6 : p6.foldl crc32Byte 0x31bb848b = 0x70d25758 := by decide +kernel
theorem crc_7 : p7.foldl crc32Byte 0x70d25758 = 0x8bedd3d6 := by decide +kernel
theorem crc_8 : p8.foldl crc32Byte 0x8bedd3d6 = 0x14a891a0 := by decide +kernel
theorem crc_9 : p9.foldl crc32Byte 0x14a891a0 = 0xd0e16294 := by decide +kernel

theorem hash_ready : ready.cfgHash.toNat = 0x2F1E9D6B := by
  unfold State.cfgHash crc32
  rw [bytes_hashed]
  simp only [List.foldl_append, crc_0, crc_1, crc_2, crc_3, crc_4, crc_5, crc_6, crc_7, crc_8, crc_9]
  decide

/-- Witnesses for Obligations.PortPermissions: ARM accepted, and ARM refused for its hash. -/
theorem witness_PortPermissions_arm :
    (ready.opens .spi (.si 0) = true ∧ ready.armRefuse ready.cfgHash.toNat = none) ∧
    (live.opens .spi (.si 0) = true ∧ live.armRefuse 0x2F1E9D6B = some 1) := by
  rw [hash_ready]
  exact ⟨by decide +kernel, by decide +kernel⟩

end Arm

/-! ### Witnesses for the statements about words and steps -/

theorem witness_EngineWords :
    ((EIns.alu .add 31 17 18).valid 3 = true ∧ ((EIns.alu .add 31 17 18).peOnly = true → isPe 3 = true)) ∧
    ((EIns.rep true 63).valid 12 = true ∧ ((EIns.rep true 63).peOnly = true → isPe 12 = true)) := by
  decide +kernel

theorem witness_StepTakesFront :
    ({ live with pending := [.pllLock, .storeReady] } : State).pending = .pllLock :: [.storeReady] ∧ live.pending = [] ∧
    live.rst.clkOn = true ∧ live.cor = none ∧ (∀ e : Fin 13, live.engs[e].sbuf = []) ∧ (∀ p : Fin 2, live.eths[p].held = []) ∧ live.evt.prior = [] ∧
    (live.updRst (fun r => { r with clkOn := false })).rst.clkOn = false := by
  decide +kernel

theorem witness_StepKeepsInvariant :
    live.wf = true ∧ (match step { live with pending := [.insSt 3 17 false 2 1 0] } with
      | .next _ => true
      | _ => false) = true := by
  decide +kernel

/-- A committed timetable waits, at slot 0. -/
theorem witness_Arbiter_timetable :
    (live.updArb (fun a => { a with ttPend := some a.tt, cycle := 64 })).arb.ttPend = some live.arb.tt ∧
    (live.updArb (fun a => { a with ttPend := some a.tt, cycle := 64 })).arb.cycle % 64 = 0 := by
  decide +kernel

end Sys2Proof.Tests
end

section
/-! PROOFS. Credit queues: what a push, a pop and a push that lands late do to a queue, its cycle's note and its counts (R77-R85). -/

namespace Sys2Proof.Machine

section Rules

variable (s : State)

/-! ### Counters, and what repeats -/

theorem satInc_eq_min (n v : Nat) : satInc n v = min (2 ^ n - 1) (v + 1) := by
  unfold satInc
  split <;> omega

/-- A counter field reads one more after it counts, up to its largest value. -/
theorem State.get_inc_same (p : Pg) (f : Fld) (h : f.hi < 36) :
    (s.inc p f).get p f = min (2 ^ (f.hi + 1 - f.lo) - 1) (s.get p f + 1) := by
  have hpos : 0 < 2 ^ (f.hi + 1 - f.lo) := by positivity
  rw [State.inc, s.get_put_same p f _ h, satInc_eq_min, Nat.mod_eq_of_lt (by omega)]

/-- What each repetition keeps, all of them keep. -/
theorem forEach_keeps {α β : Type} (g : State → β) (f : α → State → State) (hf : ∀ a t, g (f a t) = g t) (l : List α) :
    g (forEach l f s) = g s := by
  unfold forEach
  induction l generalizing s with
  | nil => rfl
  | cons a l ih => exact (ih (f a s)).trans (hf a s)

theorem doIf_keeps {β : Type} (g : State → β) (b : Bool) (f : State → State) (hf : g (f s) = g s) : g (s.doIf b f) = g s := by
  cases b
  · rfl
  · exact hf

/-! ### The entries of a queue -/

theorem State.qGet_of_queues {s t : State} (h : t.queues = s.queues) (q : QId) : t.qGet q = s.qGet q := by
  cases q <;> simp only [State.qGet, h]

@[simp] theorem State.qGet_put (p : Pg) (f : Fld) (v : Nat) (q : QId) : (s.put p f v).qGet q = s.qGet q :=
  State.qGet_of_queues rfl q

@[simp] theorem State.qGet_putI (p : Pg) (f : Fld) (v : Int) (q : QId) : (s.putI p f v).qGet q = s.qGet q :=
  State.qGet_of_queues rfl q

@[simp] theorem State.qGet_inc (p : Pg) (f : Fld) (q : QId) : (s.inc p f).qGet q = s.qGet q :=
  State.qGet_of_queues rfl q

@[simp] theorem State.qGet_updAx (n : Fin 48) (f : Axis → Axis) (q : QId) : (s.updAx n f).qGet q = s.qGet q :=
  State.qGet_of_queues rfl q

@[simp] theorem State.qGet_qNote (c : QCyc) (q : QId) : (s.qNote c).qGet q = s.qGet q := by
  cases q <;> rfl

@[simp] theorem State.qGet_qSet_same (q : QId) (l : List (List Word)) : (s.qSet q l).qGet q = l := by
  cases q <;> simp [State.qSet, State.qGet, Queues.set]

theorem State.qGet_qSet_other (q q' : QId) (l : List (List Word)) (h : q ≠ q') : (s.qSet q l).qGet q' = s.qGet q' := by
  cases q <;> cases q' <;> simp [State.qSet, State.qGet, Queues.set]
  all_goals
    rw [Vector.getElem_set_ne]
    exact fun e => h (by rw [Fin.ext e])

@[simp] theorem State.qGet_qLand_same (q : QId) (e : List Word) : (s.qLand q e).qGet q = s.qGet q ++ [e] := by
  simp [State.qLand]

theorem State.qGet_qLand_other (q q' : QId) (e : List Word) (h : q ≠ q') : (s.qLand q e).qGet q' = s.qGet q' := by
  simp [State.qLand, s.qGet_qSet_other q q' _ h]

/-! ### The note of a queue's cycle (R80) -/

theorem State.qCyc_q_tick (q : QId) : (s.qCyc q).q = q ∧ (s.qCyc q).tick = s.now := by
  unfold State.qCyc
  split
  · next c hc =>
    have hp := List.find?_some hc
    simpa using hp
  · exact ⟨rfl, rfl⟩

/-- The note just made of this cycle is the one that is read. -/
theorem State.qCyc_qNote (q : QId) (c : QCyc) (hq : c.q = q) (ht : c.tick = s.now) : (s.qNote c).qCyc q = c := by
  have hfind : (s.qNote c).queues.cyc.find? (fun d => d.q == q && d.tick == s.now) = some c := by
    simp only [State.qNote, List.find?_append, Option.or_eq_some_iff, List.find?_eq_none]
    right
    refine ⟨fun d hd => ?_, by simp [hq, ht]⟩
    have hne : d.q ≠ q := by simpa [hq] using (List.mem_filter.1 hd).2
    simp [hne]
  unfold State.qCyc
  rw [s.qNote_now, hfind]

/-- Where no queue has been used in this cycle, a queue's note is that of the cycle's start. -/
theorem State.qCyc_of_fresh (h : s.queuesFresh) (q : QId) :
    (s.qCyc q).landed = 0 ∧ (s.qCyc q).lost = [] ∧ (s.qCyc q).flushed = false ∧
      (s.qCyc q).full = s.get (qStatReg q).1 (qFullPush q) := by
  have hnone : s.queues.cyc.find? (fun c => c.q == q && c.tick == s.now) = none :=
    List.find?_eq_none.2 (fun c hc => by simp [h c hc])
  unfold State.qCyc
  rw [hnone]
  exact ⟨rfl, rfl, rfl, rfl⟩

/-! ### The status register of a queue (R85) -/

theorem qStatReg_off_lt (q : QId) : (qStatReg q).2 < 0x1000 := by
  cases q <;> simp only [qStatReg] <;> omega

/-- A put into a field of one slot leaves every other slot. -/
theorem State.word_put_slot (p p' : Pg) (f : Fld) (v o : Nat) (hf : f.off < 0x1000) (ho : o < 0x1000) (h : (p', o) ≠ (p, f.off)) :
    (s.put p f v).word p' o = s.word p' o :=
  keeps_setWord s p f.off _ hf [(p, f.off)] (List.mem_singleton_self _) p' o ho (by simpa using h)

/-- Entries put into a queue write no register but its status. -/
theorem State.word_qSet (q : QId) (l : List (List Word)) (p : Pg) (o : Nat) (ho : o < 0x1000) (h : (p, o) ≠ qStatReg q) :
    (s.qSet q l).word p o = s.word p o := by
  unfold State.qSet
  dsimp only
  rw [State.word_put_slot _ (qStatReg q).1 p (qHwm q) _ o (qStatReg_off_lt q) ho h,
    State.word_put_slot _ (qStatReg q).1 p (qOcc q) _ o (qStatReg_off_lt q) ho h]
  rfl

/-- Entries put into a queue leave its counts: OCC and HWM lie above them. -/
theorem State.get_qSet_count (q : QId) (l : List (List Word)) (f : Fld) (ho : f.off = (qStatReg q).2) (hf : f.hi < 20) :
    (s.qSet q l).get (qStatReg q).1 f = s.get (qStatReg q).1 f := by
  unfold State.qSet
  dsimp only
  rw [State.get_put_fld _ _ (qHwm q) f _ ho.symm (.inr (by simp only [qHwm]; omega)),
    State.get_put_fld _ _ (qOcc q) f _ ho.symm (.inr (by simp only [qOcc]; omega))]
  rfl

theorem State.get_qLand_count (q : QId) (e : List Word) (f : Fld) (ho : f.off = (qStatReg q).2) (hf : f.hi < 20) :
    (s.qLand q e).get (qStatReg q).1 f = s.get (qStatReg q).1 f := by
  rw [State.qLand, State.qNote_get, s.get_qSet_count q _ f ho hf]

/-! ### Pushes and pops -/

/-- A push with no credit is counted, and its entry noted for a slot that this cycle may free (R80, R81). -/
theorem State.qPush_no_credit (q : QId) (e : List Word) (hf : (s.qCyc q).flushed = false) (h : qDepth q ≤ (s.qGet q).length) :
    s.qPush q e = (false,
      (s.inc (qStatReg q).1 (qFullPush q)).qNote { s.qCyc q with lost := (s.qCyc q).lost ++ [e] }) := by
  simp [State.qPush, hf, Nat.not_lt.2 h]

theorem State.qPush_credit (q : QId) (e : List Word) (hf : (s.qCyc q).flushed = false) (h : (s.qGet q).length < qDepth q) :
    s.qPush q e = (true, s.qLand q e) := by
  simp [State.qPush, hf, h]

/-- What a push does to a state: nothing, where it is discarded; its entry lands; or it is counted as refused (R79, R81, R84). -/
theorem State.qPush_cases (q : QId) (e : List Word) :
    (s.qPush q e).2 = s ∨ (s.qPush q e).2 = s.qLand q e ∨
      ∃ c, (s.qPush q e).2 = (s.inc (qStatReg q).1 (qFullPush q)).qNote c := by
  unfold State.qPush
  dsimp only
  split
  · exact .inl rfl
  · split
    · exact .inr (.inl rfl)
    · exact .inr (.inr ⟨_, rfl⟩)

/-- A push to one queue leaves the entries of the others. -/
theorem State.qGet_qPush_other (q q' : QId) (e : List Word) (h : q ≠ q') : (s.qPush q e).2.qGet q' = s.qGet q' := by
  obtain hs | hs | ⟨c, hs⟩ := s.qPush_cases q e
  · rw [hs]
  · rw [hs, s.qGet_qLand_other q q' e h]
  · rw [hs, State.qGet_qNote, State.qGet_inc]

/-- A push writes no register but the queue's status. -/
theorem State.keeps_qPush (q : QId) (e : List Word) : keepsWords s (s.qPush q e).2 [qStatReg q] := by
  intro p o ho hn
  obtain hs | hs | ⟨c, hs⟩ := s.qPush_cases q e
  · rw [hs]
  · rw [hs, State.qLand, State.qNote_word, s.word_qSet q _ p o ho (by simpa using hn)]
  · rw [hs, State.qNote_word, State.inc,
      s.word_put_slot (qStatReg q).1 p (qFullPush q) _ o (qStatReg_off_lt q) ho (fun e => hn (List.mem_singleton.2 e))]

/-- A pop of a queue whose cycle began with no entry left is counted (R79-R81). -/
theorem State.qPop_empty (q : QId) (hf : (s.qCyc q).flushed = false) (h : s.qOld q = []) :
    s.qPop q = (none, s.inc (qStatReg q).1 (qEmptyPop q)) := by
  simp [State.qPop, hf, h]

theorem State.qPop_cons (q : QId) (e : List Word) (l : List (List Word)) (h : s.qOld q = e :: l) :
    s.qPop q = (some e, ((s.qSet q ((s.qGet q).drop 1)).qNote { s.qCyc q with popped := (s.qCyc q).popped + 1 }).qLate q) := by
  simp [State.qPop, h]

/-! ### A refused push that lands in a freed slot (R80) -/

/-- What follows in the masters' queues leaves the entries of every queue that is no MQ. -/
theorem State.qGet_mqPushAll (src idx : Nat) (e : List Word) (q : QId) (h : ∀ i, QId.mq i ≠ q) :
    (s.mqPushAll src idx e).qGet q = s.qGet q :=
  forEach_keeps s (·.qGet q) _ (fun i t => doIf_keeps t (·.qGet q) _ _ (t.qGet_qPush_other _ _ _ (h i))) _

/-- What follows in the masters' queues leaves every register but their status. -/
theorem State.get_mqPushAll (src idx : Nat) (e : List Word) (p : Pg) (f : Fld) (hf : f.off < 0x1000) (h : f.off ≠ 0x1E8) :
    (s.mqPushAll src idx e).get p f = s.get p f := by
  refine forEach_keeps s (·.get p f) _ (fun i t => doIf_keeps t (·.get p f) _ _ ?_) _
  unfold State.get
  rw [t.keeps_qPush (.mq i) e p f.off hf (by simp [qStatReg, h])]

@[simp] theorem State.qGet_qLanded (q : QId) (e : List Word) : (s.qLanded q e).qGet q = s.qGet q := by
  cases q with
  | pq n =>
    unfold State.qLanded
    dsimp only
    rw [State.qGet_mqPushAll _ _ _ _ _ (by simp)]
    simp
  | fq n => simp [State.qLanded]
  | _ => rfl

/-- What follows when an entry has landed leaves the queue's count of refused pushes. -/
theorem State.get_qLanded_full (q : QId) (e : List Word) :
    (s.qLanded q e).get (qStatReg q).1 (qFullPush q) = s.get (qStatReg q).1 (qFullPush q) := by
  cases q with
  | pq n =>
    unfold State.qLanded State.putI
    dsimp only
    simp only [qStatReg]
    rw [State.get_mqPushAll _ _ _ _ _ _ (by decide : (0x1F0 : Nat) < 0x1000) (by decide : (0x1F0 : Nat) ≠ 0x1E8),
      State.get_put_off _ _ AX.SETP_ACC.VALUE _ _ (by simp [qFullPush, qStatReg]),
      State.get_put_off _ _ AX.SETP_VEL.VALUE _ _ (by simp [qFullPush, qStatReg]),
      State.get_put_off _ _ AX.SETP_POS.VALUE _ _ (by simp [qFullPush, qStatReg])]
  | _ => rfl

theorem State.unfire_queues (p : Pg) (i : Nat) (was : Bool) : (s.unfire p i was).queues = s.queues :=
  doIf_keeps s State.queues _ _ rfl

/-- A withdrawn event of an axis writes EV_RAW and not its PQ's counts. -/
theorem State.get_unfire_full (n : Fin 48) (i : Nat) (was : Bool) :
    (s.unfire (.ax n) i was).get (qStatReg (.pq n)).1 (qFullPush (.pq n)) = s.get (qStatReg (.pq n)).1 (qFullPush (.pq n)) :=
  doIf_keeps s (·.get (.ax n) (qFullPush (.pq n))) _ _
    (s.get_put_off (.ax n) HDR.EV_RAW.RAW (qFullPush (.pq n)) _ (by simp [qFullPush, qStatReg]))

/-- A push that was refused lands after all, and FULL_PUSH counts from the cycle's start those still refused (R80). -/
theorem State.qLate_cons (q : QId) (e : List Word) (r : List (List Word)) (h : (s.qCyc q).lost = e :: r) :
    ∃ (t : State) (c : QCyc), s.qLate q = ((t.qNote c).qLand q e).qLanded q e ∧ t.queues = s.queues ∧
      t.get (qStatReg q).1 (qFullPush q) = min 1023 ((s.qCyc q).full + r.length) := by
  have hcount : (s.put (qStatReg q).1 (qFullPush q) (min 1023 ((s.qCyc q).full + r.length))).get (qStatReg q).1 (qFullPush q) =
      min 1023 ((s.qCyc q).full + r.length) := by
    rw [s.get_put_same _ (qFullPush q) _ (by simp [qFullPush])]
    exact Nat.mod_eq_of_lt (by simp only [qFullPush]; omega)
  unfold State.qLate
  cases heng : (s.qCyc q).eng with
  | none =>
    simp only [h, heng]
    cases q with
    | pq n => exact ⟨_, _, rfl, State.unfire_queues _ _ _ _, by rw [State.get_unfire_full, hcount]⟩
    | _ => exact ⟨_, _, rfl, by rw [State.put_queues], hcount⟩
  | some kf =>
    simp only [h, heng]
    cases q with
    | pq n =>
      exact ⟨_, _, rfl, by rw [State.updEng_queues, State.unfire_queues, State.put_queues],
        by rw [State.updEng_get, State.get_unfire_full, hcount]⟩
    | _ => exact ⟨_, _, rfl, by rw [State.updEng_queues, State.put_queues], by rw [State.updEng_get, hcount]⟩

theorem State.qGet_qLate_cons (q : QId) (e : List Word) (r : List (List Word)) (h : (s.qCyc q).lost = e :: r) :
    (s.qLate q).qGet q = s.qGet q ++ [e] := by
  obtain ⟨t, c, hs, hqueues, -⟩ := s.qLate_cons q e r h
  rw [hs, State.qGet_qLanded, State.qGet_qLand_same, State.qGet_qNote, State.qGet_of_queues hqueues]

theorem State.get_qLate_full (q : QId) (e : List Word) (r : List (List Word)) (h : (s.qCyc q).lost = e :: r) :
    (s.qLate q).get (qStatReg q).1 (qFullPush q) = min 1023 ((s.qCyc q).full + r.length) := by
  obtain ⟨t, c, hs, -, hfull⟩ := s.qLate_cons q e r h
  rw [hs, State.get_qLanded_full, State.get_qLand_count _ q e (qFullPush q) rfl (by simp [qFullPush]), State.qNote_get, hfull]

/-- A pop frees a slot for the one push that its cycle has refused, and FULL_PUSH is again what the cycle began with (R80). -/
theorem State.qPop_lands_lost (q : QId) (e entry : List Word) (l : List (List Word)) (hold : s.qOld q = e :: l)
    (hlost : (s.qCyc q).lost = [entry]) :
    (s.qPop q).1 = some e ∧ (s.qPop q).2.qGet q = (s.qGet q).drop 1 ++ [entry] ∧
      (s.qPop q).2.get (qStatReg q).1 (qFullPush q) = min 1023 (s.qCyc q).full := by
  obtain ⟨hq, htick⟩ := s.qCyc_q_tick q
  have hcyc := (s.qSet q ((s.qGet q).drop 1)).qCyc_qNote q { s.qCyc q with popped := (s.qCyc q).popped + 1 } hq htick
  have hlate := (congrArg QCyc.lost hcyc).trans hlost
  rw [s.qPop_cons q e l hold]
  refine ⟨rfl, ?_, ?_⟩
  · rw [State.qGet_qLate_cons _ q entry [] hlate, State.qGet_qNote, State.qGet_qSet_same]
  · rw [State.get_qLate_full _ q entry [] hlate, hcyc, List.length_nil, Nat.add_zero]

/-! ### The refusals of a cycle that begins with the queue unused (R80, R81) -/

theorem State.get_inc_full (q : QId) :
    (s.inc (qStatReg q).1 (qFullPush q)).get (qStatReg q).1 (qFullPush q) = min 1023 (s.get (qStatReg q).1 (qFullPush q) + 1) :=
  s.get_inc_same _ (qFullPush q) (by simp [qFullPush])

theorem State.get_inc_empty (q : QId) :
    (s.inc (qStatReg q).1 (qEmptyPop q)).get (qStatReg q).1 (qEmptyPop q) = min 1023 (s.get (qStatReg q).1 (qEmptyPop q) + 1) :=
  s.get_inc_same _ (qEmptyPop q) (by simp [qEmptyPop])

section Fresh

variable {s} (hfresh : s.queuesFresh) (q : QId) (entry : List Word)
include hfresh

/-- R81: a push with no credit is refused and counted, and changes no queue. -/
theorem State.qPush_full_refused (h : qDepth q ≤ (s.qGet q).length) :
    (s.qPush q entry).1 = false ∧
      (s.qPush q entry).2.get (qStatReg q).1 (qFullPush q) = min 1023 (s.get (qStatReg q).1 (qFullPush q) + 1) ∧
      (∀ q', (s.qPush q entry).2.qGet q' = s.qGet q') ∧
      changes s (s.qPush q entry).2 { s with queues := (s.qPush q entry).2.queues } [qStatReg q] := by
  obtain ⟨-, -, hflushed, -⟩ := s.qCyc_of_fresh hfresh q
  have hkeeps := s.keeps_qPush q entry
  rw [s.qPush_no_credit q entry hflushed h] at hkeeps ⊢
  exact ⟨rfl, s.get_inc_full q, fun q' => by simp, rfl, hkeeps⟩

/-- R81: a pop of a queue that is empty as its cycle begins is refused and counted. -/
theorem State.qPop_empty_refused (h : s.qGet q = []) :
    (s.qPop q).1 = none ∧
      (s.qPop q).2.get (qStatReg q).1 (qEmptyPop q) = min 1023 (s.get (qStatReg q).1 (qEmptyPop q) + 1) ∧
      onlyWords s (s.qPop q).2 [qStatReg q] := by
  obtain ⟨-, -, hflushed, -⟩ := s.qCyc_of_fresh hfresh q
  rw [s.qPop_empty q hflushed (by simp [State.qOld, h])]
  exact ⟨rfl, s.get_inc_empty q,
    onlyWords_put s _ (qEmptyPop q) _ (qStatReg_off_lt q) _ (List.mem_singleton_self _)⟩

/-- R80, R81: an entry that the cycle has pushed into an empty queue is not there for a pop of the same cycle. -/
theorem State.qPop_pushed_refused (h : s.qGet q = []) :
    ((s.qPush q entry).2.qPop q).1 = none ∧
      ((s.qPush q entry).2.qPop q).2.get (qStatReg q).1 (qEmptyPop q) = min 1023 (s.get (qStatReg q).1 (qEmptyPop q) + 1) ∧
      ((s.qPush q entry).2.qPop q).2.qGet q = [entry] := by
  obtain ⟨hlanded, -, hflushed, -⟩ := s.qCyc_of_fresh hfresh q
  obtain ⟨hq, htick⟩ := s.qCyc_q_tick q
  have hroom : (s.qGet q).length < qDepth q := by
    cases q <;> simp [h, qDepth]
  have hcyc : (s.qLand q entry).qCyc q = { s.qCyc q with landed := (s.qCyc q).landed + 1 } :=
    State.qCyc_qNote _ q _ hq (by simpa using htick)
  have hget : (s.qLand q entry).qGet q = [entry] := by simp [h]
  have hold : (s.qLand q entry).qOld q = [] := by simp [State.qOld, hget, hcyc, hlanded]
  rw [s.qPush_credit q entry hflushed hroom, State.qPop_empty _ q (by rw [hcyc]; exact hflushed) hold]
  refine ⟨rfl, ?_, by rw [State.qGet_inc, hget]⟩
  rw [State.get_inc_empty, s.get_qLand_count q entry (qEmptyPop q) rfl (by simp [qEmptyPop])]

/-- R80: a push refused on a full queue lands in the slot that a pop of the same cycle frees, and is not counted. -/
theorem State.qPop_lands_refused (e : List Word) (more : List (List Word)) (h : s.qGet q = e :: more)
    (hfull : qDepth q ≤ more.length + 1) :
    ((s.qPush q entry).2.qPop q).1 = some e ∧
      ((s.qPush q entry).2.qPop q).2.qGet q = more ++ [entry] ∧
      ((s.qPush q entry).2.qPop q).2.get (qStatReg q).1 (qFullPush q) = s.get (qStatReg q).1 (qFullPush q) := by
  obtain ⟨hlanded, hlost, hflushed, hcount⟩ := s.qCyc_of_fresh hfresh q
  obtain ⟨hq, htick⟩ := s.qCyc_q_tick q
  have hlt : s.get (qStatReg q).1 (qFullPush q) < 2 ^ 10 := fld_lt _ _ _
  have hno : qDepth q ≤ (s.qGet q).length := by simpa [h] using hfull
  have hget : (s.qPush q entry).2.qGet q = e :: more := by
    rw [s.qPush_no_credit q entry hflushed hno, State.qGet_qNote, State.qGet_inc, h]
  have hcyc : (s.qPush q entry).2.qCyc q = { s.qCyc q with lost := [entry] } := by
    rw [s.qPush_no_credit q entry hflushed hno, hlost]
    exact State.qCyc_qNote _ q _ hq htick
  obtain ⟨hsome, hgetp, hfullp⟩ := State.qPop_lands_lost _ q e entry more
    (by simp [State.qOld, hget, hcyc, hlanded]) (congrArg QCyc.lost hcyc)
  refine ⟨hsome, by rw [hgetp, hget, List.drop_one, List.tail_cons], ?_⟩
  rw [hfullp, hcyc, hcount]
  omega

end Fresh

end Rules

/-- Settles O54: a cycle's note tells the entries it began with from those it pushed, and holds the pushes it refused. -/
theorem queueRefusals : Obligations.QueueRefusals := by
  unfold Obligations.QueueRefusals
  intro s q entry h more hfresh
  refine ⟨fun hfull => State.qPush_full_refused hfresh q entry hfull, fun hempty => ?_, fun hget hdepth => ?_⟩
  · obtain ⟨hnone, hcount, hframe⟩ := State.qPop_empty_refused hfresh q hempty
    exact ⟨hnone, hcount, hframe, State.qPop_pushed_refused hfresh q entry hempty⟩
  · exact State.qPop_lands_refused hfresh q entry h more hget hdepth.ge

end Sys2Proof.Machine
end

section
/-! PROOFS. The engines' constants (R235, R247): what an engine does at a valid instruction that passes control on to the next
address, with the store that retires and the word that the repeat cache takes; then LDI, LDIH, ADDI, CMPI, HBEAT and NOP. -/

namespace Sys2Proof.Machine

/-! ### Saturated words (R8) -/

theorem toInt_wordS (v : Int) : (wordS v).toInt = satS 36 v :=
  BitVec.toInt_ofInt_eq_self (by decide) (by unfold satS clamp; split <;> omega) (by unfold satS clamp; split <;> omega)

/-- A word's own value is not changed by saturation. -/
theorem wordS_toInt (w : Word) : wordS w.toInt = w := by
  have hlo := w.le_toInt
  have hhi := w.toInt_lt
  have hsat : satS 36 w.toInt = w.toInt := by
    unfold satS clamp
    rw [if_neg (by omega), if_neg (by omega)]
  rw [wordS, hsat, BitVec.ofInt_toInt]

theorem wordS_beq_zero (v : Int) : (wordS v == 0) = (v == 0) := by
  have hsat : satS 36 v = 0 ↔ v = 0 := by
    unfold satS clamp
    split <;> omega
  rw [Bool.eq_iff_iff, beq_iff_eq, beq_iff_eq, ← hsat, ← toInt_wordS, ← BitVec.toInt_inj]
  rfl

theorem msb_wordS (v : Int) : (wordS v).msb = decide (v < 0) := by
  have hsat : satS 36 v < 0 ↔ v < 0 := by
    unfold satS clamp
    split <;> omega
  rw [BitVec.msb_eq_toInt, toInt_wordS]
  exact decide_eq_decide.2 hsat

theorem overflows_36 (v : Int) : overflows 36 v = (decide (v < -(2 : Int) ^ 35) || decide ((2 : Int) ^ 35 ≤ v)) := by
  have hsat : satS 36 v ≠ v ↔ v < -(2 : Int) ^ 35 ∨ (2 : Int) ^ 35 ≤ v := by
    unfold satS clamp
    split <;> omega
  rw [overflows, Bool.eq_iff_iff, bne_iff_ne, hsat]
  simp

section Rules

variable (s : State) (e : Fin 13)

/-! ### Updates of an engine, one after the other -/

theorem State.updEng_updEng (f g : Engine → Engine) : (s.updEng e f).updEng e g = s.updEng e (fun x => g (f x)) := by
  simp [State.updEng]

theorem State.updEng_of_self (f : Engine → Engine) (h : f s.engs[e] = s.engs[e]) : s.updEng e f = s := by
  rw [State.updEng, h, Fin.getElem_fin, Vector.set_getElem_self]

/-- What an update makes of its engine is all that counts of it. -/
theorem State.updEng_congr {f g : Engine → Engine} (h : f s.engs[e] = g s.engs[e]) : s.updEng e f = s.updEng e g := by
  rw [State.updEng, h, State.updEng]

/-- A repeat cache put in the place of an engine's own. -/
def State.setCache (c : Cells) : State := s.updEng e (fun x => { x with cache := c })

/-- The repeat cache after an engine has executed an instruction word at an address. -/
def State.filled (a : Nat) (w : Word) : Cells := (s.cacheFill e a w).engs[e].cache

theorem State.cacheFill_eq_setCache (a : Nat) (w : Word) : s.cacheFill e a w = s.setCache e (s.filled e a w) := by
  unfold State.filled State.cacheFill State.setCache
  split
  · simp [State.updEng]
  · exact (s.updEng_of_self e _ rfl).symm

/-- The repeat cache takes no word where it holds one already (R199). -/
theorem State.filled_of_cachedWord {a : Nat} {v : Word} (h : s.cachedWord e a = some v) (w : Word) :
    s.filled e a w = s.engs[e].cache := by
  have hfind : s.engs[e].cache.find a = some v := by
    unfold State.cachedWord at h
    split at h
    · exact h
    · cases h
  rw [State.filled, State.cacheFill, hfind, Option.isNone_some, Bool.and_false, if_neg Bool.false_ne_true]

/-- A word that the repeat cache takes is held for its own address only. -/
theorem State.find_filled_ne {a b : Nat} (h : a ≠ b) (w : Word) : (s.filled e a w).find b = s.engs[e].cache.find b := by
  unfold State.filled State.cacheFill
  split
  · rw [State.updEng_self, Cells.find_put_ne _ _ _ _ h]
  · rfl

/-! ### The buffered store that retires (R204) -/

theorem State.ramPut_setCache (c : Cells) (space i : Nat) (w : Word) :
    (s.setCache e c).ramPut e space i w = (s.ramPut e space i w).setCache e c := by
  unfold State.ramPut State.setCache
  rw [State.updEng_updEng, State.updEng_updEng]
  congr 1
  funext x
  split <;> rfl

theorem State.retireOne_setCache (c : Cells) : (s.setCache e c).retireOne e = (s.retireOne e).setCache e c := by
  have hsbuf : (s.setCache e c).engs[e].sbuf = s.engs[e].sbuf := by rw [State.setCache, State.updEng_self]
  unfold State.retireOne
  rw [hsbuf]
  cases s.engs[e].sbuf with
  | nil => rfl
  | cons b r =>
    have hpop : (s.setCache e c).updEng e (fun x => { x with sbuf := r }) =
        (s.updEng e (fun x => { x with sbuf := r })).setCache e c := by
      simp only [State.setCache, State.updEng_updEng]
    dsimp only
    rw [hpop]
    exact List.foldl_hom (State.setCache · e c) (fun t x => State.ramPut_setCache t e c _ _ x.1)

/-- The repeat cache has no part in which store retires, nor in what it writes. -/
theorem State.retireFree_setCache (c : Cells) (lx ly : Bool) :
    (s.setCache e c).retireFree e lx ly = (s.retireFree e lx ly).setCache e c := by
  have hsbuf : (s.setCache e c).engs[e].sbuf = s.engs[e].sbuf := by rw [State.setCache, State.updEng_self]
  unfold State.retireFree
  rw [hsbuf]
  cases s.engs[e].sbuf with
  | nil => rfl
  | cons b r =>
    dsimp only
    split <;> split <;> simp only [State.retireOne_setCache]

/-- Words put into X or Y RAM change that RAM only. -/
theorem State.foldl_ramPut_eq (ybus : Bool) (a : Nat) (l : List (Word × Nat)) :
    ∃ xm ym, l.foldl (fun t x => t.ramPut e (if ybus then 2 else 1) (a + x.2) x.1) s =
      s.updEng e (fun x => { x with xmem := xm, ymem := ym }) := by
  induction l generalizing s with
  | nil => exact ⟨s.engs[e].xmem, s.engs[e].ymem, (s.updEng_of_self e _ rfl).symm⟩
  | cons x l ih =>
    obtain ⟨xm, ym, h⟩ := ih (s.ramPut e (if ybus then 2 else 1) (a + x.2) x.1)
    refine ⟨xm, ym, ?_⟩
    rw [List.foldl_cons, h, State.ramPut, State.updEng_updEng]
    cases ybus <;> rfl

/-- A store that retires changes the store buffer and the X and Y RAM of its engine, and nothing else. -/
theorem State.retireFree_eq (lx ly : Bool) : ∃ sb xm ym,
    s.retireFree e lx ly = s.updEng e (fun x => { x with sbuf := sb, xmem := xm, ymem := ym }) := by
  have hself : ∃ sb xm ym, s = s.updEng e (fun x => { x with sbuf := sb, xmem := xm, ymem := ym }) :=
    ⟨s.engs[e].sbuf, s.engs[e].xmem, s.engs[e].ymem, (s.updEng_of_self e _ rfl).symm⟩
  have hone : ∃ sb xm ym, s.retireOne e = s.updEng e (fun x => { x with sbuf := sb, xmem := xm, ymem := ym }) := by
    unfold State.retireOne
    split
    · exact hself
    · rename_i b r _
      obtain ⟨xm, ym, h⟩ := (s.updEng e (fun x => { x with sbuf := r })).foldl_ramPut_eq e b.ybus b.addr b.words.zipIdx
      exact ⟨r, xm, ym, by rw [h, State.updEng_updEng]⟩
  unfold State.retireFree
  split
  · exact hself
  · split <;> split
    · exact hself
    · exact hone
    · exact hself
    · exact hone

/-- A store that retires leaves the registers, the island and its engine's flags. -/
theorem State.retireFree_keeps (lx ly : Bool) :
    (s.retireFree e lx ly).regs = s.regs ∧ (s.retireFree e lx ly).si = s.si ∧
      (s.retireFree e lx ly).engs[e].flags = s.engs[e].flags := by
  obtain ⟨sb, xm, ym, hu⟩ := s.retireFree_eq e lx ly
  rw [hu, State.updEng_self]
  exact ⟨rfl, rfl, rfl⟩

/-! ### Control that goes on to the next address (R244) -/

/-- After an instruction at an address control goes on to the next one: no reset has taken the engine, no loop body ends there and no
gate of the secure partition is shut. -/
structure State.PassesOn (a : Nat) : Prop where
  stands : s.engStands e = true
  body : s.bodyEnd e a = false
  gate : s.gateShut e a (a + 1) = false

/-- An engine executes, and stands at an implemented address from which control goes on to the next. -/
structure State.StandsAt (a : Nat) : Prop where
  idle : s.engIdle e = true
  at_pc : s.engs[e].pc = a
  prog : progOk e a = true
  body : s.bodyEnd e a = false
  gate : s.gateShut e a (a + 1) = false

section Updates

variable (a : Nat) (f : Engine → Engine)

theorem State.bodyEnd_updEng (hst : (f s.engs[e]).stack = s.engs[e].stack) : (s.updEng e f).bodyEnd e a = s.bodyEnd e a := by
  unfold State.bodyEnd
  rw [s.updEng_self, hst]

theorem State.cached_updEng (hst : (f s.engs[e]).stack = s.engs[e].stack) : (s.updEng e f).cached e a = s.cached e a := by
  unfold State.cached
  rw [s.updEng_self, hst]

theorem State.engIdle_updEng (hw : (f s.engs[e]).waiting = s.engs[e].waiting) (hd : (f s.engs[e]).dead = s.engs[e].dead) :
    (s.updEng e f).engIdle e = s.engIdle e := by
  unfold State.engIdle State.engRuns
  simp only [s.updEng_self, hw, hd]
  rfl

end Updates

variable {s e} {a : Nat}

theorem State.StandsAt.passesOn (h : s.StandsAt e a) : s.PassesOn e a := by
  obtain ⟨hidle, -, -, hbody, hgate⟩ := h
  refine ⟨?_, hbody, hgate⟩
  simp only [State.engIdle, State.engRuns, State.runs, Bool.and_eq_true, Bool.not_eq_true'] at hidle
  obtain ⟨⟨⟨⟨⟨hreleased, -⟩, hsoft⟩, -⟩, -⟩, -⟩ := hidle
  simp [State.engStands, hreleased, hsoft]

/-- What an instruction does to its engine beside the loop stack does not change where control goes on to. -/
theorem State.PassesOn.updEng (h : s.PassesOn e a) (f : Engine → Engine) (hst : (f s.engs[e]).stack = s.engs[e].stack) :
    (s.updEng e f).PassesOn e a :=
  ⟨h.stands, (s.bodyEnd_updEng e a f hst).trans h.body, h.gate⟩

theorem loopEnd_of_bodyEnd (h : s.bodyEnd e a = false) : loopEnd a s.engs[e].stack = (s.engs[e].stack, a + 1, 0) := by
  unfold State.bodyEnd at h
  cases hst : s.engs[e].stack with
  | nil => rfl
  | cons x r =>
    rw [hst] at h
    cases x with
    | ret b => rfl
    | loop first last n rotf =>
      have hne : ¬ last = a := by simpa using h
      simp [loopEnd, hne]

theorem State.PassesOn.flow_next (h : s.PassesOn e a) : s.flow e a .next = s.updEng e (fun x => { x with pc := a + 1 }) := by
  have hgo : s.goPast e a = s.updEng e (fun x => { x with pc := a + 1 }) := by
    unfold State.goPast
    simp only [loopEnd_of_bodyEnd h.body, bne_self_eq_false, State.doIf_false, lt_irrefl, if_false]
    exact s.updEng_congr e rfl
  have hgate : (s.updEng e (fun x => { x with pc := a + 1 })).gateShut e a (a + 1) = false := h.gate
  unfold State.flow
  simp only [h.stands, hgo, State.updEng_self, hgate, Bool.not_true, Bool.false_eq_true, if_false]

/-! ### An instruction that passes control on -/

theorem State.engExec_uncached (hidle : s.engIdle e = true) (hc : s.cachedWord e s.engs[e].pc = none) (i : EIns) :
    s.engExec e i = s.engRun e i := by
  simp only [State.engExec, hidle, hc, Bool.not_true, Bool.false_eq_true, if_false]

/-- The word that the repeat cache holds runs, whatever instruction the row names (R199). -/
theorem State.engExec_cached (hidle : s.engIdle e = true) {w : Word} {j : EIns} (hc : s.cachedWord e s.engs[e].pc = some w)
    (hw : decodeW e w = .ins j) (i : EIns) : s.engExec e i = s.engRun e j := by
  simp only [State.engExec, hidle, hc, hw, Bool.not_true, Bool.false_eq_true, if_false]

/-- A valid instruction of every engine that is no flow instruction has its effect `f` after the buffered store that retires, and
control goes on where that effect lets it; the repeat cache takes the word. -/
theorem State.StandsAt.engRun_eq (h : s.StandsAt e a) {i : EIns} {f : State → State} (hpe : i.peOnly = false)
    (hv : i.valid e = true) (hflow : i.isFlow = false) (heff : ∀ t, i.eff e t = .ok (.next, f (t.retireFree e false false)))
    (hpass : ∀ t, t.PassesOn e a → (f t).PassesOn e a) :
    s.engRun e i = (f ((s.retireFree e false false).setCache e (s.filled e a i.word))).updEng e (fun x => { x with pc := a + 1 }) := by
  have hrun : s.engRun e i = (f ((s.retireFree e false false).setCache e (s.filled e a i.word))).flow e a .next := by
    unfold State.engRun
    simp only [h.at_pc, h.prog, hpe, hv, hflow, Bool.not_true, Bool.false_and, Bool.and_false, Bool.false_eq_true, if_false,
      State.cacheFill_eq_setCache, heff, State.retireFree_setCache]
    cases i with
    | rep | tend => cases hflow
    | _ => rfl
  rw [hrun, State.PassesOn.flow_next]
  obtain ⟨sb, xm, ym, hu⟩ := s.retireFree_eq e false false
  rw [hu]
  exact hpass _ ((h.passesOn.updEng _ rfl).updEng _ rfl)

end Rules

/-! ### LDI, LDIH, ADDI and CMPI (R235) -/

section Immediates

variable (s : State) (e : Fin 13) (d : Nat) (imm : BitVec 24)

theorem State.effImm_ldi : s.effImm e .ldi d imm.toNat = s.result e d imm.toInt false false := by
  simp only [State.effImm, BitVec.ofNat_toNat, BitVec.setWidth_eq, BitVec.toInt_signExtend_of_le (by decide : 24 ≤ 36)]

theorem State.effImm_ldih (h : imm.toNat < 4096) : s.effImm e .ldih d imm.toNat =
    s.result e d (BitVec.ofNat 36 (imm.toNat * 2 ^ 24 + (s.gGet e d).toNat % 2 ^ 24)).toInt false false := by
  simp only [State.effImm, Nat.mod_eq_of_lt h]

theorem State.effImm_addi : s.effImm e .addi d imm.toNat =
    s.result e d ((s.gGet e d).toInt + imm.toInt) (decide (2 ^ 36 ≤ (s.gGet e d).toNat + (imm.signExtend 36).toNat))
      (overflows 36 ((s.gGet e d).toInt + imm.toInt)) := by
  simp only [State.effImm, carryOut, BitVec.ofNat_toNat, BitVec.setWidth_eq, BitVec.toInt_signExtend_of_le (by decide : 24 ≤ 36)]

theorem State.effImm_cmpi : s.effImm e .cmpi d imm.toNat =
    s.flagsOf e (wordS ((s.gGet e d).toInt - imm.toInt)) (decide ((s.gGet e d).toNat < (imm.signExtend 36).toNat))
      (overflows 36 ((s.gGet e d).toInt - imm.toInt)) := by
  simp only [State.effImm, borrow, BitVec.ofNat_toNat, BitVec.setWidth_eq, BitVec.toInt_signExtend_of_le (by decide : 24 ≤ 36)]

/-- A difference sets the flags and leaves S (R226). -/
theorem State.flagsOf_sub (x y : Int) (c vf : Bool) : s.flagsOf e (wordS (x - y)) c vf =
    s.updEng e (fun z => { z with flags := { z := x == y, n := decide (x < y), c := c, v := vf, s := z.flags.s } }) := by
  have hz : (x - y == 0) = (x == y) := by
    rw [Bool.eq_iff_iff, beq_iff_eq, beq_iff_eq, Int.sub_eq_zero]
  have hn : decide (x - y < 0) = decide (x < y) := decide_eq_decide.2 sub_neg
  simp only [State.flagsOf, State.updFlags, wordS_beq_zero, msb_wordS, hz, hn]

/-- An engine with a result in a register, saturated, and its flags; S is set by a saturation and stays set (R8, R226). -/
def Engine.withResult (r : Fin 64) (v : Int) (c vf : Bool) (x : Engine) : Engine :=
  { x with
    g := x.g.set r (wordS v)
    flags := { z := v == 0, n := decide (v < 0), c := c, v := vf, s := x.flags.s || overflows 36 v } }

theorem State.result_eq (v : Int) (c vf : Bool) :
    s.result e d v c vf = s.updEng e (Engine.withResult (gPhys (isPe e) (s.rot e) d) v c vf) := by
  simp only [State.result, State.gSet, State.flagsOf, State.sticky, State.updFlags, State.updEng_updEng, wordS_beq_zero, msb_wordS]
  rfl

variable {s e d} {a : Nat}

theorem State.PassesOn.effImm (h : s.PassesOn e a) (op : ImmOp) (d imm : Nat) : (s.effImm e op d imm).PassesOn e a := by
  have hresult : ∀ v c vf, (s.result e d v c vf).PassesOn e a := fun v c vf => by
    rw [State.result_eq]
    exact h.updEng _ rfl
  cases op with
  | cmpi => exact h.updEng (fun x => { x with flags := _ }) rfl
  | _ => exact hresult _ _ _

/-- An instruction of format I reads its register as it stood, and a buffered store retires. -/
theorem State.StandsAt.engExec_imm (h : s.StandsAt e a) (hc : s.cachedWord e a = none) {op : ImmOp} {n : Nat} {f : Engine → Engine}
    (hv : (EIns.imm op d n).valid e = true)
    (hf : ∀ t : State, t.gGet e d = s.gGet e d → t.rot e = s.rot e → t.effImm e op d n = t.updEng e f) :
    s.engExec e (.imm op d n) = (s.retireFree e false false).updEng e
      (fun x => { f { x with cache := s.filled e a (EIns.imm op d n).word } with pc := a + 1 }) := by
  have hkeep : ∀ c, ((s.retireFree e false false).setCache e c).effImm e op d n =
      ((s.retireFree e false false).setCache e c).updEng e f := by
    intro c
    obtain ⟨sb, xm, ym, hu⟩ := s.retireFree_eq e false false
    refine hf _ ?_ (by rw [hu]; rfl)
    simp only [hu, State.setCache, State.updEng_updEng, State.gGet, State.updEng_self]
    rfl
  rw [State.engExec_uncached h.idle (h.at_pc ▸ hc),
    h.engRun_eq (f := fun t => t.effImm e op d n) rfl hv rfl (fun _ => rfl) (fun _ ht => ht.effImm op d n), hkeep,
    State.setCache, State.updEng_updEng, State.updEng_updEng]

theorem valid_imm {op : ImmOp} (hd : d < gCount e) (h : op = .ldih → imm.toNat < 4096) : (EIns.imm op d imm.toNat).valid e = true := by
  have hlt := imm.isLt
  cases op with
  | ldih => simp [EIns.valid, hd, hlt, h rfl]
  | _ => simp [EIns.valid, hd, hlt]

/-- R235, CMPI: the flags of the difference, in the statement's words. -/
theorem State.StandsAt.engExec_cmpi_after (h : s.StandsAt e a) (hc : s.cachedWord e a = none) (hd : d < gCount e) :
    s.engExec e (.imm .cmpi d imm.toNat) = (s.retireFree e false false).updEng e (fun x => { x with
      flags := { z := (s.gGet e d).toInt == imm.toInt, n := decide ((s.gGet e d).toInt < imm.toInt),
                 c := decide ((s.gGet e d).toNat < (imm.signExtend 36).toNat),
                 v := decide ((s.gGet e d).toInt - imm.toInt < -(2 : Int) ^ 35) ||
                   decide ((2 : Int) ^ 35 ≤ (s.gGet e d).toInt - imm.toInt),
                 s := s.engs[e].flags.s }
      pc := a + 1
      cache := s.filled e a (EIns.imm .cmpi d imm.toNat).word }) := by
  obtain ⟨-, -, hflags⟩ := s.retireFree_keeps e false false
  have hv := valid_imm (op := .cmpi) imm hd nofun
  rw [h.engExec_imm hc hv (fun t hg _ => by rw [t.effImm_cmpi, hg, State.flagsOf_sub, overflows_36])]
  refine State.updEng_congr _ _ ?_
  rw [hflags]

/-- R235: an IMM of LDIH with a bit above 11 is a reserved encoding. -/
theorem State.StandsAt.engExec_ldih_reserved (h : s.StandsAt e a) (hc : s.cachedWord e a = none) (hi : 4096 ≤ imm.toNat) :
    s.engExec e (.imm .ldih d imm.toNat) = s.trap e 2 a := by
  have hv : (EIns.imm .ldih d imm.toNat).valid e = false := by
    simp [EIns.valid, Nat.not_lt.2 hi]
  have hpe : (EIns.imm .ldih d imm.toNat).peOnly = false := rfl
  rw [State.engExec_uncached h.idle (h.at_pc ▸ hc)]
  simp only [State.engRun, h.at_pc, h.prog, hpe, hv, Bool.not_true, Bool.not_false, Bool.false_and, Bool.false_eq_true, if_false, if_true]

/-! ### LDI and then LDIH -/

/-- After an instruction that went on, the engine stands at the next address, where control may go on from there. -/
theorem State.StandsAt.of_updEng (hidle : s.engIdle e = true) (hprog : progOk e a = true) (hbody : s.bodyEnd e a = false)
    (hgate : s.gateShut e a (a + 1) = false) {f : Engine → Engine} (hpc : (f s.engs[e]).pc = a)
    (hst : (f s.engs[e]).stack = s.engs[e].stack) (hw : (f s.engs[e]).waiting = s.engs[e].waiting)
    (hd : (f s.engs[e]).dead = s.engs[e].dead) : (s.updEng e f).StandsAt e a :=
  ⟨(s.engIdle_updEng e f hw hd).trans hidle, (congrArg Engine.pc (s.updEng_self e f)).trans hpc, hprog,
    (s.bodyEnd_updEng e a f hst).trans hbody, hgate⟩

/-- The repeat cache holds no more words for an address after it has taken the word of another. -/
theorem State.cachedWord_updEng_filled {b : Nat} (hab : a ≠ b) (w : Word) {f : Engine → Engine}
    (hst : (f s.engs[e]).stack = s.engs[e].stack) (hcache : (f s.engs[e]).cache = s.filled e a w) :
    (s.updEng e f).cachedWord e b = s.cachedWord e b := by
  unfold State.cachedWord
  rw [s.cached_updEng e b f hst, s.updEng_self, hcache, s.find_filled_ne e hab]

theorem State.gGet_withResult (v : Int) (c vf : Bool) {f : Engine → Engine}
    (hg : (f s.engs[e]).g = (s.engs[e].withResult (gPhys (isPe e) (s.rot e) d) v c vf).g) :
    (s.updEng e f).gGet e d = wordS v := by
  change (s.updEng e f).engs[e].g[gPhys (isPe e) (s.rot e) d] = wordS v
  rw [s.updEng_self, hg]
  simp [Engine.withResult]

/-- The low 24 bits of a word, sign-extended and with the word's bits 35:24 in their place, are the word. -/
theorem high_over_signExtend (w : Word) :
    BitVec.ofNat 36 (w.toNat / 2 ^ 24 * 2 ^ 24 + (wordS (w.setWidth 24).toInt).toNat % 2 ^ 24) = w := by
  have hext : wordS (w.setWidth 24).toInt = (w.setWidth 24).signExtend 36 := by
    rw [← BitVec.toInt_signExtend_of_le (by decide : 24 ≤ 36), wordS_toInt]
  have hlow : ((w.setWidth 24).signExtend 36).toNat % 2 ^ 24 = w.toNat % 2 ^ 24 := by
    rw [BitVec.toNat_signExtend, BitVec.toNat_setWidth, BitVec.toNat_setWidth]
    split <;> omega
  rw [hext, hlow, Nat.div_add_mod', BitVec.ofNat_toNat, BitVec.setWidth_eq]

section Results

variable {op : ImmOp} {n : Nat} {v : Int} {c vf : Bool} (h : s.StandsAt e a) (hc : s.cachedWord e a = none)
  (hv : (EIns.imm op d n).valid e = true)
  (hres : ∀ t : State, t.gGet e d = s.gGet e d → t.effImm e op d n = t.result e d v c vf)
include h hc hv hres

/-- An instruction of format I whose effect is a result. -/
theorem State.StandsAt.engExec_result :
    s.engExec e (.imm op d n) = (s.retireFree e false false).updEng e (fun x =>
      { x.withResult (gPhys (isPe e) (s.rot e) d) v c vf with pc := a + 1, cache := s.filled e a (EIns.imm op d n).word }) :=
  h.engExec_imm hc hv (fun t hg hr => by rw [hres t hg, State.result_eq, hr])

/-- The same in the statement's words: S as it was, or set where the value lies beyond the signed range. -/
theorem State.StandsAt.engExec_result_after :
    s.engExec e (.imm op d n) = (s.retireFree e false false).updEng e (fun x => { x with
      g := x.g.set (gPhys (isPe e) (s.rot e) d) (wordS v)
      flags := { z := v == 0, n := decide (v < 0), c := c, v := vf,
                 s := s.engs[e].flags.s || (decide (v < -(2 : Int) ^ 35) || decide ((2 : Int) ^ 35 ≤ v)) }
      pc := a + 1
      cache := s.filled e a (EIns.imm op d n).word }) := by
  obtain ⟨-, -, hflags⟩ := s.retireFree_keeps e false false
  rw [h.engExec_result hc hv hres]
  refine State.updEng_congr _ _ ?_
  rw [Engine.withResult, hflags, overflows_36]

/-- A result is what its register reads afterwards. -/
theorem State.StandsAt.gGet_engExec_result : (s.engExec e (.imm op d n)).gGet e d = wordS v := by
  obtain ⟨sb, xm, ym, hu⟩ := s.retireFree_eq e false false
  rw [h.engExec_result hc hv hres, hu, State.updEng_updEng]
  exact State.gGet_withResult v c vf rfl

/-- After a result the engine stands at the next address, where its repeat cache holds nothing that it did not hold before. -/
theorem State.StandsAt.standsAt_engExec_result (hprog : progOk e (a + 1) = true) (hbody : s.bodyEnd e (a + 1) = false)
    (hgate : s.gateShut e (a + 1) (a + 2) = false) :
    (s.engExec e (.imm op d n)).StandsAt e (a + 1) ∧
      (s.engExec e (.imm op d n)).cachedWord e (a + 1) = s.cachedWord e (a + 1) := by
  obtain ⟨sb, xm, ym, hu⟩ := s.retireFree_eq e false false
  rw [h.engExec_result hc hv hres, hu, State.updEng_updEng]
  exact ⟨.of_updEng h.idle hprog hbody hgate rfl rfl rfl rfl,
    State.cachedWord_updEng_filled (Nat.ne_of_lt a.lt_succ_self) _ rfl rfl⟩

end Results

/-- R235: LDI of a constant's low 24 bits and then LDIH of its bits 35:24 leave the constant in the register. -/
theorem State.StandsAt.ldi_ldih_builds (h : s.StandsAt e a) (hc : s.cachedWord e a = none) (hd : d < gCount e)
    (hprog : progOk e (a + 1) = true) (hbody : s.bodyEnd e (a + 1) = false) (hgate : s.gateShut e (a + 1) (a + 2) = false)
    (hc' : s.cachedWord e (a + 1) = none) (w : Word) :
    ((s.engExec e (.imm .ldi d (w.setWidth 24).toNat)).engExec e
      (.imm .ldih d (BitVec.ofNat 24 (w.toNat / 2 ^ 24)).toNat)).gGet e d = w := by
  have hhigh : (BitVec.ofNat 24 (w.toNat / 2 ^ 24)).toNat = w.toNat / 2 ^ 24 := by
    rw [BitVec.toNat_ofNat]
    omega
  have hlt : (BitVec.ofNat 24 (w.toNat / 2 ^ 24)).toNat < 4096 := by omega
  have hv := valid_imm (op := .ldi) (w.setWidth 24) hd (fun hop => by cases hop)
  have hldi := fun (t : State) (_ : t.gGet e d = s.gGet e d) => t.effImm_ldi e d (w.setWidth 24)
  obtain ⟨hstands, hcached⟩ := h.standsAt_engExec_result hc hv hldi hprog hbody hgate
  have hg := h.gGet_engExec_result hc hv hldi
  have hldih := hstands.gGet_engExec_result (hcached.trans hc') (valid_imm (op := .ldih) _ hd (fun _ => hlt))
    (fun t ht => by rw [t.effImm_ldih e d _ hlt, ht, hg, hhigh, high_over_signExtend])
  rw [hldih, wordS_toInt]

end Immediates

/-! ### HBEAT and NOP (R247) -/

section Beats

variable (s : State)

theorem State.effHbeat_pe : s.effHbeat peIx = s.updSi (fun i => { i with beat := true }) := rfl

theorem State.effHbeat_engOf (k : Fin 12) : s.effHbeat (engOf k) =
    s.put (.ae k) AE.ENG_STAT.HB_CNT (s.get (.ae k) AE.ENG_STAT.HB_CNT + 1) :=
  dif_pos k.isLt

/-- A heartbeat and an update of an engine's own parts have nothing to do with each other. -/
theorem State.effHbeat_updEng (e e' : Fin 13) (f : Engine → Engine) :
    (s.updEng e' f).effHbeat e = (s.effHbeat e).updEng e' f := by
  unfold State.effHbeat
  split <;> rfl

/-- An instruction word at an address with no effect of its own: a buffered store retires, the repeat cache takes the word and control
goes on to the next address. -/
def State.goneOn (e : Fin 13) (a : Nat) (w : Word) : State :=
  (s.retireFree e false false).updEng e (fun x => { x with pc := a + 1, cache := s.filled e a w })

theorem State.goneOn_cache (e : Fin 13) (a : Nat) (w : Word) : (s.goneOn e a w).engs[e].cache = s.filled e a w := by
  rw [State.goneOn, State.updEng_self]

variable {s} {e : Fin 13} {a : Nat}

/-- Only PE has a gate, and its heartbeat writes no register. -/
theorem State.PassesOn.effHbeat (h : s.PassesOn e a) : (s.effHbeat e).PassesOn e a := by
  unfold State.effHbeat
  split
  · rename_i hlt
    have hpe : isPe e = false := beq_eq_false_iff_ne.2 (Nat.ne_of_lt hlt)
    exact ⟨h.stands, h.body, by simp [State.gateShut, hpe]⟩
  · exact ⟨h.stands, h.body, h.gate⟩

theorem State.StandsAt.engRun_nop (h : s.StandsAt e a) : s.engRun e .nop = s.goneOn e a EIns.nop.word := by
  rw [h.engRun_eq (f := id) rfl rfl rfl (fun _ => rfl) (fun _ ht => ht), id_eq, State.setCache, State.updEng_updEng]
  rfl

theorem State.StandsAt.engRun_hbeat (h : s.StandsAt e a) : s.engRun e .hbeat = (s.goneOn e a EIns.hbeat.word).effHbeat e := by
  rw [h.engRun_eq (f := fun t => t.effHbeat e) rfl rfl rfl (fun _ => rfl) (fun _ ht => ht.effHbeat), ← State.effHbeat_updEng,
    State.setCache, State.updEng_updEng]
  rfl

end Beats

/-! ### The statement -/

theorem gives_of_next {c : Instr} {s t u : State} {P : State → Prop} (hex : exec c s = .next t) (htu : t = u) (hP : P u) :
    gives c s P :=
  ⟨u, hex.trans (congrArg _ htu), hP⟩

theorem decodeW_nop (e : Fin 13) : decodeW e EIns.nop.word = .ins .nop := by
  revert e
  decide

theorem decodeW_hbeat (e : Fin 13) : decodeW e EIns.hbeat.word = .ins .hbeat := by
  revert e
  decide

/-- Settles O53: the four constants, by what each makes of its engine; then HBEAT and NOP, and the word that the cache holds. -/
theorem engineConstants : Obligations.EngineConstants := by
  unfold Obligations.EngineConstants
  constructor
  · intro s e d imm w x u g beyond after does puts hidle hc hprog hbody hgate hd
    have h : s.StandsAt e x.pc := ⟨hidle, rfl, hprog, hbody, hgate⟩
    have gives_result : ∀ {c : Instr} {op : ImmOp} {v : Int} {cf vf : Bool},
        exec c s = .next (s.engExec e (.imm op d imm.toNat)) → (EIns.imm op d imm.toNat).valid e = true →
        (∀ t : State, t.gGet e d = g → t.effImm e op d imm.toNat = t.result e d v cf vf) → does c (puts v cf vf) :=
      fun hex hv hres => gives_of_next hex (h.engExec_result_after hc hv hres) ⟨_, rfl⟩
    refine ⟨?ldi, fun hlow => ?ldih, fun hhigh => ?reserved, ?addi, ?cmpi, fun hprog' hbody' hgate' hc' => ?builds⟩
    case ldi => exact gives_result rfl (valid_imm imm hd nofun) (fun t _ => t.effImm_ldi e d imm)
    case ldih =>
      exact gives_result rfl (valid_imm imm hd (fun _ => hlow)) (fun t ht => by rw [t.effImm_ldih e d imm hlow, ht])
    case reserved => exact gives_of_next rfl (h.engExec_ldih_reserved imm hc hhigh) rfl
    case addi =>
      exact gives_result rfl (valid_imm imm hd nofun) (fun t ht => by rw [t.effImm_addi, ht, overflows_36])
    case cmpi => exact gives_of_next rfl (h.engExec_cmpi_after imm hc hd) ⟨_, rfl⟩
    case builds =>
      exact gives_of_next rfl rfl (gives_of_next rfl rfl (h.ldi_ldih_builds hc hd hprog' hbody' hgate' hc' w))
  · intro s e k w x u after fills count hidle hprog hbody hgate
    have h : s.StandsAt e x.pc := ⟨hidle, rfl, hprog, hbody, hgate⟩
    obtain ⟨hregs, hsi, -⟩ := s.retireFree_keeps e false false
    refine ⟨fun hc => ⟨?nop, fun hpe => ?pe, fun hax => ?axis⟩, fun hc hw => ?cached⟩
    case nop =>
      refine gives_of_next rfl ((State.engExec_uncached hidle hc _).trans h.engRun_nop) ?_
      have hfill := s.goneOn_cache e x.pc EIns.nop.word
      exact ⟨⟨_, decodeW_nop e, hfill⟩, by rw [hfill]; rfl⟩
    case pe =>
      subst hpe
      refine gives_of_next rfl ((State.engExec_uncached hidle hc _).trans h.engRun_hbeat) ?_
      have hfill := s.goneOn_cache peIx x.pc EIns.hbeat.word
      refine ⟨⟨_, decodeW_hbeat _, hfill⟩, ?_⟩
      rw [State.effHbeat_pe, State.updSi_engs, hfill, ← hsi]
      rfl
    case axis =>
      subst hax
      refine gives_of_next rfl ((State.engExec_uncached hidle hc _).trans h.engRun_hbeat) ?_
      have hfill := s.goneOn_cache (engOf k) x.pc EIns.hbeat.word
      have hword : ∀ p o, (s.goneOn (engOf k) x.pc EIns.hbeat.word).word p o = s.word p o := fun p o => by
        rw [State.goneOn, State.updEng_word, State.word, hregs, State.word]
      rw [State.effHbeat_engOf, State.get, hword, State.put_engs, hfill]
      refine ⟨⟨_, decodeW_hbeat _, hfill⟩, State.get_put_same _ _ _ _ (by decide), rfl, fun p o ho hn => ?_⟩
      exact (keeps_setWord _ _ _ _ (by decide) _ (List.mem_singleton_self _) p o ho hn).trans (hword p o)
    case cached =>
      refine gives_of_next rfl ((State.engExec_cached hidle hc hw _).trans h.engRun_nop) ?_
      rw [State.goneOn, s.filled_of_cachedWord e hc]
      rfl

end Sys2Proof.Machine
end
